-- ==== Sys2Proof/Word.lean ====
section
/-! DEFINITION. The word types of the part's messages and time bases, and the plain operations over
vectors that the rest of the model uses. -/

namespace Sys2Proof

/-- One byte of the serial link or of the flash. -/
abbrev Byte := BitVec 8

/-- A two-byte field (R191). -/
abbrev W16 := BitVec 16

/-- A three-byte field, as LOAD_MAP carries flash addresses and lengths (section 11.7). -/
abbrev W24 := BitVec 24

/-- A four-byte field, and a time base: 32 bits, differences taken modulo 2^32 (00_scope.md, Time). -/
abbrev W32 := BitVec 32

/-- A key number, 0..87. -/
abbrev Key := Fin 88

/-- A take id, 0..15. -/
abbrev TakeId := Fin 16

/-- A raw sensor reading, 0..4095. -/
abbrev Raw := Fin 4096

/-- Apply a function to every component, keeping the order. -/
def vmap {α β : Type} {n : Nat} (f : α → β) (v : Vector α n) : Vector β n :=
  ⟨⟨v.toList.map f⟩, by simp⟩

/-- The vector whose component `i` is `f i`. -/
def vgen {α : Type} (n : Nat) (f : Nat → α) : Vector α n :=
  ⟨⟨(List.range n).map f⟩, by simp⟩

/-- The component at an index, or a default when the index is out of range. -/
def vgetD {α : Type} {n : Nat} (v : Vector α n) (i : Nat) (d : α) : α :=
  v.toList.getD i d

/-- Replace the component at an index; an index out of range changes nothing. -/
def vset {α : Type} {n : Nat} (v : Vector α n) (i : Nat) (x : α) : Vector α n :=
  ⟨⟨v.toList.set i x⟩, by simp⟩

end Sys2Proof
end

