-- ==== Sys2Proof/Config.lean ====
section
/-! DEFINITION. What the parts this manual describes fix once, and the one free value of the model. -/

namespace Sys2Proof.Config

/-- Part revision reported by READY (R190). -/
def revision : Nat := 1

/-- The byte a flash address reads when State lists no byte there. DESIGN CHOICE, unsafe
(notes/assumptions/14.md): the manual leaves the flash contents to the instrument's maker. -/
def flashBlank : Byte := 0xFF#8

/-- The flash holds 16 MiB (R75, R76). -/
def flashBytes : Nat := 16777216

/-- Blocks of take memory and record slots of a block (R122). -/
def takeBlocks : Nat := 512
def blockSlots : Nat := 64

/-- The longest payload of a frame (R177). -/
def maxPayload : Nat := 60

/-- The settle of R110 in microseconds. -/
def settleUs : Nat := 50000

/-- Overcurrent persistence in measurements (R117). -/
def overcurrentReads : Nat := 20

/-- FREE VALUE (notes/assumptions/11.md to 13.md and 33.md). Where the manual says that either of several
simultaneous things may be taken first inside one step, or leaves one of two values open, the `n`th such choice of a run is
`pick n` reduced modulo the number of candidates. It has no body, so no proof can use its value. -/
opaque pick : Nat → Nat

end Sys2Proof.Config
end

