-- ==== Sys2Proof/Syntax.lean ====
section
/-! DEFINITION. The commands of the part: one constructor for each row of spec/opcode_table.json.
Host commands carry the payload fields of section 11.7 at their byte widths, so that a value the
part must refuse can be sent. Event rows carry what the outside supplies with the event. -/

namespace Sys2Proof

/-- The three pedals (R39). -/
inductive Pedal where
  | damper | soft | sostenuto
  deriving DecidableEq, Repr

/-- The bits of a byte on the line after its data bits (R176). -/
structure TailBits where
  parity : Bool
  stop : Bool
  deriving DecidableEq, Repr

/-- One pair of LOAD_CAL (R6). -/
structure CalPair where
  rest : W16
  bottom : W16
  deriving DecidableEq, Repr

/-- One layer of LOAD_MAP as it crosses the link (section 11.7). -/
structure LayerArg where
  upper : Byte
  start : W24
  length : W24
  loopStart : W24
  loopLength : W24
  deriving DecidableEq, Repr

/-- A take record as it crosses the link: five bytes (R192). -/
structure RawRecord where
  head : Byte
  delta : W16
  third : Byte
  fourth : Byte
  deriving DecidableEq, Repr

/-- The part's commands and events, in the order of the table. -/
inductive Instr where
  | powerOnReset
  | pinReset
  | commandReset
  /-- The end of initialization, with the first reads of the rail inputs (R105, R106, R190). -/
  | initializationEnd (current supply : Nat) (eng ret : Bool)
  | lineBreak
  | keySample (key : Key) (raw : Raw) (stamp : W32)
  | keyFaultEntry (key : Key) (raw : Raw) (stamp : W32)
  | keyFaultRecovery (key : Key) (raw : Raw) (stamp : W32)
  | pedalSample (pedal : Pedal) (raw : Raw) (stamp : W32)
  | pedalFaultEntry (pedal : Pedal) (raw : Raw) (stamp : W32)
  | pedalFaultRecovery (pedal : Pedal) (raw : Raw) (stamp : W32)
  | gapTimerExpiry
  | outputSample
  | controlBlock
  /-- One rail measurement: motor current in mA, motor supply in mV, the two switch levels (R105). -/
  | railMeasurement (current supply : Nat) (eng ret : Bool)
  /-- The filtered switch levels become these (R105, R118). -/
  | switchEvent (eng ret : Bool)
  | overcurrentFault (current supply : Nat) (eng ret : Bool)
  | settleComplete
  | clearWaitExpiry
  | runLimitExpiry
  | playerTick
  | loopJump
  | takeEnd
  | takeCopyStep
  | takeSearchStep
  | takeScaleStep
  /-- A byte on the receive line after its start bit: its 8 data bits, and its parity and stop bits as they
  stand on the line (R176). -/
  | byteReceived (byte : Byte) (tail : TailBits)
  | frameGapExpiry
  | ctsChange (asserted : Bool)
  | frameSent
  | unknownType (type : Byte) (payload : List Byte)
  | getStatus
  | resetPart
  | setNoticeClass (notice cls : Byte)
  | loadCal (keyLow keyHigh : Byte) (pairs : List CalPair)
  | calStart (keyLow keyHigh : Byte)
  | calEnd
  | setTouch (lRel lS1 lRep lS2 : W16) (h : Byte) (tSilent : W32)
  | setKeyGain (keyLow keyHigh : Byte) (gain : W16)
  | getKey (key : Byte)
  | setCurve (set : Byte) (speeds : Vector W16 12) (velocities : Vector Byte 12)
  | setSoft (strength : Byte)
  | loadPedalCal (pedal : Byte) (rest full : W16)
  | setPedal (damperLow damperHigh softLow softHigh sostOn sostOff : W16) (w : Byte)
  | getPedal (pedal : Byte)
  | setRoute (route enabled sources kinds keyLow keyHigh dests : Byte)
  | getRoute (route : Byte)
  | loadMap (key layerCount : Byte) (rHold rDamp : W16) (pan : Byte) (layers : List LayerArg)
  | setOutput (vol : W16) (layer : Byte)
  | soundOff
  | rail (target : Byte)
  | railClear
  | setRail (clearWait runLimit : W16) (currentLimit supplyMin : Byte)
  | recordStart (take mode : Byte)
  | recordStop
  | takeInfo (take : Byte)
  | takeErase (take : Byte)
  | takeOpen (take : Byte)
  | takeWrite (take count : Byte) (records : List RawRecord)
  | takeClose (take : Byte)
  | takeRead (take : Byte) (start : W16) (count : Byte)
  | play (take : Byte) (startMs : W32)
  | stop
  | pause
  | resume
  | locate (time : W32)
  | setTempo (tempo : W16)
  | setLoop (a b : W32)
  | setPasses (listen practice : Byte)
  | setGuide (wait : Byte) (grace : W16)
  | guideSkip
  | setMarkers (m0 m1 m2 m3 : W32)
  | takeCopy (src : Byte) (fromMs toMs : W32) (dst mode : Byte)
  | takeSearch (take : Byte) (start : W16) (kinds keyLow keyHigh valueLow valueHigh : Byte)
  | takeScale (take : Byte) (fromMs toMs : W32) (keyLow keyHigh : Byte) (factor : W16) (offset : Byte)
  | editAbort
  | receiveLineRise
  deriving DecidableEq, Repr

end Sys2Proof
end

