-- ==== Sys2Proof/WellFormed.lean ====
section
/-! DEFINITION. Which commands can be sent at all: a host command must fit one frame (R177), an
UNKNOWN_TYPE frame must carry a TYPE that is no command code (R182), and a measurement must lie in
the ranges of R105. Values that the part itself refuses are well-formed. -/

namespace Sys2Proof

/-- The command codes of section 11.7. -/
def commandCodes : List Nat :=
  [0x01, 0x02, 0x03, 0x10, 0x11, 0x12, 0x13, 0x14, 0x15, 0x16, 0x17, 0x18, 0x19, 0x1A, 0x20, 0x21,
   0x24, 0x25, 0x26, 0x28, 0x29, 0x2A, 0x30, 0x31, 0x32, 0x33, 0x34, 0x35, 0x36, 0x37, 0x40, 0x41,
   0x42, 0x43, 0x44, 0x45, 0x46, 0x47, 0x48, 0x49, 0x4A, 0x50, 0x51, 0x52, 0x53]

/-- A rail measurement in range (R105): current 0..4,000 mA, supply 0..20,000 mV. -/
def measurementOk (current supply : Nat) : Bool :=
  decide (current ≤ 4000) && decide (supply ≤ 20000)

/-- A command the outside can send. -/
def Instr.wf : Instr → Bool
  | .initializationEnd current supply _ _ => measurementOk current supply
  | .railMeasurement current supply _ _ => measurementOk current supply
  | .overcurrentFault current supply _ _ => measurementOk current supply
  | .unknownType type payload =>
    decide (payload.length ≤ 60) && !commandCodes.contains type.toNat
  | .loadCal _ _ pairs => decide (pairs.length ≤ 14)
  | .loadMap _ _ _ _ _ layers => decide (layers.length ≤ 4)
  | .takeWrite _ _ records => decide (records.length ≤ 11)
  | _ => true

end Sys2Proof
end

