-- ==== Sys2Proof/Decode.lean ====
section
/-! DEFINITION. The command frames of the serial link. `parseFrame` is the decoder's check of TYPE and
LEN (R182) and its reading of the payload by the layouts of section 11.7; `frameOf` writes the frame
of a host command from the same layouts. No row of opcode_table.json gives bits, so
`decodeTableWord` answers none. Every function is total. -/

namespace Sys2Proof

/-- The status codes of R183. -/
inductive Status where
  | ok | accepted | busy | badValue | badState | unknownType | badLength | takeBusy | noRoom
  deriving DecidableEq, Repr

/-- One frame without its SYNC, LEN and CHECK bytes: its TYPE and its payload (R177). LEN is the
payload's length. -/
structure Frame where
  type : Byte
  payload : List Byte
  deriving DecidableEq, Repr

/-- The low byte, then the high byte (R191). -/
def le16 (x : W16) : List Byte := [x.extractLsb' 0 8, x.extractLsb' 8 8]

/-- Three bytes, least significant first. -/
def le24 (x : W24) : List Byte := [x.extractLsb' 0 8, x.extractLsb' 8 8, x.extractLsb' 16 8]

/-- Four bytes, least significant first (R191). -/
def le32 (x : W32) : List Byte :=
  [x.extractLsb' 0 8, x.extractLsb' 8 8, x.extractLsb' 16 8, x.extractLsb' 24 8]

/-- Payload byte `i`. -/
def u8 (p : List Byte) (i : Nat) : Byte := p.getD i 0

/-- The two-byte field at `i`. -/
def u16 (p : List Byte) (i : Nat) : W16 := u8 p (i + 1) ++ u8 p i

/-- The three-byte field at `i`. -/
def u24 (p : List Byte) (i : Nat) : W24 := u8 p (i + 2) ++ (u8 p (i + 1) ++ u8 p i)

/-- The four-byte field at `i`. -/
def u32 (p : List Byte) (i : Nat) : W32 :=
  u8 p (i + 3) ++ (u8 p (i + 2) ++ (u8 p (i + 1) ++ u8 p i))

/-- The pairs of a LOAD_CAL payload from byte 2 on. -/
def calPairs (p : List Byte) (n : Nat) : List CalPair :=
  (List.range n).map fun j => ⟨u16 p (2 + 4 * j), u16 p (4 + 4 * j)⟩

/-- The layers of a LOAD_MAP payload from byte 7 on. -/
def mapLayers (p : List Byte) (n : Nat) : List LayerArg :=
  (List.range n).map fun j =>
    ⟨u8 p (7 + 13 * j), u24 p (8 + 13 * j), u24 p (11 + 13 * j), u24 p (14 + 13 * j),
      u24 p (17 + 13 * j)⟩

/-- The records of a TAKE_WRITE payload from byte 2 on (R192). -/
def writeRecords (p : List Byte) (n : Nat) : List RawRecord :=
  (List.range n).map fun j =>
    ⟨u8 p (2 + 5 * j), u16 p (3 + 5 * j), u8 p (5 + 5 * j), u8 p (6 + 5 * j)⟩

/-- The length condition of LOAD_CAL on its range and its number of pairs (R182): 1 to 14 pairs, and
as many as the range has keys when the range is one. -/
def calLengthOk (keyLow keyHigh : Byte) (n : Nat) : Bool :=
  decide (1 ≤ n ∧ n ≤ 14) &&
  (!decide (keyLow.toNat ≤ keyHigh.toNat ∧ keyHigh.toNat ≤ 87) ||
    n == keyHigh.toNat - keyLow.toNat + 1)

/-- The length condition of LOAD_MAP on its layer count and the layers carried (R182). -/
def mapLengthOk (layerCount : Byte) (n : Nat) : Bool :=
  decide (n ≤ 4) && (decide (4 < layerCount.toNat) || n == layerCount.toNat)

/-- The length condition of TAKE_WRITE on its record count and the records carried (R182). -/
def writeLengthOk (count : Byte) (n : Nat) : Bool :=
  decide (1 ≤ n ∧ n ≤ 10) && n == count.toNat

/-- A command of one fixed LEN (R182). -/
def fixedLen (f : Frame) (len : Nat) (i : Instr) : Except Status Instr :=
  if f.payload.length = len then .ok i else .error .badLength

/-- The decoder's check of a frame (R182): the command it carries, or the status of the reply that
refuses it before any block sees it. -/
def parseFrame (f : Frame) : Except Status Instr :=
  let p := f.payload
  let n := f.payload.length
  match f.type.toNat with
  | 0x01 => fixedLen f 0 .getStatus
  | 0x02 => fixedLen f 0 .resetPart
  | 0x03 => fixedLen f 2 (.setNoticeClass (u8 p 0) (u8 p 1))
  | 0x10 =>
    if 6 ≤ n ∧ n ≤ 58 ∧ (n - 2) % 4 = 0 ∧ calLengthOk (u8 p 0) (u8 p 1) ((n - 2) / 4) then
      .ok (.loadCal (u8 p 0) (u8 p 1) (calPairs p ((n - 2) / 4)))
    else .error .badLength
  | 0x11 => fixedLen f 2 (.calStart (u8 p 0) (u8 p 1))
  | 0x12 => fixedLen f 0 .calEnd
  | 0x13 => fixedLen f 13
      (.setTouch (u16 p 0) (u16 p 2) (u16 p 4) (u16 p 6) (u8 p 8) (u32 p 9))
  | 0x14 => fixedLen f 4 (.setKeyGain (u8 p 0) (u8 p 1) (u16 p 2))
  | 0x15 => fixedLen f 1 (.getKey (u8 p 0))
  | 0x16 => fixedLen f 37
      (.setCurve (u8 p 0) (vgen 12 fun j => u16 p (1 + 2 * j)) (vgen 12 fun j => u8 p (25 + j)))
  | 0x17 => fixedLen f 1 (.setSoft (u8 p 0))
  | 0x18 => fixedLen f 5 (.loadPedalCal (u8 p 0) (u16 p 1) (u16 p 3))
  | 0x19 => fixedLen f 13
      (.setPedal (u16 p 0) (u16 p 2) (u16 p 4) (u16 p 6) (u16 p 8) (u16 p 10) (u8 p 12))
  | 0x1A => fixedLen f 1 (.getPedal (u8 p 0))
  | 0x20 => fixedLen f 7
      (.setRoute (u8 p 0) (u8 p 1) (u8 p 2) (u8 p 3) (u8 p 4) (u8 p 5) (u8 p 6))
  | 0x21 => fixedLen f 1 (.getRoute (u8 p 0))
  | 0x24 =>
    if 7 ≤ n ∧ (n - 7) % 13 = 0 ∧ mapLengthOk (u8 p 1) ((n - 7) / 13) then
      .ok (.loadMap (u8 p 0) (u8 p 1) (u16 p 2) (u16 p 4) (u8 p 6) (mapLayers p ((n - 7) / 13)))
    else .error .badLength
  | 0x25 => fixedLen f 3 (.setOutput (u16 p 0) (u8 p 2))
  | 0x26 => fixedLen f 0 .soundOff
  | 0x28 => fixedLen f 1 (.rail (u8 p 0))
  | 0x29 => fixedLen f 0 .railClear
  | 0x2A => fixedLen f 6 (.setRail (u16 p 0) (u16 p 2) (u8 p 4) (u8 p 5))
  | 0x30 => fixedLen f 2 (.recordStart (u8 p 0) (u8 p 1))
  | 0x31 => fixedLen f 0 .recordStop
  | 0x32 => fixedLen f 1 (.takeInfo (u8 p 0))
  | 0x33 => fixedLen f 1 (.takeErase (u8 p 0))
  | 0x34 => fixedLen f 1 (.takeOpen (u8 p 0))
  | 0x35 =>
    if 7 ≤ n ∧ n ≤ 52 ∧ (n - 2) % 5 = 0 ∧ writeLengthOk (u8 p 1) ((n - 2) / 5) then
      .ok (.takeWrite (u8 p 0) (u8 p 1) (writeRecords p ((n - 2) / 5)))
    else .error .badLength
  | 0x36 => fixedLen f 1 (.takeClose (u8 p 0))
  | 0x37 => fixedLen f 4 (.takeRead (u8 p 0) (u16 p 1) (u8 p 3))
  | 0x40 => fixedLen f 5 (.play (u8 p 0) (u32 p 1))
  | 0x41 => fixedLen f 0 .stop
  | 0x42 => fixedLen f 0 .pause
  | 0x43 => fixedLen f 0 .resume
  | 0x44 => fixedLen f 4 (.locate (u32 p 0))
  | 0x45 => fixedLen f 2 (.setTempo (u16 p 0))
  | 0x46 => fixedLen f 8 (.setLoop (u32 p 0) (u32 p 4))
  | 0x47 => fixedLen f 2 (.setPasses (u8 p 0) (u8 p 1))
  | 0x48 => fixedLen f 3 (.setGuide (u8 p 0) (u16 p 1))
  | 0x49 => fixedLen f 0 .guideSkip
  | 0x4A => fixedLen f 16 (.setMarkers (u32 p 0) (u32 p 4) (u32 p 8) (u32 p 12))
  | 0x50 => fixedLen f 11 (.takeCopy (u8 p 0) (u32 p 1) (u32 p 5) (u8 p 9) (u8 p 10))
  | 0x51 => fixedLen f 8
      (.takeSearch (u8 p 0) (u16 p 1) (u8 p 3) (u8 p 4) (u8 p 5) (u8 p 6) (u8 p 7))
  | 0x52 => fixedLen f 14
      (.takeScale (u8 p 0) (u32 p 1) (u32 p 5) (u8 p 9) (u8 p 10) (u16 p 11) (u8 p 13))
  | 0x53 => fixedLen f 0 .editAbort
  | _ => .error .unknownType

/-- The bytes of one pair of LOAD_CAL. -/
def CalPair.bytes (c : CalPair) : List Byte := le16 c.rest ++ le16 c.bottom

/-- The bytes of one layer of LOAD_MAP. -/
def LayerArg.bytes (l : LayerArg) : List Byte :=
  l.upper :: (le24 l.start ++ le24 l.length ++ le24 l.loopStart ++ le24 l.loopLength)

/-- The five bytes of a take record (R192). -/
def RawRecord.bytes (r : RawRecord) : List Byte := r.head :: (le16 r.delta ++ [r.third, r.fourth])

/-- The frame a host command travels in (sections 11.2 and 11.7); none for an event. -/
def frameOf : Instr → Option Frame
  | .unknownType t p => some ⟨t, p⟩
  | .getStatus => some ⟨0x01#8, []⟩
  | .resetPart => some ⟨0x02#8, []⟩
  | .setNoticeClass c k => some ⟨0x03#8, [c, k]⟩
  | .loadCal lo hi ps => some ⟨0x10#8, lo :: hi :: ps.flatMap CalPair.bytes⟩
  | .calStart lo hi => some ⟨0x11#8, [lo, hi]⟩
  | .calEnd => some ⟨0x12#8, []⟩
  | .setTouch a b c d h t =>
    some ⟨0x13#8, le16 a ++ le16 b ++ le16 c ++ le16 d ++ h :: le32 t⟩
  | .setKeyGain lo hi g => some ⟨0x14#8, lo :: hi :: le16 g⟩
  | .getKey k => some ⟨0x15#8, [k]⟩
  | .setCurve c ss vs => some ⟨0x16#8, c :: (ss.toList.flatMap le16 ++ vs.toList)⟩
  | .setSoft a => some ⟨0x17#8, [a]⟩
  | .loadPedalCal p r f => some ⟨0x18#8, p :: (le16 r ++ le16 f)⟩
  | .setPedal a b c d e f w =>
    some ⟨0x19#8, le16 a ++ le16 b ++ le16 c ++ le16 d ++ le16 e ++ le16 f ++ [w]⟩
  | .getPedal p => some ⟨0x1A#8, [p]⟩
  | .setRoute r e s k lo hi d => some ⟨0x20#8, [r, e, s, k, lo, hi, d]⟩
  | .getRoute r => some ⟨0x21#8, [r]⟩
  | .loadMap k n rh rd pan ls =>
    some ⟨0x24#8, k :: n :: (le16 rh ++ le16 rd ++ pan :: ls.flatMap LayerArg.bytes)⟩
  | .setOutput v l => some ⟨0x25#8, le16 v ++ [l]⟩
  | .soundOff => some ⟨0x26#8, []⟩
  | .rail t => some ⟨0x28#8, [t]⟩
  | .railClear => some ⟨0x29#8, []⟩
  | .setRail a b c d => some ⟨0x2A#8, le16 a ++ le16 b ++ [c, d]⟩
  | .recordStart t m => some ⟨0x30#8, [t, m]⟩
  | .recordStop => some ⟨0x31#8, []⟩
  | .takeInfo t => some ⟨0x32#8, [t]⟩
  | .takeErase t => some ⟨0x33#8, [t]⟩
  | .takeOpen t => some ⟨0x34#8, [t]⟩
  | .takeWrite t n rs => some ⟨0x35#8, t :: n :: rs.flatMap RawRecord.bytes⟩
  | .takeClose t => some ⟨0x36#8, [t]⟩
  | .takeRead t i n => some ⟨0x37#8, t :: (le16 i ++ [n])⟩
  | .play t ms => some ⟨0x40#8, t :: le32 ms⟩
  | .stop => some ⟨0x41#8, []⟩
  | .pause => some ⟨0x42#8, []⟩
  | .resume => some ⟨0x43#8, []⟩
  | .locate t => some ⟨0x44#8, le32 t⟩
  | .setTempo q => some ⟨0x45#8, le16 q⟩
  | .setLoop a b => some ⟨0x46#8, le32 a ++ le32 b⟩
  | .setPasses l p => some ⟨0x47#8, [l, p]⟩
  | .setGuide w g => some ⟨0x48#8, w :: le16 g⟩
  | .guideSkip => some ⟨0x49#8, []⟩
  | .setMarkers a b c d => some ⟨0x4A#8, le32 a ++ le32 b ++ le32 c ++ le32 d⟩
  | .takeCopy s f t d m => some ⟨0x50#8, s :: (le32 f ++ le32 t ++ [d, m])⟩
  | .takeSearch t i k lo hi vl vh => some ⟨0x51#8, t :: (le16 i ++ [k, lo, hi, vl, vh])⟩
  | .takeScale t f e lo hi q o => some ⟨0x52#8, t :: (le32 f ++ le32 e ++ lo :: hi :: (le16 q ++ [o]))⟩
  | .editAbort => some ⟨0x53#8, []⟩
  | .powerOnReset | .pinReset | .commandReset | .initializationEnd _ _ _ _ | .lineBreak
  | .keySample _ _ _ | .keyFaultEntry _ _ _ | .keyFaultRecovery _ _ _ | .pedalSample _ _ _
  | .pedalFaultEntry _ _ _ | .pedalFaultRecovery _ _ _ | .gapTimerExpiry | .outputSample
  | .controlBlock | .railMeasurement _ _ _ _ | .switchEvent _ _ | .overcurrentFault _ _ _ _
  | .settleComplete | .clearWaitExpiry | .runLimitExpiry | .playerTick | .loopJump | .takeEnd
  | .takeCopyStep | .takeSearchStep | .takeScaleStep | .byteReceived _ _ | .frameGapExpiry
  | .ctsChange _ | .frameSent | .receiveLineRise => none

/-- The sum modulo 256 of a list of bytes. -/
def byteSum (bs : List Byte) : Byte := bs.foldl (· + ·) 0

/-- The CHECK byte that makes LEN, TYPE, payload and CHECK sum to 0 modulo 256 (R177). -/
def Frame.check (f : Frame) : Byte :=
  - byteSum (BitVec.ofNat 8 f.payload.length :: f.type :: f.payload)

/-- The bytes of a frame on the line (R177). -/
def Frame.bytes (f : Frame) : List Byte :=
  0xA5#8 :: BitVec.ofNat 8 f.payload.length :: f.type :: (f.payload ++ [f.check])

/-- The command a word of the table's bits spells: no row of opcode_table.json gives bits, so none
(INVENTORY.md, Instructions). -/
def decodeTableWord (_nbits _w : Nat) : Option Instr := none

end Sys2Proof
end

