-- ==== Sys2Proof/Machine/State.lean ====
section
/-! DEFINITION. Everything the manual gives the part to hold, block by block, and its value after a
reset. INVENTORY.md lists each piece with its rule. Default values of the records are the values after
a whole-part reset. -/

namespace Sys2Proof.Machine

/-! ### Sets of keys -/

/-- A set of keys 0..87, by membership. -/
abbrev KeySet := Vector Bool 88

/-- The empty set of keys. -/
def KeySet.none : KeySet := Vector.replicate 88 false

/-! ### Events and take records (R54, R126) -/

inductive Source where
  | live | playback
  deriving DecidableEq, Repr

/-- The seven event kinds with their fields (R54). -/
inductive EventKind where
  | noteOn (key : Key) (velocity : Nat) (rep : Bool)
  | noteOff (key : Key) (fault : Bool)
  | silentPress (key : Key)
  | damper (value : Nat)
  | soft (value : Nat)
  | sostOn
  | sostOff
  deriving DecidableEq, Repr

/-- An event record (R54). -/
structure Event where
  source : Source
  stamp : W32
  kind : EventKind
  deriving DecidableEq, Repr

/-- The kinds of take record with their fields (R126). -/
inductive Body where
  | noteOn (key : Key) (velocity : Nat) (rep : Bool)
  | noteOff (key : Key)
  | silentPress (key : Key)
  | damper (value : Nat)
  | soft (value : Nat)
  | sostOn
  | sostOff
  | gap
  deriving DecidableEq, Repr

/-- A take record: the time since the record before it, in ms, and its kind (R126). -/
structure Record where
  delta : Nat
  body : Body
  deriving DecidableEq, Repr

/-- The pedal state of a take or of the Player: damper, soft and sostenuto (R142, R144). -/
structure Pedals3 where
  damper : Nat := 0
  soft : Nat := 0
  sost : Bool := false
  deriving DecidableEq, Repr

/-! ### Key Scanner and Touch Unit -/

inductive KeyState where
  | offline | arming | rest | descent | struck | rearmed | repDescent | capture | fault
  deriving DecidableEq, Repr

inductive Origin where
  | first | rep
  deriving DecidableEq, Repr

/-- One key record (R3). -/
structure KeyRecord where
  state : KeyState := .offline
  rest : Nat := 0
  bottom : Nat := 0
  calibrated : Bool := false
  lastRaw : Nat := 0
  lastDepth : Nat := 0
  lastStamp : W32 := 0
  tStart : W32 := 0
  origin : Origin := .first
  outCount : Nat := 0
  inCount : Nat := 0
  capMin : Nat := 4095
  capMax : Nat := 0
  deriving DecidableEq, Repr

/-- A velocity curve: breakpoints (speed, velocity) in ascending speed (R27). -/
abbrev Curve := Vector (Nat × Nat) 12

/-- The touch settings with their reset values (R23). -/
structure Touch where
  lRel : Nat := 200
  lS1 : Nat := 300
  lRep : Nat := 640
  lS2 : Nat := 880
  h : Nat := 16
  tSilent : Nat := 400000
  gain : Vector Nat 88 := Vector.replicate 88 256
  openCurve : Curve := #v[(20, 1), (60, 8), (120, 18), (200, 30), (320, 44), (480, 58), (700, 72),
    (1000, 86), (1400, 98), (1900, 110), (2600, 120), (3600, 127)]
  stoppedCurve : Curve := #v[(20, 1), (60, 10), (120, 21), (200, 33), (320, 47), (480, 61), (700, 75),
    (1000, 88), (1400, 100), (1900, 111), (2600, 121), (3600, 127)]
  soft : Nat := 64
  deriving DecidableEq, Repr

/-! ### Pedal Unit -/

inductive PedalState where
  | uncalibrated | active | fault
  deriving DecidableEq, Repr

/-- One pedal record (R41). `sost` serves the SOSTENUTO pedal, `value` and `lastEmitted` the others. -/
structure PedalRecord where
  state : PedalState := .uncalibrated
  rest : Nat := 0
  full : Nat := 0
  window : List Nat := []
  lastRaw : Nat := 0
  avg : Nat := 0
  depth : Nat := 0
  value : Nat := 0
  lastEmitted : Nat := 0
  sost : Bool := false
  outCount : Nat := 0
  inCount : Nat := 0
  deriving DecidableEq, Repr

/-- The pedal settings (section 3.6, R48). -/
structure PedalSettings where
  damperLow : Nat := 180
  damperHigh : Nat := 760
  softLow : Nat := 100
  softHigh : Nat := 700
  sostOn : Nat := 512
  sostOff : Nat := 448
  w : Nat := 2
  deriving DecidableEq, Repr

structure PedalUnit where
  damper : PedalRecord := {}
  soft : PedalRecord := {}
  sostenuto : PedalRecord := {}
  settings : PedalSettings := {}
  deriving DecidableEq, Repr

/-! ### Event Router -/

/-- A set of destinations (R56). -/
structure Dests where
  engine : Bool := false
  recorder : Bool := false
  notify : Bool := false
  guide : Bool := false
  deriving DecidableEq, Repr

/-- One route table entry (R56). Bit `i` of `kinds` is the event kind of code `i` (section 11.9). -/
structure Route where
  enabled : Bool := false
  live : Bool := false
  playback : Bool := false
  kinds : BitVec 7 := 0
  keyLow : Nat := 0
  keyHigh : Nat := 87
  dests : Dests := {}
  deriving DecidableEq, Repr

/-- One entry of the recent-press list (R67). -/
structure Press where
  key : Key
  ms : W32
  deriving DecidableEq, Repr

structure Router where
  routes : Vector Route 16 := Vector.replicate 16 {}
  recent : List Press := []
  deriving DecidableEq, Repr

/-! ### Voice Engine -/

/-- What the engine keeps for one source (R70). -/
structure SourceState where
  down : KeySet := KeySet.none
  latch : KeySet := KeySet.none
  damper : Nat := 0
  sost : Bool := false
  deriving DecidableEq, Repr

/-- One velocity layer of a sample map entry (R75). -/
structure Layer where
  upper : Nat
  start : Nat
  length : Nat
  loopStart : Nat
  loopLength : Nat
  deriving DecidableEq, Repr

/-- A present sample map entry (R75). -/
structure MapEntry where
  layers : List Layer
  rHold : Nat
  rDamp : Nat
  pan : Nat
  deriving DecidableEq, Repr

inductive VoiceState where
  | free | held | released | cut
  deriving DecidableEq, Repr

/-- The sound parameters a voice copies at its start (R78). -/
structure Sound where
  start : Nat
  length : Nat
  loopStart : Nat
  loopLength : Nat
  rHold : Nat
  rDamp : Nat
  pan : Nat
  deriving DecidableEq, Repr

/-- One voice record (R79). -/
structure Voice where
  state : VoiceState := .free
  key : Key := 0
  source : Source := .live
  sound : Option Sound := none
  pos : Nat := 0
  level : Nat := 0
  seq : W32 := 0
  cutPos : Nat := 0
  deriving DecidableEq, Repr

/-- One entry of the pending-start queue (R84). `layer` is the layer's index in its map entry. -/
structure PendingStart where
  key : Key
  source : Source
  velocity : Nat
  layer : Nat
  released : Bool
  deriving DecidableEq, Repr

structure Engine where
  live : SourceState := {}
  playback : SourceState := {}
  map : Vector (Option MapEntry) 88 := Vector.replicate 88 none
  voices : Vector Voice 96 := Vector.replicate 96 {}
  nextSeq : W32 := 0
  queue : List PendingStart := []
  deriving DecidableEq, Repr

/-! ### Output Stage -/

structure Output where
  vol : Nat := 160
  layer : Bool := false
  mute : Nat := 480
  blockCount : Nat := 0
  left : Int := 0
  right : Int := 0
  frame : BitVec 64 := 0
  deriving DecidableEq, Repr

/-! ### Rail Controller -/

inductive RailState where
  | unknown | retracted | engaged | waitClear | moving | paused | fault
  deriving DecidableEq, Repr

/-- A target of RAIL (R108). -/
inductive RailEnd where
  | retracted | engaged
  deriving DecidableEq, Repr

/-- The rest state a move began from (R106). -/
inductive RailOrigin where
  | unknown | retracted | engaged
  deriving DecidableEq, Repr

inductive Direction where
  | inward | outward
  deriving DecidableEq, Repr

inductive FaultReason where
  | stall | overcurrent | switch
  deriving DecidableEq, Repr

inductive RailCause where
  | wait | start | pause | resume | reversed | arrived | cancelled | failed | fault | cleared
  | switchLost | found
  deriving DecidableEq, Repr

inductive RailReason where
  | none | blocked | lowSupply | stall | overcurrent | switch
  deriving DecidableEq, Repr

/-- The rail record (R106), its filtered switches and readings (R105) and the bridge outputs (R104).
Times are kept in microseconds (R110, R116). -/
structure Rail where
  state : RailState := .unknown
  target : Option RailEnd := none
  origin : Option RailOrigin := none
  direction : Option Direction := none
  runUs : Nat := 0
  waitUs : Nat := 0
  settle : Option Nat := none
  overCount : Nat := 0
  reason : Option FaultReason := none
  waitLimit : Nat := 5000
  runLimit : Nat := 1200
  currentLimit : Nat := 1200
  supplyMin : Nat := 10500
  eng : Bool := false
  ret : Bool := false
  engRun : Nat := 0
  retRun : Nat := 0
  current : Nat := 0
  supply : Nat := 0
  enable : Bool := false
  driveIn : Bool := false
  driveOut : Bool := false
  deriving DecidableEq, Repr

/-! ### Take Store, Recorder and bulk writer -/

inductive TakeState where
  | empty | recording | writing | editing | ready
  deriving DecidableEq, Repr

/-- One take directory entry (R124). -/
structure TakeEntry where
  state : TakeState := .empty
  count : Nat := 0
  duration : Nat := 0
  head : Option Nat := none
  tail : Option Nat := none
  fill : Nat := 0
  played : Bool := false
  read : Bool := false
  deriving DecidableEq, Repr

/-- Take memory (R122, R124). `slots` lists the written slots by rising slot number, which is
64 times the block plus the place in it; a slot that is not listed is cleared. A link that is `none`
reads end. -/
structure Store where
  slots : List (Nat × Record) := []
  links : Vector (Option Nat) 512 := Vector.replicate 512 none
  free : List Nat := List.range 512
  takes : Vector TakeEntry 16 := Vector.replicate 16 {}
  deriving DecidableEq, Repr

/-- A writing context (R127). -/
structure WriteCtx where
  openKeys : KeySet := KeySet.none
  damper : Nat := 0
  soft : Nat := 0
  sost : Bool := false
  last : Nat := 0
  deriving DecidableEq, Repr

/-- The Recorder's context while it is active (R130): `clock` is the recording clock in µs. -/
structure Recording where
  take : TakeId
  clock : Nat
  offset : Nat
  ctx : WriteCtx
  deriving DecidableEq, Repr

/-- The bulk writer while it is active (R136). -/
structure BulkWriting where
  take : TakeId
  cursor : Nat
  ctx : WriteCtx
  deriving DecidableEq, Repr

/-! ### Player and Guide -/

inductive PlayState where
  | stopped | playing | waiting | paused
  deriving DecidableEq, Repr

inductive PassKind where
  | listen | practice
  deriving DecidableEq, Repr

inductive PlayCause where
  | play | wait | continue | pause | resume | locate | stop | ended
  deriving DecidableEq, Repr

/-- The player context (R142). `acc` is in units of 1/256 ms. -/
structure Player where
  state : PlayState := .stopped
  take : Option TakeId := none
  cursor : Nat := 0
  acc : Nat := 0
  tempo : Nat := 256
  loop : Option (Nat × Nat) := none
  armed : Bool := false
  snapshot : Pedals3 := {}
  listen : Nat := 0
  practice : Nat := 1
  passIndex : Nat := 0
  passNumber : Nat := 0
  passKind : PassKind := .practice
  markers : Vector (Option Nat) 4 := Vector.replicate 4 none
  openKeys : KeySet := KeySet.none
  takePedals : Pedals3 := {}
  emitted : Pedals3 := {}
  deriving DecidableEq, Repr

inductive GuideOutcome where
  | shown | credited | expected | full
  deriving DecidableEq, Repr

/-- The Guide (R159). -/
structure Guide where
  wait : Bool := false
  grace : Nat := 120
  expected : KeySet := KeySet.none
  deriving DecidableEq, Repr

/-! ### Edit Unit -/

/-- A running TAKE_COPY (R164, R167): `toArg` is the argument to, `toMs` the clamped range end to', `append`
the mode (NEW is false), `base` the base time, `started` says that the scan and the chase are done, `index`
and `time` are the next source record and its take time, `saved` is dst's entry before the command. -/
structure CopyJob where
  src : TakeId
  dst : TakeId
  fromMs : Nat
  toArg : Nat
  toMs : Nat
  append : Bool
  base : Nat
  started : Bool
  index : Nat
  time : Nat
  ctx : WriteCtx
  saved : TakeEntry
  written : Nat
  deriving DecidableEq, Repr

/-- A running TAKE_SEARCH (R172): `index` is the next record to be read and `time` its take time. -/
structure SearchJob where
  take : TakeId
  start : Nat
  kinds : BitVec 7
  keyLow : Nat
  keyHigh : Nat
  valueLow : Nat
  valueHigh : Nat
  index : Nat
  time : Nat
  deriving DecidableEq, Repr

/-- A running TAKE_SCALE (R173). -/
structure ScaleJob where
  take : TakeId
  fromMs : Nat
  toMs : Nat
  keyLow : Nat
  keyHigh : Nat
  factor : Nat
  offset : Int
  index : Nat
  time : Nat
  changes : Nat
  deriving DecidableEq, Repr

/-- The edit record (R164). -/
inductive EditJob where
  | idle
  | copy (job : CopyJob)
  | search (job : SearchJob)
  | scale (job : ScaleJob)
  deriving DecidableEq, Repr

inductive EditCommand where
  | copy | search | scale
  deriving DecidableEq, Repr

inductive EditResult where
  | ok | full | aborted | notFound
  deriving DecidableEq, Repr

/-! ### Serial Link -/

inductive ResetCause where
  | power | pin | command
  deriving DecidableEq, Repr

inductive LinkReason where
  | byte | gap | length | check | overrun
  deriving DecidableEq, Repr

inductive RecordEndCause where
  | stopped | full
  deriving DecidableEq, Repr

/-- The sixteen notices with their fields (section 11.8). -/
inductive NoticeBody where
  | ready (cause : ResetCause) (rail : RailState)
  | linkSync
  | linkError (reason : LinkReason)
  | keyEvent (kind : EventKind) (source : Source) (stamp : W32)
  | pedalEvent (kind : EventKind) (source : Source) (stamp : W32)
  | keyFault (key : Key) (recovered : Bool) (raw : Nat)
  | pedalFault (pedal : Pedal) (recovered : Bool) (raw : Nat)
  | railState (state : RailState) (target : Option RailEnd) (origin : Option RailOrigin)
      (cause : RailCause) (reason : RailReason) (runMs supply : Nat)
  | recordEnd (take : TakeId) (cause : RecordEndCause) (count duration : Nat)
  | playerState (state : PlayState) (take : Option TakeId) (cause : PlayCause) (position expected : Nat)
  | pass (take : Option TakeId) (number : Nat) (kind : PassKind)
  | marker (slot time : Nat)
  /-- `none` is the indication OFF. -/
  | guide (key : Key) (outcome : Option GuideOutcome)
  | editDone (command : EditCommand) (result : EditResult) (take : TakeId) (dst : Option TakeId)
      (number count time : Nat)
  | voiceLimit (key : Key)
  | voiceDrop (key : Key) (source : Source)
  deriving DecidableEq, Repr

/-- A queued notice (R185). -/
structure Notice where
  body : NoticeBody
  cls : Nat
  ms : W32
  deriving DecidableEq, Repr

/-- How a received byte came out of the receiver (R178, R179). -/
inductive ByteError where
  /-- The byte has good parity and a good stop bit. -/
  | none
  /-- The parity bit is wrong and the stop bit is good. -/
  | parity
  /-- The stop bit is low: a framing error, whatever the parity bit (notes/assumptions/15.md). -/
  | framing
  deriving DecidableEq, Repr

/-- A reply (R183). `resets` marks the OK reply of RESET_PART, whose end begins the reset (R189). -/
structure Reply where
  type : Byte
  status : Status
  data : List Byte := []
  resets : Bool := false
  deriving DecidableEq, Repr

/-- The frame the transmitter is sending (R184). A notice's LOST bit is formed when it is taken. -/
inductive Sending where
  | reply (r : Reply)
  | notice (n : Notice) (lost : Bool)
  deriving DecidableEq, Repr

/-- The framer (R178). In BODY, `got` holds TYPE and payload bytes in order of arrival. -/
inductive Framer where
  | hunt
  | length
  | body (len : Nat) (got : List Byte)
  | check (len : Nat) (got : List Byte)
  deriving DecidableEq, Repr

/-- The default classes of the notices of codes 0x60 to 0x6F (section 11.8). -/
def defaultClasses : Vector Nat 16 := #v[3, 3, 3, 1, 1, 3, 3, 3, 2, 2, 2, 2, 2, 2, 0, 0]

structure Link where
  framer : Framer := .hunt
  gapUs : Nat := 0
  held : Bool := false
  ignoring : Bool := false
  intake : List Frame := []
  slot : Option Reply := none
  resetAwait : Bool := false
  tx : Option Sending := none
  notices : List Notice := []
  lost : Bool := false
  classes : Vector Nat 16 := defaultClasses
  cts : Bool := false
  deriving DecidableEq, Repr

/-! ### The part -/

/-- The time bases (00_scope.md, Time): `subMs` is the µs since the last whole ms. -/
structure Clock where
  us : W32 := 0
  ms : W32 := 0
  subMs : Nat := 0
  deriving DecidableEq, Repr

/-- The part. `running` is false from the start of a whole-part reset until initialization ends
(R190). `pending` is the queue of commands waiting to be taken, first in, first out. `choices` is the
model's own counter of drawn open choices (notes/assumptions/29.md). -/
structure State where
  running : Bool
  cause : ResetCause
  clock : Clock
  keys : Vector KeyRecord 88
  touch : Touch
  pedals : PedalUnit
  router : Router
  engine : Engine
  output : Output
  rail : Rail
  store : Store
  recorder : Option Recording
  bulk : Option BulkWriting
  player : Player
  guide : Guide
  edit : EditJob
  link : Link
  flash : List Host.Cell
  choices : Nat
  pending : List Instr
  deriving DecidableEq, Repr

/-- The part as a power-on reset leaves it, initialization under way (R189, R190), no command
waiting, no flash byte listed. -/
def State.reset : State where
  running := false
  cause := .power
  clock := {}
  keys := Vector.replicate 88 {}
  touch := {}
  pedals := {}
  router := {}
  engine := {}
  output := {}
  rail := {}
  store := {}
  recorder := none
  bulk := none
  player := {}
  guide := {}
  edit := .idle
  link := {}
  flash := []
  choices := 0
  pending := []

/-- Nothing makes the part fault: its faults are states of its blocks and notices
(INVENTORY.md, Faults). Safe: no claim can rest on a stop. -/
inductive Fault where
  deriving DecidableEq, Repr

/-- Why a command could have no meaning. -/
inductive Refusal where
  /-- Raised only by an arm of `exec` whose command has no meaning yet; no arm does. Safe. -/
  | notModelled (mnemonic : String)
  deriving DecidableEq, Repr

end Sys2Proof.Machine
end

