-- ==== Sys2Proof/Machine/Ops.lean ====
section
/-! DEFINITION. The operations every block uses: replacing one block of State, sets of keys, notices
(R185, R186), replies (R183), the time bases, the keyboard-clear condition (R21) and the physically
retracted condition (R107). -/

namespace Sys2Proof.Machine

/-! ### Replacing one block -/

def State.withClock (s : State) (x : Clock) : State := { s with clock := x }
def State.withKeys (s : State) (x : Vector KeyRecord 88) : State := { s with keys := x }
def State.withTouch (s : State) (x : Touch) : State := { s with touch := x }
def State.withPedals (s : State) (x : PedalUnit) : State := { s with pedals := x }
def State.withRouter (s : State) (x : Router) : State := { s with router := x }
def State.withEngine (s : State) (x : Engine) : State := { s with engine := x }
def State.withOutput (s : State) (x : Output) : State := { s with output := x }
def State.withRail (s : State) (x : Rail) : State := { s with rail := x }
def State.withStore (s : State) (x : Store) : State := { s with store := x }
def State.withRecorder (s : State) (x : Option Recording) : State := { s with recorder := x }
def State.withBulk (s : State) (x : Option BulkWriting) : State := { s with bulk := x }
def State.withPlayer (s : State) (x : Player) : State := { s with player := x }
def State.withGuide (s : State) (x : Guide) : State := { s with guide := x }
def State.withEdit (s : State) (x : EditJob) : State := { s with edit := x }
def State.withLink (s : State) (x : Link) : State := { s with link := x }
def State.withChoices (s : State) (x : Nat) : State := { s with choices := x }

/-! ### Sets of keys -/

def KeySet.mem (ks : KeySet) (k : Key) : Bool := ks.get k
def KeySet.add (ks : KeySet) (k : Key) : KeySet := ks.set k.val true k.isLt
def KeySet.remove (ks : KeySet) (k : Key) : KeySet := ks.set k.val false k.isLt
/-- The keys of the set in ascending order. -/
def KeySet.keys (ks : KeySet) : List Key := (List.finRange 88).filter fun k => ks.get k
def KeySet.card (ks : KeySet) : Nat := ks.keys.length
def KeySet.isEmpty (ks : KeySet) : Bool := ks.keys.isEmpty

/-! ### Open choices -/

/-- Draw the next open choice among `n` candidates (notes/assumptions/11.md, 12.md, 13.md, 33.md). -/
def drawChoice (n : Nat) (s : State) : Nat × State :=
  (Config.pick s.choices % n, s.withChoices (s.choices + 1))

/-! ### Notices (R185 to R187) -/

/-- The place of a notice's kind in the class table: its code less 0x60 (section 11.8). -/
def NoticeBody.kind : NoticeBody → Fin 16
  | .ready .. => 0
  | .linkSync => 1
  | .linkError .. => 2
  | .keyEvent .. => 3
  | .pedalEvent .. => 4
  | .keyFault .. => 5
  | .pedalFault .. => 6
  | .railState .. => 7
  | .recordEnd .. => 8
  | .playerState .. => 9
  | .pass .. => 10
  | .marker .. => 11
  | .guide .. => 12
  | .editDone .. => 13
  | .voiceLimit .. => 14
  | .voiceDrop .. => 15

/-- The lowest class present in a queue of notices; `none` for an empty queue. -/
def lowestClass : List Notice → Option Nat
  | [] => none
  | n :: ns =>
    match lowestClass ns with
    | none => some n.cls
    | some c => some (min n.cls c)

/-- Remove the newest notice of a class: the last one in the queue that has it. -/
def removeNewest (c : Nat) (q : List Notice) : List Notice :=
  (q.reverse.eraseP fun n => n.cls == c).reverse

/-- Place a notice in the queue (R186): with 64 queued, a lower class gives up its newest notice, or
the arriving notice is discarded; either loss sets the lost flag. -/
def Link.place (l : Link) (n : Notice) : Link :=
  if l.notices.length < 64 then { l with notices := l.notices ++ [n] }
  else
    match lowestClass l.notices with
    | none => { l with lost := true }
    | some c =>
      if c < n.cls then { l with notices := removeNewest c l.notices ++ [n], lost := true }
      else { l with lost := true }

/-- Place a notice of a kind at an ms time: its class is read from the class table now (R185). -/
def Link.note (l : Link) (body : NoticeBody) (ms : W32) : Link :=
  l.place ⟨body, l.classes.get body.kind, ms⟩

/-- Raise a notice in the step now taken (R185). -/
def raise (body : NoticeBody) (s : State) : State := s.withLink (s.link.note body s.clock.ms)

/-! ### Replies (R183) -/

/-- The TYPE of the reply to a command TYPE (R183). -/
def replyType (t : Byte) : Byte := if t.toNat < 0x80 then t + 0x80#8 else 0xFF#8

/-- Place a reply in the slot. -/
def placeReply (r : Reply) (s : State) : State := s.withLink { s.link with slot := some r }

/-- The reply with a status and no data to the command of code `code`. -/
def answer (code : Byte) (st : Status) (s : State) : State := placeReply ⟨replyType code, st, [], false⟩ s

/-- The OK reply with data to the command of code `code`. -/
def answerData (code : Byte) (data : List Byte) (s : State) : State :=
  placeReply ⟨replyType code, .ok, data, false⟩ s

/-! ### Time (00_scope.md, Time; R110, R116, R131, R179) -/

/-- Both time bases run for `n` µs. -/
def Clock.advance (c : Clock) (n : Nat) : Clock :=
  { us := c.us + BitVec.ofNat 32 n
    ms := c.ms + BitVec.ofNat 32 ((c.subMs + n) / 1000)
    subMs := (c.subMs + n) % 1000 }

/-- The rail's elapsed times run for `n` µs, each up to the end of its range (R106): a running settle,
the clear-wait elapsed in WAIT_CLEAR, the run time used in MOVING. -/
def Rail.advance (r : Rail) (n : Nat) : Rail :=
  { r with
    settle := r.settle.map fun t => min (t + n) Config.settleUs
    waitUs := if r.state = .waitClear then min (r.waitUs + n) 30000000 else r.waitUs
    runUs := if r.state = .moving then min (r.runUs + n) 4000000 else r.runUs }

/-- Whether the framer is inside a frame, so that the GAP timer runs (R179). -/
def Framer.inFrame : Framer → Bool
  | .hunt => false
  | _ => true

/-- The longest time the GAP timer needs to tell: past 1 ms and one byte time. -/
def gapLimit : Nat := 1012

/-- The GAP timer runs for `n` µs while a frame is under way. -/
def Link.advance (l : Link) (n : Nat) : Link :=
  if l.framer.inFrame then { l with gapUs := min (l.gapUs + n) gapLimit } else l

/-- `n` µs pass: the time bases and every elapsed time that decides an outcome run. -/
def advance (n : Nat) (s : State) : State :=
  { s with
    clock := s.clock.advance n
    rail := s.rail.advance n
    recorder := s.recorder.map fun r => { r with clock := r.clock + n }
    link := s.link.advance n }

/-- A sample carries the µs time of its own conversion (R1, R39), so the µs time has reached its stamp
when it is taken: if the time base is behind the stamp, the time between them passes first
(notes/assumptions/2.md). -/
def catchUp (stamp : W32) (s : State) : State :=
  let ahead := (stamp - s.clock.us).toNat
  if 0 < ahead ∧ ahead < 2147483648 then advance ahead s else s

/-! ### Conditions that several blocks read -/

/-- Whether one key leaves the keyboard clear (R21). -/
def keyClear (lS1 : Nat) (k : KeyRecord) : Bool :=
  match k.state with
  | .offline | .fault | .rest => true
  | .arming => decide (k.lastDepth < lS1)
  | .descent | .struck | .rearmed | .repDescent | .capture => false

/-- The keyboard-clear condition (R21). -/
def keyboardClear (s : State) : Bool := s.keys.toList.all (keyClear s.touch.lS1)

/-- The rail is physically retracted (R107). -/
def Rail.physicallyRetracted (r : Rail) : Bool :=
  match r.state with
  | .retracted => true
  | .waitClear => decide (r.origin = some .retracted)
  | _ => false

/-- Apply `f` only once initialization has ended: until then the receiver ignores the line, the
transmitter sends nothing, and sampling, clocks and time bases do not run (R190). -/
def whenRunning (f : State → State) (s : State) : State := if s.running then f s else s

end Sys2Proof.Machine
end

