-- ==== Sys2Proof/Machine/Flags.lean ====
section
/-! DEFINITION. The codes of the enumerated fields (section 11.9), the flags bytes and the byte forms
of replies and notices (R183, R191, R192, sections 11.7 and 11.8). -/

namespace Sys2Proof.Machine

/-! ### Bytes of numbers -/

/-- A number as one byte. -/
def b8 (n : Nat) : Byte := BitVec.ofNat 8 n
/-- A number as two bytes, least significant first (R191). -/
def b16 (n : Nat) : List Byte := le16 (BitVec.ofNat 16 n)
/-- A number as four bytes, least significant first (R191). -/
def b32 (n : Nat) : List Byte := le32 (BitVec.ofNat 32 n)
/-- on 1, off 0 (section 11.9). -/
def bit (b : Bool) : Byte := if b then 1#8 else 0#8

/-- A set of keys in 11 bytes: key `k` is bit `k` mod 8 of byte `k` / 8 (R191). -/
def keySetBytes (ks : KeySet) : List Byte :=
  (List.range 11).map fun i =>
    b8 ((List.range 8).foldl
      (fun acc j => if vgetD ks (8 * i + j) false then acc + 2 ^ j else acc) 0)

/-! ### Codes (section 11.9) -/

def statusCode : Status → Nat
  | .ok => 0 | .accepted => 1 | .busy => 2 | .badValue => 3 | .badState => 4
  | .unknownType => 5 | .badLength => 6 | .takeBusy => 7 | .noRoom => 8

def KeyState.code : KeyState → Nat
  | .offline => 0 | .arming => 1 | .rest => 2 | .descent => 3 | .struck => 4 | .rearmed => 5
  | .repDescent => 6 | .capture => 7 | .fault => 8

def EventKind.code : EventKind → Nat
  | .noteOn .. => 0 | .noteOff .. => 1 | .silentPress .. => 2 | .damper .. => 3 | .soft .. => 4
  | .sostOn => 5 | .sostOff => 6

def Body.code : Body → Nat
  | .noteOn .. => 0 | .noteOff .. => 1 | .silentPress .. => 2 | .damper .. => 3 | .soft .. => 4
  | .sostOn => 5 | .sostOff => 6 | .gap => 7

def Source.code : Source → Nat
  | .live => 0 | .playback => 1

def pedalCode : Pedal → Nat
  | .damper => 0 | .soft => 1 | .sostenuto => 2

def PedalState.code : PedalState → Nat
  | .uncalibrated => 0 | .active => 1 | .fault => 2

def RailState.code : RailState → Nat
  | .unknown => 0 | .retracted => 1 | .engaged => 2 | .waitClear => 3 | .moving => 4 | .paused => 5
  | .fault => 6

/-- A target; none is all ones (R191). -/
def targetCode : Option RailEnd → Nat
  | none => 0xFF | some .retracted => 1 | some .engaged => 2

/-- An origin; none is all ones (R191). -/
def originCode : Option RailOrigin → Nat
  | none => 0xFF | some .unknown => 0 | some .retracted => 1 | some .engaged => 2

def RailCause.code : RailCause → Nat
  | .wait => 0 | .start => 1 | .pause => 2 | .resume => 3 | .reversed => 4 | .arrived => 5
  | .cancelled => 6 | .failed => 7 | .fault => 8 | .cleared => 9 | .switchLost => 10 | .found => 11

def RailReason.code : RailReason → Nat
  | .none => 0 | .blocked => 1 | .lowSupply => 2 | .stall => 3 | .overcurrent => 4 | .switch => 5

def TakeState.code : TakeState → Nat
  | .empty => 0 | .recording => 1 | .writing => 2 | .editing => 3 | .ready => 4

def RecordEndCause.code : RecordEndCause → Nat
  | .stopped => 0 | .full => 1

def PlayState.code : PlayState → Nat
  | .stopped => 0 | .playing => 1 | .waiting => 2 | .paused => 3

def PassKind.code : PassKind → Nat
  | .listen => 0 | .practice => 1

def PlayCause.code : PlayCause → Nat
  | .play => 0 | .wait => 1 | .continue => 2 | .pause => 3 | .resume => 4 | .locate => 5 | .stop => 6
  | .ended => 7

def GuideOutcome.code : GuideOutcome → Nat
  | .shown => 0 | .credited => 1 | .expected => 2 | .full => 3

def EditCommand.code : EditCommand → Nat
  | .copy => 0 | .search => 1 | .scale => 2

def EditResult.code : EditResult → Nat
  | .ok => 0 | .full => 1 | .aborted => 2 | .notFound => 3

def LinkReason.code : LinkReason → Nat
  | .byte => 0 | .gap => 1 | .length => 2 | .check => 3 | .overrun => 4

def ResetCause.code : ResetCause → Nat
  | .power => 0 | .pin => 1 | .command => 2

/-- A take that may be none: all ones (R191). -/
def takeCode : Option TakeId → Nat
  | none => 0xFF
  | some t => t.val

/-- A block that may be none: all ones in two bytes (R191). -/
def blockCode : Option Nat → Nat
  | none => 0xFFFF
  | some b => b

/-! ### Fields of events and records -/

/-- The key of a key kind. -/
def EventKind.key? : EventKind → Option Key
  | .noteOn k _ _ => some k
  | .noteOff k _ => some k
  | .silentPress k => some k
  | _ => none

/-- The velocity of a NOTE_ON, 0 otherwise. -/
def EventKind.velocityField : EventKind → Nat
  | .noteOn _ v _ => v
  | _ => 0

/-- The value of DAMPER and SOFT, 0 otherwise. -/
def EventKind.valueField : EventKind → Nat
  | .damper v => v
  | .soft v => v
  | _ => 0

/-- The event flags of KEY_EVENT: bit 0 repeat, bit 1 fault (section 11.8). -/
def EventKind.flags : EventKind → Nat
  | .noteOn _ _ r => if r then 1 else 0
  | .noteOff _ f => if f then 2 else 0
  | _ => 0

/-- The five bytes of a record of TAKE_READ (R192). -/
def Record.bytes (r : Record) : List Byte :=
  let head := r.body.code + (match r.body with | .noteOn _ _ true => 128 | _ => 0)
  let third : Nat := match r.body with
    | .noteOn k _ _ => k.val | .noteOff k => k.val | .silentPress k => k.val
    | .damper v => v | .soft v => v | .sostOn => 0 | .sostOff => 0 | .gap => 0
  let fourth : Nat := match r.body with
    | .noteOn _ v _ => v | _ => 0
  b8 head :: (b16 r.delta ++ [b8 third, b8 fourth])

/-! ### Notices and replies on the line -/

/-- The fields of a notice after its flags and stamp (section 11.8). -/
def NoticeBody.fields : NoticeBody → List Byte
  | .ready c r => [b8 c.code, b8 r.code, b8 Config.revision]
  | .linkSync => []
  | .linkError r => [b8 r.code]
  | .keyEvent k src t =>
    [b8 k.code, b8 src.code] ++ le32 t ++
      [b8 (match k.key? with | some key => key.val | none => 0), b8 k.velocityField, b8 k.flags]
  | .pedalEvent k src t => [b8 k.code, b8 src.code] ++ le32 t ++ [b8 k.valueField]
  | .keyFault k rec raw => [b8 k.val, bit rec] ++ b16 raw
  | .pedalFault p rec raw => [b8 (pedalCode p), bit rec] ++ b16 raw
  | .railState st tg og c r run sup =>
    [b8 st.code, b8 (targetCode tg), b8 (originCode og), b8 c.code, b8 r.code] ++ b16 run ++ b16 sup
  | .recordEnd t c n d => [b8 t.val, b8 c.code] ++ b16 n ++ b32 d
  | .playerState st t c pos e => [b8 st.code, b8 (takeCode t), b8 c.code] ++ b32 pos ++ [b8 e]
  | .pass t n k => b8 (takeCode t) :: (b16 n ++ [b8 k.code])
  | .marker i t => b8 i :: b32 t
  | .guide k o =>
    [b8 k.val, bit o.isSome, b8 (match o with | some x => x.code | none => 0xFF)]
  | .editDone c r t d n cnt time =>
    [b8 c.code, b8 r.code, b8 t.val, b8 (takeCode d)] ++ b16 n ++ b16 cnt ++ b32 time
  | .voiceLimit k => [b8 k.val]
  | .voiceDrop k src => [b8 k.val, b8 src.code]

/-- A notice as a frame: flags byte with bit 0 LOST, ms stamp, fields (section 11.8). -/
def Notice.frame (n : Notice) (lost : Bool) : Frame :=
  ⟨b8 (0x60 + n.body.kind.val), bit lost :: (le32 n.ms ++ n.body.fields)⟩

/-- A reply as a frame: the status byte, and data only with OK (R183). -/
def Reply.frame (r : Reply) : Frame :=
  ⟨r.type, b8 (statusCode r.status) :: (if r.status = .ok then r.data else [])⟩

/-- The frame being sent. -/
def Sending.frame : Sending → Frame
  | .reply r => r.frame
  | .notice n lost => n.frame lost

/-! ### Bits on the line (R176) -/

/-- The even parity bit of a byte: with it the number of ones is even. -/
def evenParity (b : Byte) : Bool := (List.range 8).foldl (fun p i => xor p (b.getLsbD i)) false

/-- The parity bit and the stop bit of a byte the part sends (R176). -/
def tailOf (b : Byte) : TailBits := ⟨evenParity b, true⟩

/-- The eleven bits of a byte on the line in order (R176): a low start bit, the data bits with the least
significant first, the parity bit, the stop bit. -/
def lineBits (b : Byte) (tail : TailBits) : List Bool :=
  false :: ((List.range 8).map fun i => b.getLsbD i) ++ [tail.parity, tail.stop]

/-- The bits of a frame on the line: its bytes back to back (R176, R177). -/
def frameLineBits (f : Frame) : List Bool := f.bytes.flatMap fun b => lineBits b (tailOf b)

/-- What the transmit line carries for the frame being sent. -/
def Sending.lineBits (x : Sending) : List Bool := frameLineBits x.frame

/-- How a byte comes out of the receiver by its parity and stop bits as they stand on the line (R178, R179). -/
def byteErrorOf (b : Byte) (tail : TailBits) : ByteError :=
  if tail.stop = false then .framing else if tail.parity = evenParity b then .none else .parity

/-! ### The serial audio output (R103) -/

/-- A channel value as 24 bits of two's complement followed by 8 bits of 0. -/
def slotBits (x : Int) : BitVec 32 := BitVec.ofInt 24 x ++ (0 : Byte)

/-- One frame: the left slot first, most significant bit first, so bit 63 is sent first. -/
def audioFrame (left right : Int) : BitVec 64 := slotBits left ++ slotBits right

/-- The frame clock output in a bit period of the frame: low in the left slot, high in the right slot (R103). -/
def frameClock (period : Fin 64) : Bool := decide (32 ≤ period.val)

/-- The data line output in a bit period of a frame (R103). -/
def dataLine (frame : BitVec 64) (period : Fin 64) : Bool := frame.getMsbD period.val

/-! ### Flow control -/

/-- The RTS output (R176): asserted while the intake holds at most 2 frames, deasserted from the start
of a whole-part reset until initialization ends. -/
def State.rts (s : State) : Bool := s.running && decide (s.link.intake.length ≤ 2)

end Sys2Proof.Machine
end

