-- ==== Sys2Proof/Machine/Operands.lean ====
section
/-! DEFINITION. The operand forms of the host commands: what each coded field names (section 11.9), and
the range checks that more than one command makes. A field that names nothing reads as `none`, which
the command refuses with BAD_VALUE. -/

namespace Sys2Proof.Machine

/-- A key number field (R22, R77). -/
def keyOf (b : Byte) : Option Key := if h : b.toNat < 88 then some ⟨b.toNat, h⟩ else none

/-- A take id field (R130, R136, R139 to R141, R143). -/
def takeOf (b : Byte) : Option TakeId := if h : b.toNat < 16 then some ⟨b.toNat, h⟩ else none

/-- A route number field (R57, R58). -/
def routeOf (b : Byte) : Option (Fin 16) := if h : b.toNat < 16 then some ⟨b.toNat, h⟩ else none

/-- A pedal field (R42, R53). -/
def pedalOf (b : Byte) : Option Pedal :=
  if b.toNat = 0 then some .damper
  else if b.toNat = 1 then some .soft
  else if b.toNat = 2 then some .sostenuto
  else none

/-- An on and off field (section 11.9). -/
def switchOf (b : Byte) : Option Bool :=
  if b.toNat = 0 then some false else if b.toNat = 1 then some true else none

/-- A rail target field (R108). -/
def railEndOf (b : Byte) : Option RailEnd :=
  if b.toNat = 1 then some .retracted else if b.toNat = 2 then some .engaged else none

/-- A mode field: NEW is false, APPEND is true (R130, R166). -/
def appendOf (b : Byte) : Option Bool := switchOf b

/-- A marker slot field: all ones is none (R191). -/
def markerOf (x : W32) : Option Nat := if x = 0xFFFFFFFF#32 then none else some x.toNat

/-- A key range that is one (R5, R26, R57, R172, R173). -/
def rangeOk (lo hi : Byte) : Bool := decide (lo.toNat ≤ hi.toNat ∧ hi.toNat ≤ 87)

/-- The keys of a range, ascending. -/
def keysIn (lo hi : Nat) : List Key :=
  (List.finRange 88).filter fun k => decide (lo ≤ k.val ∧ k.val ≤ hi)

/-- A source set field: bit 0 LIVE, bit 1 PLAYBACK; another bit names no member (R57, R191). -/
def sourceSetOk (b : Byte) : Bool := decide (b.toNat < 4)
/-- A kind set field: bits 0 to 6 (R57, R172, R191). -/
def kindSetOk (b : Byte) : Bool := decide (b.toNat < 128)
/-- A destination set field: bits 0 to 3 (R57, R191). -/
def destSetOk (b : Byte) : Bool := decide (b.toNat < 16)

/-- The destination set a field names (section 11.9). -/
def destsOf (b : Byte) : Dests :=
  ⟨b.getLsbD 0, b.getLsbD 1, b.getLsbD 2, b.getLsbD 3⟩

/-- The kind set a field names. -/
def kindsOf (b : Byte) : BitVec 7 := b.extractLsb' 0 7

/-- The byte of a destination set. -/
def destsByte (d : Dests) : Byte :=
  b8 ((if d.engine then 1 else 0) + (if d.recorder then 2 else 0) + (if d.notify then 4 else 0) +
    (if d.guide then 8 else 0))

/-- The byte of a source set. -/
def sourcesByte (live playback : Bool) : Byte :=
  b8 ((if live then 1 else 0) + (if playback then 2 else 0))

/-- A record of TAKE_WRITE as a take record; `none` when its kind, a field, its head bits or its GAP
delta make it invalid by itself (R137, R192). -/
def parseRecord (r : RawRecord) : Option Record :=
  let code := r.head.toNat % 16
  let rep := r.head.getLsbD 7
  let delta := r.delta.toNat
  if r.head.extractLsb' 4 3 ≠ 0#3 then none
  else if rep && !(code == 0) then none
  else
    match code with
    | 0 =>
      match keyOf r.third with
      | some k =>
        if 1 ≤ r.fourth.toNat ∧ r.fourth.toNat ≤ 127 then some ⟨delta, .noteOn k r.fourth.toNat rep⟩
        else none
      | none => none
    | 1 => (keyOf r.third).map fun k => ⟨delta, .noteOff k⟩
    | 2 => (keyOf r.third).map fun k => ⟨delta, .silentPress k⟩
    | 3 => some ⟨delta, .damper r.third.toNat⟩
    | 4 => some ⟨delta, .soft r.third.toNat⟩
    | 5 => some ⟨delta, .sostOn⟩
    | 6 => some ⟨delta, .sostOff⟩
    | 7 => if delta = 65535 then some ⟨delta, .gap⟩ else none
    | _ => none

end Sys2Proof.Machine
end

