-- ==== Sys2Proof/Machine/Engine.lean ====
section
/-! DEFINITION. The Voice Engine (chapter 5): per-source key and pedal state, the sample map, voices,
allocation and stealing, the pending-start queue. -/

namespace Sys2Proof.Machine

/-! ### Per-source state (R70) -/

def Engine.source (e : Engine) : Source → SourceState
  | .live => e.live
  | .playback => e.playback

def Engine.withSource (e : Engine) (s : Source) (x : SourceState) : Engine :=
  match s with
  | .live => { e with live := x }
  | .playback => { e with playback := x }

/-- DAMPER (R72). -/
def Engine.damper (e : Engine) (s : Source) (v : Nat) : Engine :=
  e.withSource s { e.source s with damper := v }

/-- SOST_ON latches the keys that are down, once (R73). -/
def Engine.sostOn (e : Engine) (s : Source) : Engine :=
  let x := e.source s
  if x.sost then e else e.withSource s { x with latch := x.down, sost := true }

/-- SOST_OFF empties the latch table (R73). -/
def Engine.sostOff (e : Engine) (s : Source) : Engine :=
  e.withSource s { e.source s with latch := KeySet.none, sost := false }

/-- The Player's entry into STOPPED or PAUSED (R74). -/
def Engine.playerStop (e : Engine) : Engine :=
  { e with playback := { e.playback with damper := 0 } }

/-- Mark a key down for a source (R80, R87). -/
def Engine.markDown (e : Engine) (s : Source) (k : Key) : Engine :=
  e.withSource s { e.source s with down := (e.source s).down.add k }

/-! ### Voices -/

/-- To CUT from HELD or RELEASED, with the fade at its start; a voice in CUT or FREE is left (R88). -/
def Voice.cut (v : Voice) : Voice :=
  match v.state with
  | .held | .released => { v with state := .cut, cutPos := 0 }
  | .free | .cut => v

/-- HELD to RELEASED for a source and key (R80, R86). -/
def Voice.release (s : Source) (k : Key) (v : Voice) : Voice :=
  if v.state = .held ∧ v.source = s ∧ v.key = k then { v with state := .released } else v

/-- Set the released flag of an entry of a source and key (R80, R86). -/
def PendingStart.release (s : Source) (k : Key) (p : PendingStart) : PendingStart :=
  if p.source = s ∧ p.key = k then { p with released := true } else p

/-- Release the sound of a source and key: HELD voices and waiting entries (R80, R86). -/
def Engine.releaseKey (e : Engine) (s : Source) (k : Key) : Engine :=
  { e with voices := vmap (Voice.release s k) e.voices, queue := e.queue.map (PendingStart.release s k) }

/-- The initial level of a velocity (R78). -/
def level0 (v : Nat) : Nat := v * v * 65535 / 16129

/-- The layer of a velocity: the first whose upper velocity is at least it (R78). -/
def MapEntry.layerFor (m : MapEntry) (v : Nat) : Nat := m.layers.findIdx fun l => decide (v ≤ l.upper)

/-- The sound parameters of a layer of a map entry (R78). -/
def MapEntry.sound (m : MapEntry) (layer : Nat) : Option Sound :=
  m.layers[layer]?.map fun l =>
    ⟨l.start, l.length, l.loopStart, l.loopLength, m.rHold, m.rDamp, m.pan⟩

/-- The place of the least measure among the elements that have one; the first of equals. -/
def leastIndex {α : Type} (f : α → Option Nat) : List α → Option (Nat × Nat)
  | [] => none
  | x :: xs =>
    match f x, (leastIndex f xs).map fun (i, m) => (i + 1, m) with
    | none, r => r
    | some m, none => some (0, m)
    | some m, some (i, m') => if m ≤ m' then some (0, m) else some (i, m')

/-- How far a sequence lies ahead of the next sequence number, modulo 2^32: least for the oldest voice
(R79). -/
def Engine.age (e : Engine) (v : Voice) : Nat := (v.seq - e.nextSeq).toNat

/-- The number of a voice that is FREE, the lowest (R82). -/
def Engine.freeVoice (e : Engine) : Option Nat :=
  (leastIndex (fun v => if v.state = .free then some 0 else none) e.voices.toList).map Prod.fst

/-- The victim of a steal (R83): the RELEASED voice of the lowest level, the lowest-numbered of equals;
else the oldest HELD voice. -/
def Engine.victim (e : Engine) : Option Nat :=
  match leastIndex (fun v => if v.state = .released then some v.level else none) e.voices.toList with
  | some (i, _) => some i
  | none =>
    (leastIndex (fun v => if v.state = .held then some (e.age v) else none) e.voices.toList).map Prod.fst

/-- The oldest voice of a key in HELD or RELEASED (R81). -/
def Engine.oldestOfKey (e : Engine) (k : Key) : Option Nat :=
  (leastIndex (fun v =>
    if (v.state = .held ∨ v.state = .released) ∧ v.key = k then some (e.age v) else none)
    e.voices.toList).map Prod.fst

/-- The count of a key (R81): its voices in HELD or RELEASED and its waiting entries. -/
def Engine.keyCount (e : Engine) (k : Key) : Nat :=
  e.voices.toList.countP (fun v => decide ((v.state = .held ∨ v.state = .released) ∧ v.key = k)) +
    e.queue.countP fun p => decide (p.key = k)

/-- The number of voices outside FREE (R188). -/
def Engine.busyVoices (e : Engine) : Nat :=
  e.voices.toList.countP fun v => decide (v.state ≠ .free)

/-- Cut one voice. -/
def Engine.cutVoice (e : Engine) (i : Nat) : Engine :=
  { e with voices := vset e.voices i (vgetD e.voices i {}).cut }

/-- Start a note on a voice (R78, R79, R82, R85). -/
def Engine.startVoice (e : Engine) (i : Nat) (k : Key) (s : Source) (velocity layer : Nat)
    (state : VoiceState) : Engine :=
  { e with
    voices := vset e.voices i
      { state := state, key := k, source := s
        sound := (e.map.get k).bind fun m => m.sound layer
        pos := 0, level := level0 velocity, seq := e.nextSeq, cutPos := 0 }
    nextSeq := e.nextSeq + 1 }

/-- Make room within a key at its limit (R81): whether the limit acted, and the engine after it. -/
def Engine.limitKey (e : Engine) (k : Key) : Bool × Engine :=
  if e.keyCount k < 4 then (false, e)
  else if e.queue.any fun p => decide (p.key = k) then
    (true, { e with queue := e.queue.eraseP fun p => decide (p.key = k) })
  else
    match e.oldestOfKey k with
    | some i => (true, e.cutVoice i)
    | none => (false, e)

/-- Find the new note a voice (R82, R83): whether the note is dropped, and the engine after it. -/
def Engine.allocate (e : Engine) (k : Key) (s : Source) (velocity layer : Nat) : Bool × Engine :=
  match e.freeVoice with
  | some i => (false, e.startVoice i k s velocity layer .held)
  | none =>
    if 16 ≤ e.queue.length then (true, e)
    else
      let e := match e.victim with
        | some i => e.cutVoice i
        | none => e
      (false, { e with queue := e.queue ++ [⟨k, s, velocity, layer, false⟩] })

/-- NOTE_ON (R80 to R83), with the notices it raises in order (R91). -/
def Engine.noteOn (e : Engine) (s : Source) (k : Key) (velocity : Nat) : List NoticeBody × Engine :=
  let e := e.markDown s k
  match e.map.get k with
  | none => ([], e)
  | some m =>
    let e := e.releaseKey s k
    let (limited, e) := e.limitKey k
    let (dropped, e) := e.allocate k s velocity (m.layerFor velocity)
    ((if limited then [.voiceLimit k] else []) ++ (if dropped then [.voiceDrop k s] else []), e)

/-- NOTE_OFF (R86). -/
def Engine.noteOff (e : Engine) (s : Source) (k : Key) : Engine :=
  (e.withSource s { e.source s with down := (e.source s).down.remove k }).releaseKey s k

/-- An event delivered to ENGINE (R71 to R73, R80, R86, R87). -/
def engineEvent (ev : Event) (s : State) : State :=
  let e := s.engine
  match ev.kind with
  | .noteOn k v _ =>
    let (notices, e') := e.noteOn ev.source k v
    notices.foldl (fun s n => raise n s) (s.withEngine e')
  | .noteOff k _ => s.withEngine (e.noteOff ev.source k)
  | .silentPress k => s.withEngine (e.markDown ev.source k)
  | .damper v => s.withEngine (e.damper ev.source v)
  | .soft _ => s
  | .sostOn => s.withEngine (e.sostOn ev.source)
  | .sostOff => s.withEngine (e.sostOff ev.source)

/-! ### Voices that become FREE (R85) -/

/-- The oldest waiting entry starts on a freed voice (R85). -/
def Engine.takePending (e : Engine) (i : Nat) : Engine :=
  match e.queue with
  | [] => e
  | p :: rest =>
    { e with queue := rest }.startVoice i p.key p.source p.velocity p.layer
      (if p.released then .released else .held)

/-- Offer freed voices to the waiting entries (R85). When several voices become FREE together and an
entry waits, which is taken first is an open choice (notes/assumptions/12.md). The first argument
bounds the recursion by the number of freed voices. -/
def offerFreed : Nat → List Nat → State → State
  | 0, _, s => s
  | _ + 1, [], s => s
  | _ + 1, [i], s => s.withEngine (s.engine.takePending i)
  | n + 1, is, s =>
    if s.engine.queue.isEmpty then s
    else
      let (c, s) := drawChoice is.length s
      let i := is.getD c 0
      offerFreed n (is.eraseIdx c) (s.withEngine (s.engine.takePending i))

/-- The voices that were outside FREE before a step and are FREE after it, ascending. -/
def freedVoices (before after : Vector Voice 96) : List Nat :=
  (List.range 96).filter fun i =>
    decide ((vgetD before i {}).state ≠ .free) && decide ((vgetD after i {}).state = .free)

/-- Replace the voices and offer those that became FREE to the waiting entries. -/
def storeVoices (after : Vector Voice 96) (s : State) : State :=
  let freed := freedVoices s.engine.voices after
  offerFreed freed.length freed (s.withEngine { s.engine with voices := after })

/-! ### Control blocks (R94, R95) -/

/-- The decay factor of a voice (R95). -/
def Engine.decay (e : Engine) (v : Voice) (p : Sound) : Nat :=
  let x := e.source v.source
  if v.state = .held ∨ x.down.mem v.key = true ∨ x.latch.mem v.key = true then p.rHold
  else p.rDamp + (p.rHold - p.rDamp) * x.damper / 255

/-- One voice at a control block: its level decays, and below 16 it becomes FREE (R90, R94). -/
def Engine.blockVoice (e : Engine) (v : Voice) : Voice :=
  match v.state, v.sound with
  | .held, some p | .released, some p =>
    let level := v.level * e.decay v p / 65536
    { v with level := level, state := if level < 16 then .free else v.state }
  | _, _ => v

/-- A control block (R94): every voice is updated, then freed voices go to waiting entries, and the
count of output samples starts again (R92). -/
def takeControlBlock (s : State) : State :=
  let s := s.withOutput { s.output with blockCount := 0 }
  storeVoices (vmap s.engine.blockVoice s.engine.voices) s

/-! ### Commands of the Voice Engine -/

/-- SOUND_OFF (R89). -/
def cmdSoundOff (s : State) : State :=
  answer 0x26#8 .ok (s.withEngine { s.engine with voices := vmap Voice.cut s.engine.voices, queue := [] })

/-- The layers of LOAD_MAP as the map holds them. -/
def layerOf (a : LayerArg) : Layer :=
  ⟨a.upper.toNat, a.start.toNat, a.length.toNat, a.loopStart.toNat, a.loopLength.toNat⟩

/-- Upper velocities in 1..127, strictly ascending from above `low`, the last 127 (R76). -/
def uppersOk (low : Nat) : List Layer → Bool
  | [] => low == 127
  | l :: ls => decide (low < l.upper ∧ l.upper ≤ 127) && uppersOk l.upper ls

/-- The checks of one layer's addresses (R76). -/
def layerOk (l : Layer) : Bool :=
  l.start % 2 == 0 && decide (1 ≤ l.length ∧ l.length ≤ 4194304) &&
    decide (l.loopStart + l.loopLength ≤ l.length) &&
    decide (l.start + 2 * l.length ≤ Config.flashBytes)

/-- The checks of LOAD_MAP that apply with one layer or more (R76). -/
def mapOk (rHold rDamp pan : Nat) (layers : List Layer) : Bool :=
  uppersOk 0 layers && layers.all layerOk && decide (rHold ≤ 65535 ∧ rDamp ≤ rHold) &&
    decide (pan ≤ 128)

/-- Cut the key's voices, remove its waiting entries and install or remove its entry (R77). -/
def Engine.installMap (e : Engine) (k : Key) (m : Option MapEntry) : Engine :=
  { e with
    voices := vmap (fun v => if v.key = k then v.cut else v) e.voices
    queue := e.queue.filter fun p => decide (p.key ≠ k)
    map := e.map.set k.val m k.isLt }

/-- LOAD_MAP (R76, R77, R182). -/
def cmdLoadMap (key layerCount : Byte) (rHold rDamp : W16) (pan : Byte) (layers : List LayerArg)
    (s : State) : State :=
  if !mapLengthOk layerCount layers.length then answer 0x24#8 .badLength s
  else
    match keyOf key with
    | none => answer 0x24#8 .badValue s
    | some k =>
      let ls := layers.map layerOf
      if 4 < layerCount.toNat then answer 0x24#8 .badValue s
      else if layerCount = 0#8 then
        answer 0x24#8 .ok (s.withEngine (s.engine.installMap k none))
      else if mapOk rHold.toNat rDamp.toNat pan.toNat ls then
        answer 0x24#8 .ok
          (s.withEngine (s.engine.installMap k (some ⟨ls, rHold.toNat, rDamp.toNat, pan.toNat⟩)))
      else answer 0x24#8 .badValue s

end Sys2Proof.Machine
end

