-- ==== Sys2Proof/Machine/Output.lean ====
section
/-! DEFINITION. The Output Stage (chapter 6): reading the recordings, the contribution of a voice, the
CUT fade, mixing, volume, saturation, the mute ramp, the serial audio frame. -/

namespace Sys2Proof.Machine

/-! ### The serial flash (R96) -/

/-- A byte of the flash: what State lists for the address, else the blank byte
(notes/assumptions/14.md). -/
def flashByte (m : List Host.Cell) (a : Nat) : Byte :=
  match m with
  | [] => Config.flashBlank
  | (b, x) :: rest => if a = b then x else flashByte rest a

/-- Place a byte in the flash from outside the part, keeping the canonical form: addresses rising, no
blank byte listed. The part itself never writes the flash (R96). -/
def flashWrite (m : List Host.Cell) (a : Nat) (x : Byte) : List Host.Cell :=
  match m with
  | [] => if x = Config.flashBlank then [] else [(a, x)]
  | (b, y) :: rest =>
    if a < b then (if x = Config.flashBlank then m else (a, x) :: m)
    else if a = b then (if x = Config.flashBlank then rest else (a, x) :: rest)
    else (b, y) :: flashWrite rest a x

/-- The canonical form of the flash: addresses strictly rising from `low` and inside the flash, no blank
byte listed. -/
def flashWfFrom (low : Nat) : List Host.Cell → Bool
  | [] => true
  | (a, x) :: rest =>
    decide (low ≤ a) && decide (a < Config.flashBytes) && decide (x ≠ Config.flashBlank) &&
      flashWfFrom (a + 1) rest

/-- The flash is in canonical form. -/
def Memory.wf (m : List Host.Cell) : Bool := flashWfFrom 0 m

/-- The sample at a position: two bytes, low byte first, two's complement (R96). -/
def sampleAt (m : List Host.Cell) (p : Sound) (pos : Nat) : Int :=
  (flashByte m (p.start + 2 * pos + 1) ++ flashByte m (p.start + 2 * pos) : BitVec 16).toInt

/-! ### One voice at one output sample -/

/-- The contribution of a voice before panning (R98). -/
def Voice.contribution (m : List Host.Cell) (v : Voice) (p : Sound) : Int :=
  let a := (sampleAt m p v.pos * v.level) / 65536
  if v.state = .cut then (a * (64 - v.cutPos : Int)) / 64 else a

/-- The left and right terms of a voice (R98); a FREE voice contributes nothing. -/
def Voice.terms (m : List Host.Cell) (v : Voice) : Int × Int :=
  match v.state, v.sound with
  | .free, _ => (0, 0)
  | _, none => (0, 0)
  | _, some p =>
    let a := v.contribution m p
    (a * (128 - p.pan : Int), a * (p.pan : Int))

/-- The position after one sample, and whether the recording has ended (R97). -/
def nextPos (p : Sound) (pos : Nat) : Nat × Bool :=
  if p.loopLength ≠ 0 then
    (if pos + 1 = p.loopStart + p.loopLength then p.loopStart else pos + 1, false)
  else (pos + 1, decide (pos + 1 = p.length))

/-- A voice advances at an output sample: its position (R97) and, in CUT, its fade (R88). -/
def Voice.advance (v : Voice) : Voice :=
  match v.state, v.sound with
  | .free, _ => v
  | _, none => v
  | st, some p =>
    let (pos, ended) := nextPos p v.pos
    let cutPos := if st = .cut then v.cutPos + 1 else v.cutPos
    { v with
      pos := pos
      cutPos := cutPos
      state := if ended ∨ (st = .cut ∧ cutPos = 64) then .free else st }

/-! ### The output sample -/

/-- Saturation (R99). -/
def saturate (x : Int) : Int := max (-8388607) (min x 8388607)

/-- One channel: volume, saturation, mute gain (R99, R100). -/
def channel (vol mute : Nat) (sum : Int) : Int :=
  (saturate (sum * vol / 128) * mute) / 480

/-- The mute condition (R100). -/
def muteCondition (s : State) : Bool := s.rail.physicallyRetracted && !s.output.layer

/-- One step of the mute gain (R100). -/
def muteStep (holds : Bool) (m : Nat) : Nat :=
  if holds then m - 1 else if m < 480 then m + 1 else m

/-- The left and right sums of every voice (R99). -/
def mixSums (s : State) : Int × Int :=
  s.engine.voices.toList.foldl
    (fun acc v =>
      let t := v.terms s.flash
      (acc.1 + t.1, acc.2 + t.2))
    (0, 0)

/-- One output sample, whole (R92, R93). -/
def formOutputSample (s : State) : State :=
  let sums := mixSums s
  let mute := muteStep (muteCondition s) s.output.mute
  let left := channel s.output.vol mute sums.1
  let right := channel s.output.vol mute sums.2
  let s := s.withOutput
    { s.output with
      mute := mute, left := left, right := right, frame := audioFrame left right
      blockCount := s.output.blockCount + 1 }
  storeVoices (vmap Voice.advance s.engine.voices) s

/-- An output sample arrives: a control block that is due is taken between the sample that closes the
block and this one (R92, notes/assumptions/6.md). -/
def takeOutputSample (s : State) : State :=
  formOutputSample (if 48 ≤ s.output.blockCount then takeControlBlock s else s)

/-- A control block arrives; it is due after the 48th output sample since the last (R92,
notes/assumptions/4.md). -/
def takeBlockEvent (s : State) : State :=
  if 48 ≤ s.output.blockCount then takeControlBlock s else s

/-- SET_OUTPUT (R102). -/
def cmdSetOutput (vol : W16) (layer : Byte) (s : State) : State :=
  match switchOf layer with
  | some l =>
    if vol.toNat ≤ 255 then
      answer 0x25#8 .ok (s.withOutput { s.output with vol := vol.toNat, layer := l })
    else answer 0x25#8 .badValue s
  | none => answer 0x25#8 .badValue s

end Sys2Proof.Machine
end

