-- ==== Sys2Proof/Machine/Take.lean ====
section
/-! DEFINITION. The Take Store (sections 8.1 to 8.4): record slots, block chains, the directory, the
writing context, the closing reserve and sequence, the room check; and the host's bulk transfer and
take commands (section 8.6). -/

namespace Sys2Proof.Machine

/-! ### Slots and blocks (R122, R123) -/

/-- The record in a slot, if it was written since the last reset. -/
def slotGet (m : List (Nat × Record)) (n : Nat) : Option Record :=
  match m with
  | [] => none
  | (k, r) :: rest => if n = k then some r else slotGet rest n

/-- Write a slot, keeping the list in rising slot order. -/
def slotSet (m : List (Nat × Record)) (n : Nat) (r : Record) : List (Nat × Record) :=
  match m with
  | [] => [(n, r)]
  | (k, x) :: rest =>
    if n < k then (n, r) :: m else if n = k then (n, r) :: rest else (k, x) :: slotSet rest n r

/-- Slot numbers strictly rise from `low` and name slots of the store. -/
def slotsWfFrom (low : Nat) : List (Nat × Record) → Bool
  | [] => true
  | (k, _) :: rest => decide (low ≤ k) && decide (k < 32768) && slotsWfFrom (k + 1) rest

/-- The slot list is in canonical form. -/
def slotsWf (m : List (Nat × Record)) : Bool := slotsWfFrom 0 m

/-- The slot number of a place in a block. -/
def slotNo (block place : Nat) : Nat := Config.blockSlots * block + place

def Store.entry (st : Store) (t : TakeId) : TakeEntry := st.takes.get t

def Store.withEntry (st : Store) (t : TakeId) (e : TakeEntry) : Store :=
  { st with takes := st.takes.set t.val e t.isLt }

/-- The link of a block. -/
def Store.link (st : Store) (b : Nat) : Option Nat := vgetD st.links b none

/-- The blocks from one block on, following links; the fuel is the number of blocks of the store. -/
def chainFrom (links : Vector (Option Nat) 512) : Nat → Option Nat → List Nat
  | 0, _ => []
  | _ + 1, none => []
  | n + 1, some b => b :: chainFrom links n (vgetD links b none)

/-- The chain of a take, head to tail (R124). -/
def Store.chain (st : Store) (t : TakeId) : List Nat :=
  chainFrom st.links Config.takeBlocks (st.entry t).head

/-- The record of a take at an index: the first 64 in the head block, the next 64 in the block it links
to, and so on (R124). -/
def Store.record (st : Store) (t : TakeId) (i : Nat) : Record :=
  match (st.chain t)[i / Config.blockSlots]? with
  | some b => (slotGet st.slots (slotNo b (i % Config.blockSlots))).getD ⟨0, .gap⟩
  | none => ⟨0, .gap⟩

/-- The records of a take in order. -/
def Store.records (st : Store) (t : TakeId) : List Record :=
  (List.range (st.entry t).count).map (st.record t)

/-- Records with their take times: a record's time is the sum of its own delta and those before it
(R126). -/
def withTimes (at0 : Nat) : List Record → List (Nat × Record)
  | [] => []
  | r :: rs => (at0 + r.delta, r) :: withTimes (at0 + r.delta) rs

/-- The records of a take with their take times. -/
def Store.timed (st : Store) (t : TakeId) : List (Nat × Record) := withTimes 0 (st.records t)

/-- The index of the first record of a take whose time is `T` or later (R143, R152, R167). -/
def Store.indexAt (st : Store) (t : TakeId) (T : Nat) : Nat :=
  (st.timed t).findIdx fun x => decide (T ≤ x.1)

/-- The free slots of the store (R122). -/
def Store.freeSlots (st : Store) : Nat := Config.blockSlots * st.free.length

/-- The tail room of a take (R124). -/
def TakeEntry.tailRoom (e : TakeEntry) : Nat :=
  match e.tail with
  | some _ => Config.blockSlots - e.fill
  | none => 0

/-- The free slots of a take (R124). -/
def Store.takeFree (st : Store) (t : TakeId) : Nat := (st.entry t).tailRoom + st.freeSlots

/-- Give a take a new tail block from the head of the free list (R123). The room check keeps the free
list from being empty here; with none to give, nothing changes (notes/assumptions/22.md). -/
def Store.growTake (st : Store) (t : TakeId) : Store :=
  match st.free with
  | [] => st
  | b :: free =>
    let e := st.entry t
    let links := vset st.links b none
    let links := match e.tail with
      | some tail => vset links tail (some b)
      | none => links
    { st with free := free, links := links }.withEntry t
      { e with head := some (e.head.getD b), tail := some b, fill := 0 }

/-- Write a record into the tail block of a take, which has room (R123, R124). -/
def Store.writeTail (st : Store) (t : TakeId) (r : Record) : Store :=
  let e := st.entry t
  match e.tail with
  | none => st
  | some b =>
    if e.fill < Config.blockSlots then
      { st with slots := slotSet st.slots (slotNo b e.fill) r }.withEntry t
        { e with count := e.count + 1, duration := e.duration + r.delta, fill := e.fill + 1 }
    else st

/-- Append a record to a take (R123): a block is taken when the take has no tail block or it is full. -/
def Store.append (st : Store) (t : TakeId) (r : Record) : Store :=
  let e := st.entry t
  if e.tail = none ∨ e.fill = Config.blockSlots then (st.growTake t).writeTail t r
  else st.writeTail t r

/-- Set the links of some blocks to end. -/
def clearLinks (links : Vector (Option Nat) 512) (bs : List Nat) : Vector (Option Nat) 512 :=
  bs.foldl (fun l b => vset l b none) links

/-- Return blocks to the tail of the free list in order, their links at end (R123). -/
def Store.freeBlocks (st : Store) (bs : List Nat) : Store :=
  { st with free := st.free ++ bs, links := clearLinks st.links bs }

/-- A take gives up its whole chain and becomes EMPTY (R123, R141). -/
def Store.eraseTake (st : Store) (t : TakeId) : Store :=
  (st.freeBlocks (st.chain t)).withEntry t {}

def Store.setState (st : Store) (t : TakeId) (x : TakeState) : Store :=
  st.withEntry t { st.entry t with state := x }

/-! ### The writing context (R127 to R129) -/

/-- What a written record does to the context; `time` is its take time (R127). -/
def WriteCtx.write (c : WriteCtx) (time : Nat) (b : Body) : WriteCtx :=
  let c := { c with last := time }
  match b with
  | .noteOn k _ _ | .silentPress k => { c with openKeys := c.openKeys.add k }
  | .noteOff k => { c with openKeys := c.openKeys.remove k }
  | .damper v => { c with damper := v }
  | .soft v => { c with soft := v }
  | .sostOn => { c with sost := true }
  | .sostOff => { c with sost := false }
  | .gap => c

/-- The closing reserve (R128). -/
def WriteCtx.reserve (c : WriteCtx) : Nat :=
  c.openKeys.card + (if c.damper ≠ 0 then 1 else 0) + (if c.soft ≠ 0 then 1 else 0) +
    (if c.sost then 1 else 0)

/-- The records of the closing sequence in order (R129). -/
def WriteCtx.closing (c : WriteCtx) : List Body :=
  c.openKeys.keys.map Body.noteOff ++ (if c.damper ≠ 0 then [.damper 0] else []) ++
    (if c.soft ≠ 0 then [.soft 0] else []) ++ (if c.sost then [.sostOff] else [])

/-- The room check (R128): the take's free slots hold `n` records and the reserve after them. -/
def roomOk (st : Store) (t : TakeId) (n : Nat) (after : WriteCtx) : Bool :=
  decide (n + after.reserve ≤ st.takeFree t)

/-- Write one record at a take time, with the delta from the context's last time. -/
def writeAt (t : TakeId) (time : Nat) (b : Body) (x : Store × WriteCtx) : Store × WriteCtx :=
  (x.1.append t ⟨time - x.2.last, b⟩, x.2.write time b)

/-- Write records one after the other at one take time: the first carries the delta to it, the others
delta 0. -/
def writeAll (t : TakeId) (time : Nat) (bs : List Body) (x : Store × WriteCtx) : Store × WriteCtx :=
  bs.foldl (fun x b => writeAt t time b x) x

/-- Write the closing sequence at the closing time (R129). -/
def closeTake (t : TakeId) (time : Nat) (st : Store) (c : WriteCtx) : Store :=
  (writeAll t time c.closing (st, c)).1

/-! ### Who uses a take (R125) -/

/-- In RECORDING, WRITING or EDITING. -/
def TakeEntry.underWriting (e : TakeEntry) : Bool :=
  match e.state with
  | .recording | .writing | .editing => true
  | .empty | .ready => false

/-- A recording or a writing is active (R125). -/
def writerActive (s : State) : Bool := s.recorder.isSome || s.bulk.isSome

/-! ### Bulk transfer (section 8.6) -/

/-- TAKE_OPEN (R136). -/
def cmdTakeOpen (take : Byte) (s : State) : State :=
  match takeOf take with
  | none => answer 0x34#8 .badValue s
  | some t =>
    if writerActive s then answer 0x34#8 .takeBusy s
    else if (s.store.entry t).state ≠ .empty then answer 0x34#8 .badState s
    else
      answer 0x34#8 .ok ((s.withStore (s.store.setState t .writing)).withBulk (some ⟨t, 0, {}⟩))

/-- Whether the context admits a record next in a TAKE_WRITE (R137). -/
def WriteCtx.admits (c : WriteCtx) : Body → Bool
  | .noteOff k => c.openKeys.mem k
  | .sostOn => !c.sost
  | .sostOff => c.sost
  | .noteOn .. | .silentPress _ | .damper _ | .soft _ | .gap => true

/-- Check the records of a TAKE_WRITE in order (R137): the valid records and the context after them. -/
def checkRecords (c : WriteCtx) : List RawRecord → Option (List Record × WriteCtx)
  | [] => some ([], c)
  | r :: rs =>
    match parseRecord r with
    | none => none
    | some rec =>
      if c.admits rec.body then
        match checkRecords (c.write (c.last + rec.delta) rec.body) rs with
        | none => none
        | some (recs, c') => some (rec :: recs, c')
      else none

/-- TAKE_WRITE (R137, R182). -/
def cmdTakeWrite (take count : Byte) (records : List RawRecord) (s : State) : State :=
  if !writeLengthOk count records.length then answer 0x35#8 .badLength s
  else
    match s.bulk with
    | none => answer 0x35#8 .badState s
    | some w =>
      if take.toNat ≠ w.take.val then answer 0x35#8 .badState s
      else
        match checkRecords w.ctx records with
        | none => answer 0x35#8 .badValue s
        | some (recs, ctx) =>
          if roomOk s.store w.take recs.length ctx then
            let st := recs.foldl (fun st r => st.append w.take r) s.store
            answer 0x35#8 .ok
              ((s.withStore st).withBulk (some { w with cursor := w.cursor + recs.length, ctx := ctx }))
          else answer 0x35#8 .noRoom s

/-- TAKE_CLOSE (R138). -/
def cmdTakeClose (take : Byte) (s : State) : State :=
  match s.bulk with
  | none => answer 0x36#8 .badState s
  | some w =>
    if take.toNat ≠ w.take.val then answer 0x36#8 .badState s
    else
      answer 0x36#8 .ok
        ((s.withStore ((closeTake w.take w.ctx.last s.store w.ctx).setState w.take .ready)).withBulk none)

/-- TAKE_READ (R139, R192). -/
def cmdTakeRead (take : Byte) (start : W16) (count : Byte) (s : State) : State :=
  match takeOf take with
  | none => answer 0x37#8 .badValue s
  | some t =>
    if count.toNat < 1 ∨ 10 < count.toNat then answer 0x37#8 .badValue s
    else if (s.store.entry t).state ≠ .ready then answer 0x37#8 .badState s
    else if (s.store.entry t).count ≤ start.toNat then answer 0x37#8 .badValue s
    else
      let recs := ((s.store.timed t).drop start.toNat).take count.toNat
      answerData 0x37#8
        (b8 recs.length :: (b32 ((recs.head?.map Prod.fst).getD 0) ++ recs.flatMap fun x => x.2.bytes)) s

/-- The closing reserve TAKE_INFO reports (R140): that of a take in RECORDING or WRITING, else 0. -/
def reportedReserve (t : TakeId) (s : State) : Nat :=
  match (s.store.entry t).state with
  | .recording =>
    match s.recorder with
    | some r => if r.take = t then r.ctx.reserve else 0
    | none => 0
  | .writing =>
    match s.bulk with
    | some w => if w.take = t then w.ctx.reserve else 0
    | none => 0
  | .empty | .editing | .ready => 0

/-- TAKE_INFO (R140). -/
def cmdTakeInfo (take : Byte) (s : State) : State :=
  match takeOf take with
  | none => answer 0x32#8 .badValue s
  | some t =>
    let e := s.store.entry t
    answerData 0x32#8
      (b8 e.state.code :: (b16 e.count ++ b32 e.duration ++ b16 (blockCode e.head) ++
        b16 (blockCode e.tail) ++
        [b8 e.fill, b8 ((if e.played then 1 else 0) + (if e.read then 2 else 0))] ++
        b16 (s.store.chain t).length ++ b16 (s.store.takeFree t) ++ [b8 (reportedReserve t s)])) s

/-- TAKE_ERASE (R141). -/
def cmdTakeErase (take : Byte) (s : State) : State :=
  match takeOf take with
  | none => answer 0x33#8 .badValue s
  | some t =>
    let e := s.store.entry t
    if e.played || e.read || e.underWriting then answer 0x33#8 .takeBusy s
    else if e.state = .empty then answer 0x33#8 .ok s
    else answer 0x33#8 .ok (s.withStore (s.store.eraseTake t))

end Sys2Proof.Machine
end

