-- ==== Sys2Proof/Machine/Recorder.lean ====
section
/-! DEFINITION. The Recorder (section 8.5): starting and stopping a recording, writing events, the gap
timer, the end of a full recording. -/

namespace Sys2Proof.Machine

/-- The recording time now (R131). -/
def Recording.time (r : Recording) : Nat := r.clock / 1000 + r.offset

/-- End the recording at a closing time (R129, R134, R135): the closing sequence, READY, inactive, and
the RECORD_END notice. -/
def endRecording (r : Recording) (cause : RecordEndCause) (time : Nat) (s : State) : State :=
  let st := (closeTake r.take time s.store r.ctx).setState r.take .ready
  let e := st.entry r.take
  raise (.recordEnd r.take cause e.count e.duration) ((s.withStore st).withRecorder none)

/-- Write one record of the recording at a take time after the room check with n = 1, or end the
recording as full (R132 to R134). -/
def recordBody (r : Recording) (time : Nat) (b : Body) (s : State) : State :=
  if roomOk s.store r.take 1 (r.ctx.write time b) then
    let (st, ctx) := writeAt r.take time b (s.store, r.ctx)
    (s.withStore st).withRecorder (some { r with ctx := ctx })
  else endRecording r .full time s

/-- One expiry of the gap timer (R133). -/
def recordGap (s : State) : State :=
  match s.recorder with
  | none => s
  | some r => recordBody r (r.ctx.last + 65535) .gap s

/-- Take `n` gap expiries one after the other. -/
def recordGaps : Nat → State → State
  | 0, s => s
  | n + 1, s => recordGaps n (recordGap s)

/-- The gap expiries that came before a take time: a record there would otherwise carry a delta above
65,535 (R131, R133; notes/assumptions/6.md). -/
def recordOverdueGaps (time : Nat) (s : State) : State :=
  match s.recorder with
  | none => s
  | some r => recordGaps ((time - r.ctx.last - 1) / 65535) s

/-- The record an event is written as, or none when the Recorder discards it (R132). -/
def WriteCtx.bodyOf (c : WriteCtx) : EventKind → Option Body
  | .noteOn k v r => some (.noteOn k v r)
  | .noteOff k _ => if c.openKeys.mem k then some (.noteOff k) else none
  | .silentPress k => some (.silentPress k)
  | .damper v => some (.damper v)
  | .soft v => some (.soft v)
  | .sostOn => if c.sost then none else some .sostOn
  | .sostOff => if c.sost then some .sostOff else none

/-- The time of an event (R131): the clock less the event's age, in ms past the offset, and not before
the context's last time. -/
def Recording.eventTime (r : Recording) (now stamp : W32) : Nat :=
  max ((r.clock - (now - stamp).toNat) / 1000 + r.offset) r.ctx.last

/-- An event delivered to RECORDER (R64, R131, R132). -/
def recorderEvent (ev : Event) (s : State) : State :=
  match s.recorder with
  | none => s
  | some r0 =>
    match r0.ctx.bodyOf ev.kind with
    | none => s
    | some _ =>
      let time := r0.eventTime s.clock.us ev.stamp
      let s := recordOverdueGaps time s
      match s.recorder with
      | none => s
      | some r =>
        match r.ctx.bodyOf ev.kind with
        | none => s
        | some b => recordBody r time b s

/-- The gap timer's event: it is due when the recording time has reached the last time plus 65,535
(R133, notes/assumptions/4.md). -/
def takeGapExpiry (s : State) : State :=
  match s.recorder with
  | none => s
  | some r => if r.ctx.last + 65535 ≤ r.time then recordGap s else s

/-- RECORD_START (R130). -/
def cmdRecordStart (take mode : Byte) (s : State) : State :=
  match takeOf take, appendOf mode with
  | some t, some app =>
    let e := s.store.entry t
    if writerActive s then answer 0x30#8 .takeBusy s
    else if e.played || e.read || e.underWriting then answer 0x30#8 .takeBusy s
    else if e.state ≠ (if app then .ready else .empty) then answer 0x30#8 .badState s
    else
      let offset := if app then e.duration else 0
      answer 0x30#8 .ok
        ((s.withStore (s.store.setState t .recording)).withRecorder
          (some ⟨t, 0, offset, { last := offset }⟩))
  | _, _ => answer 0x30#8 .badValue s

/-- RECORD_STOP (R135). -/
def cmdRecordStop (s : State) : State :=
  match s.recorder with
  | none => answer 0x31#8 .badState s
  | some r0 =>
    let s := recordOverdueGaps r0.time s
    match s.recorder with
    | none => answer 0x31#8 .badState s
    | some r => endRecording r .stopped r.time (answer 0x31#8 .ok s)

end Sys2Proof.Machine
end

