-- ==== Sys2Proof/Machine/Router.lean ====
section
/-! DEFINITION. The Guide's side of an event (R66 to R68, R160, R161) and the Event Router (chapter 4):
the route table, the final destination set, release follow-through, delivery. -/

namespace Sys2Proof.Machine

/-! ### The Guide -/

/-- Raise PLAYER_STATE (R162): state after the step, the take, the cause, the position in ms, the number
of keys expected. -/
def playerNotice (take : Option TakeId) (cause : PlayCause) (s : State) : State :=
  raise (.playerState s.player.state take cause (s.player.acc / 256) s.guide.expected.card) s

/-- A waiting Player whose expected set is empty plays on, with cause CONTINUE (R161). -/
def releaseWait (s : State) : State :=
  if s.player.state = .waiting ∧ s.guide.expected.isEmpty = true then
    playerNotice s.player.take .continue (s.withPlayer { s.player with state := .playing })
  else s

/-- Replace the expected set. -/
def setExpected (ks : KeySet) (s : State) : State := s.withGuide { s.guide with expected := ks }

/-- Empty the expected set. -/
def clearExpected (s : State) : State := setExpected KeySet.none s

/-- Replace the recent-press list. -/
def setRecent (l : List Press) (s : State) : State := s.withRouter { s.router with recent := l }

/-- Append a press at the newest end of the recent-press list, which holds at most 10 (R67). -/
def appendPress (p : Press) (l : List Press) : List Press :=
  (if 10 ≤ l.length then l.drop 1 else l) ++ [p]

/-- Offer a LIVE NOTE_ON to the Guide (R66, R161): an expected key is removed; another press joins the
recent-press list. -/
def guideOffer (k : Key) (s : State) : State :=
  if s.guide.expected.mem k then
    releaseWait (setExpected (s.guide.expected.remove k) s)
  else setRecent (appendPress ⟨k, s.clock.ms⟩ s.router.recent) s

/-- The recent presses that are not older than the grace (R68). -/
def freshPresses (now : W32) (grace : Nat) (l : List Press) : List Press :=
  l.filter fun p => decide ((now - p.ms).toNat ≤ grace)

/-- Consult the recent-press list for a key (R68): whether it is credited, and the list after it. -/
def consult (now : W32) (grace : Nat) (k : Key) (l : List Press) : Bool × List Press :=
  let l := freshPresses now grace l
  (l.any fun p => decide (p.key = k), l.eraseP fun p => decide (p.key = k))

/-- What a NOTE_ON at the Guide with wait on comes to after the consultation (R160). -/
def guideExpect (k : Key) (credited : Bool) (s : State) : State :=
  if credited then raise (.guide k (some .credited)) s
  else if s.guide.expected.mem k then raise (.guide k (some .expected)) s
  else if s.guide.expected.card < 10 then
    raise (.guide k (some .expected)) (setExpected (s.guide.expected.add k) s)
  else raise (.guide k (some .full)) s

/-- A NOTE_ON at the Guide with wait on (R160). -/
def guideWaitOn (k : Key) (s : State) : State :=
  let c := consult s.clock.ms s.guide.grace k s.router.recent
  guideExpect k c.1 (setRecent c.2 s)

/-- An event delivered to GUIDE (R160). -/
def guideEvent (ev : Event) (s : State) : State :=
  match ev.kind with
  | .noteOn k _ _ => if s.guide.wait then guideWaitOn k s else raise (.guide k (some .shown)) s
  | .noteOff k _ => raise (.guide k none) s
  | .silentPress _ | .damper _ | .soft _ | .sostOn | .sostOff => s

/-! ### Choosing the destinations (R59 to R63) -/

/-- Whether a route entry matches an event (R59). -/
def Route.covers (r : Route) (ev : Event) : Bool :=
  r.enabled &&
  (match ev.source with | .live => r.live | .playback => r.playback) &&
  r.kinds.getLsbD ev.kind.code &&
  (match ev.kind.key? with
    | some k => decide (r.keyLow ≤ k.val ∧ k.val ≤ r.keyHigh)
    | none => true)

/-- The default destinations of a source (R60). -/
def defaultDests : Source → Dests
  | .live => { engine := true, recorder := true }
  | .playback => { engine := true }

/-- The routed set: the first matching entry's, or the default (R59, R60). -/
def routedSet (routes : Vector Route 16) (ev : Event) : Dests :=
  match routes.toList.find? fun r => r.covers ev with
  | some r => r.dests
  | none => defaultDests ev.source

/-- Resolve the GUIDE member (R61). -/
def resolveGuide (kind : PassKind) (ev : Event) (d : Dests) : Dests :=
  match ev.source, ev.kind.key?, kind with
  | .playback, some _, .practice => d
  | .playback, some _, .listen => { d with guide := false, engine := d.engine || d.guide }
  | _, _, _ => { d with guide := false }

/-- Release follow-through (R62, R63). -/
def followThrough (s : State) (ev : Event) (d : Dests) : Dests :=
  match ev.kind with
  | .noteOff k _ =>
    { d with
      engine := d.engine || (s.engine.source ev.source).down.mem k
      recorder := d.recorder || (s.recorder.map fun r => r.ctx.openKeys.mem k).getD false }
  | .sostOff =>
    { d with
      engine := d.engine || (s.engine.source ev.source).sost
      recorder := d.recorder || (s.recorder.map fun r => r.ctx.sost).getD false }
  | _ => d

/-- The final destination set of an event (R59 to R63). -/
def finalSet (s : State) (ev : Event) : Dests :=
  followThrough s ev (resolveGuide s.player.passKind ev (routedSet s.router.routes ev))

/-! ### Delivery (R64 to R66) -/

/-- A delivery to NOTIFY (R65). -/
def notifyEvent (ev : Event) (s : State) : State :=
  match ev.kind.key? with
  | some _ => raise (.keyEvent ev.kind ev.source ev.stamp) s
  | none => raise (.pedalEvent ev.kind ev.source ev.stamp) s

/-- The deliveries of an event to the members of a set, one for each member (R64). -/
def deliveries (d : Dests) (ev : Event) : List (State → State) :=
  (if d.engine then [engineEvent ev] else []) ++ (if d.recorder then [recorderEvent ev] else []) ++
  (if d.notify then [notifyEvent ev] else []) ++ (if d.guide then [guideEvent ev] else [])

/-- Whether a delivery places a notice that the link keeps or counts as lost. -/
def placesNotice (s : State) (f : State → State) : Bool := decide ((f s).link ≠ s.link)

/-- Deliver in an order that is an open choice (notes/assumptions/11.md). The first argument bounds the
recursion by the number of deliveries. -/
def deliverFreely : Nat → List (State → State) → State → State
  | 0, _, s => s
  | _ + 1, [], s => s
  | _ + 1, [f], s => f s
  | n + 1, fs, s =>
    let (c, s) := drawChoice fs.length s
    deliverFreely n (fs.eraseIdx c) (fs.getD c id s)

/-- Deliver an event to each member of a set, once each (R64). The deliveries act on states of their own and
need no order among them; where two of them place notices the order of those notices is open, and it is drawn
(notes/assumptions/11.md). -/
def deliver (d : Dests) (ev : Event) (s : State) : State :=
  let fs := deliveries d ev
  if 1 < fs.length ∧ 1 < fs.countP (placesNotice s) then deliverFreely fs.length fs s
  else fs.foldl (fun s f => f s) s

/-- The guide check of a LIVE NOTE_ON (R66). -/
def guideCheck (ev : Event) (s : State) : State :=
  match ev.source, ev.kind with
  | .live, .noteOn k _ _ => guideOffer k s
  | _, _ => s

/-- Route one event, whole (R55). -/
def routeEvent (ev : Event) (s : State) : State :=
  let s := guideCheck ev s
  deliver (finalSet s ev) ev s

/-! ### Commands -/

/-- SET_ROUTE (R57). -/
def cmdSetRoute (route enabled sources kinds keyLow keyHigh dests : Byte) (s : State) : State :=
  match routeOf route, switchOf enabled with
  | some r, some e =>
    if rangeOk keyLow keyHigh && sourceSetOk sources && kindSetOk kinds && destSetOk dests then
      answer 0x20#8 .ok
        (s.withRouter
          { s.router with
            routes := s.router.routes.set r.val
              ⟨e, sources.getLsbD 0, sources.getLsbD 1, kindsOf kinds, keyLow.toNat, keyHigh.toNat,
                destsOf dests⟩ r.isLt })
    else answer 0x20#8 .badValue s
  | _, _ => answer 0x20#8 .badValue s

/-- GET_ROUTE (R58). -/
def cmdGetRoute (route : Byte) (s : State) : State :=
  match routeOf route with
  | none => answer 0x21#8 .badValue s
  | some i =>
    let r := s.router.routes.get i
    answerData 0x21#8
      [bit r.enabled, sourcesByte r.live r.playback, b8 r.kinds.toNat, b8 r.keyLow, b8 r.keyHigh,
        destsByte r.dests] s

/-- SET_GUIDE (R159): setting wait off empties the expected set and releases a wait. -/
def cmdSetGuide (wait : Byte) (grace : W16) (s : State) : State :=
  match switchOf wait with
  | none => answer 0x48#8 .badValue s
  | some w =>
    if 500 < grace.toNat then answer 0x48#8 .badValue s
    else
      let s := s.withGuide { s.guide with wait := w, grace := grace.toNat }
      answer 0x48#8 .ok (if w then s else releaseWait (clearExpected s))

/-- GUIDE_SKIP (R161). -/
def cmdGuideSkip (s : State) : State := answer 0x49#8 .ok (releaseWait (clearExpected s))

end Sys2Proof.Machine
end

