-- ==== Sys2Proof/Machine/PlayerUnit.lean ====
section
/-! DEFINITION. The Player (chapter 9): starting, the tempo clock, emission in groups, markers, loops and
passes, stopping, pausing and moving. -/

namespace Sys2Proof.Machine

/-! ### The scan (R144) -/

/-- What one record does to a pedal state. -/
def Pedals3.apply (p : Pedals3) : Body → Pedals3
  | .damper v => { p with damper := v }
  | .soft v => { p with soft := v }
  | .sostOn => { p with sost := true }
  | .sostOff => { p with sost := false }
  | .noteOn .. | .noteOff _ | .silentPress _ | .gap => p

/-- The pedal state a take's records earlier than `T` leave (R144). -/
def scanTo (T : Nat) (l : List (Nat × Record)) : Pedals3 :=
  l.foldl (fun p x => if x.1 < T then p.apply x.2.body else p) {}

/-- The scan of a take up to a time (R144). -/
def Store.scan (st : Store) (t : TakeId) (T : Nat) : Pedals3 := scanTo T (st.timed t)

/-! ### Emission (R146, R147) -/

/-- Hand a PLAYBACK event, stamped with the µs time of the step, to the Event Router. -/
def playbackEvent (kind : EventKind) (s : State) : State := routeEvent ⟨.playback, s.clock.us, kind⟩ s

/-- Hand several PLAYBACK events to the Event Router in order. -/
def playbackEvents (kinds : List EventKind) (s : State) : State :=
  kinds.foldl (fun s k => playbackEvent k s) s

/-- The event a record forms, if any (R146). -/
def Player.eventOf (p : Player) : Body → Option EventKind
  | .noteOn k v r => some (.noteOn k v r)
  | .noteOff k => if p.openKeys.mem k then some (.noteOff k false) else none
  | .silentPress k => some (.silentPress k)
  | .damper v => some (.damper v)
  | .soft v => some (.soft v)
  | .sostOn => some .sostOn
  | .sostOff => some .sostOff
  | .gap => none

/-- The context after a record is read: the cursor past it, the open-key set and the pedals following it
(R146). -/
def Player.read (p : Player) (b : Body) : Player :=
  { p with
    cursor := p.cursor + 1
    openKeys := match b with
      | .noteOn k _ _ | .silentPress k => p.openKeys.add k
      | .noteOff k => p.openKeys.remove k
      | .damper _ | .soft _ | .sostOn | .sostOff | .gap => p.openKeys
    takePedals := p.takePedals.apply b
    emitted := p.emitted.apply b }

/-- Emit one record (R146). -/
def emitRecord (r : Record) (s : State) : State :=
  playbackEvents (s.player.eventOf r.body).toList (s.withPlayer (s.player.read r.body))

/-- Enter WAITING with its notice (R147). -/
def enterWait (s : State) : State :=
  playerNotice s.player.take .wait (s.withPlayer { s.player with state := .waiting })

/-- A record of this time is the last of its group (R147). -/
def groupEnds (t : Nat) : List (Nat × Record) → Bool
  | [] => true
  | x :: _ => decide (x.1 ≠ t)

/-- Emit the due records in take order, with a look at the expected set after each group (R147). The list
holds the records from the cursor on with their take times. -/
def emitDue (due : Nat → Bool) : List (Nat × Record) → State → State
  | [], s => s
  | (t, r) :: rest, s =>
    if due t then
      let s := emitRecord r s
      if groupEnds t rest && !s.guide.expected.isEmpty then enterWait s
      else emitDue due rest s
    else s

/-- The records of the Player's take from the cursor on, with their take times. -/
def ahead (s : State) : List (Nat × Record) :=
  match s.player.take with
  | some t => (s.store.timed t).drop s.player.cursor
  | none => []

/-- The duration and the record count of the Player's take. -/
def playedEntry (s : State) : TakeEntry :=
  match s.player.take with
  | some t => s.store.entry t
  | none => {}

/-- The loop's end B while the loop is armed. -/
def Player.bound (p : Player) : Option Nat := if p.armed then p.loop.map Prod.snd else none

/-- A record's time is due (R145). -/
def Player.due (p : Player) (t : Nat) : Bool :=
  decide (t * 256 ≤ p.acc) &&
    (match p.bound with
      | some b => decide (t < b)
      | none => true)

/-! ### Markers (R148) -/

/-- Report the markers that a condition on their time reaches, in ascending slot order. -/
def reportMarkers (reached : Nat → Bool) (s : State) : State :=
  (List.finRange 4).foldl
    (fun s i =>
      match s.player.markers.get i with
      | some m => if reached m then raise (.marker i.val m) s else s
      | none => s) s

/-- The markers a tick reaches: the accumulator passes from below them to them or above. While the loop is
armed, the tick that reaches B, whose addition takes the accumulator from below B to B or above, reaches none at B
or later (R148, notes/assumptions/18.md). -/
def Player.reaches (p : Player) (m : Nat) : Bool :=
  decide (p.acc < m * 256 ∧ m * 256 ≤ p.acc + p.tempo) &&
    (match p.bound with
      | some b => decide (m < b ∨ b * 256 ≤ p.acc)
      | none => true)

/-! ### Closing events and reposition (R152, R155) -/

/-- NOTE_OFF for each open key, ascending. -/
def Player.offs (p : Player) : List EventKind := p.openKeys.keys.map fun k => .noteOff k false

/-- The closing events of the Player (R155). -/
def Player.closing (p : Player) : List EventKind :=
  p.offs ++ (if p.emitted.damper ≠ 0 then [.damper 0] else []) ++
    (if p.emitted.soft ≠ 0 then [.soft 0] else []) ++ (if p.emitted.sost then [.sostOff] else [])

/-- Hand the closing events to the Event Router (R155). -/
def closePlayer (s : State) : State :=
  playbackEvents s.player.closing
    (s.withPlayer { s.player with openKeys := KeySet.none, emitted := {} })

/-- The events of the chase of a pedal state: PLAY and RESUME (R143, R157). -/
def Pedals3.chase (p : Pedals3) : List EventKind :=
  (if p.damper ≠ 0 then [.damper p.damper] else []) ++ (if p.soft ≠ 0 then [.soft p.soft] else []) ++
    (if p.sost then [.sostOn] else [])

/-- The events that bring the emitted pedals to a pedal state (R152). -/
def Pedals3.bring (from' to' : Pedals3) : List EventKind :=
  (if from'.damper ≠ to'.damper then [.damper to'.damper] else []) ++
    (if from'.soft ≠ to'.soft then [.soft to'.soft] else []) ++
    (if from'.sost then [.sostOff] else []) ++ (if to'.sost then [.sostOn] else [])

/-- The index of the first record of the Player's take at `T` or later. -/
def cursorAt (T : Nat) (s : State) : Nat :=
  match s.player.take with
  | some t => s.store.indexAt t T
  | none => 0

/-- The reposition to a take time with its pedal state (R152). -/
def reposition (T : Nat) (target : Pedals3) (s : State) : State :=
  let p := s.player
  playbackEvents (p.offs ++ p.emitted.bring target)
    (s.withPlayer { p with
      openKeys := KeySet.none, acc := T * 256, cursor := cursorAt T s
      takePedals := target, emitted := target })

/-! ### Stopping (R149, R155) -/

/-- Empty the recent-press list. -/
def clearRecent (s : State) : State := setRecent [] s

/-- The Voice Engine takes the Player's stop or pause event (R74). -/
def engineStop (s : State) : State := s.withEngine s.engine.playerStop

/-- Clear the played flag of a take. -/
def clearPlayed (t : Option TakeId) (s : State) : State :=
  match t with
  | some t => s.withStore (s.store.withEntry t { s.store.entry t with played := false })
  | none => s

/-- STOP and the end of the take as one step, without the reply (R149, R155). -/
def stopPlayer (cause : PlayCause) (s : State) : State :=
  let take := s.player.take
  let s := clearPlayed take (clearRecent (clearExpected (engineStop (closePlayer s))))
  playerNotice take cause (s.withPlayer { s.player with take := none, state := .stopped })

/-! ### Ticks (R145, R149, R153, R154) -/

/-- The pass sequence advances (R154). -/
def Player.nextPass (p : Player) : Player :=
  let index := (p.passIndex + 1) % (p.listen + p.practice)
  { p with
    passIndex := index
    passKind := if index < p.listen then .listen else .practice
    passNumber := min (p.passNumber + 1) 65535 }

/-- The loop jump, to A (R153). -/
def loopJump (a : Nat) (s : State) : State :=
  let s := reposition a s.player.snapshot s
  let s := s.withPlayer s.player.nextPass
  let s := raise (.pass s.player.take s.player.passNumber s.player.passKind) s
  let s := reportMarkers (fun m => decide (m = a)) (clearExpected s)
  emitDue (fun t => decide (t ≤ a)) (ahead s) s

/-- The first three parts of a tick in PLAYING: the accumulator, the markers, the due records (R145). -/
def tickEmission (s : State) : State :=
  let p := s.player
  let s := s.withPlayer { p with acc := p.acc + p.tempo }
  let s := reportMarkers p.reaches s
  emitDue s.player.due (ahead s) s

/-- After the emission the loop jump is due: where it goes (R145, R153). -/
def jumpDue (s : State) : Option Nat :=
  if s.player.state = .playing ∧ s.player.armed = true then
    match s.player.loop with
    | some (a, b) => if b * 256 ≤ s.player.acc then some a else none
    | none => none
  else none

/-- After the emission the take is at its end (R145, R149). -/
def endDue (s : State) : Bool :=
  decide (s.player.state = .playing) && (jumpDue s).isNone &&
    decide ((playedEntry s).count ≤ s.player.cursor)

/-- The fourth part of a tick (R145). -/
def tickEnd (s : State) : State :=
  match jumpDue s with
  | some a => loopJump a s
  | none => if endDue s then stopPlayer .ended s else s

/-- A tick of the Player (R145). -/
def takePlayerTick (s : State) : State :=
  if s.player.state = .playing then tickEnd (tickEmission s) else s

/-- The tick that takes the loop jump (R153, notes/assumptions/5.md). -/
def takeLoopJump (s : State) : State :=
  if s.player.state = .playing ∧ (jumpDue (tickEmission s)).isSome = true then takePlayerTick s else s

/-- The tick that ends the take (R149, notes/assumptions/5.md). -/
def takeTakeEnd (s : State) : State :=
  if s.player.state = .playing ∧ endDue (tickEmission s) = true then takePlayerTick s else s

/-! ### Commands -/

/-- The Player starts on a READY take (R143). -/
def startPlayer (t : TakeId) (start : Nat) (s : State) : State :=
  let p := s.player
  let pedals := s.store.scan t start
  let s := s.withStore (s.store.withEntry t { s.store.entry t with played := true })
  let s := s.withPlayer { p with
    state := .playing, take := some t, acc := start * 256, cursor := s.store.indexAt t start
    openKeys := KeySet.none, takePedals := pedals, emitted := pedals
    passIndex := 0, passNumber := 1, passKind := if 0 < p.listen then .listen else .practice
    snapshot := match p.loop with | some (a, _) => s.store.scan t a | none => p.snapshot
    armed := match p.loop with | some (_, b) => decide (start < b) | none => false }
  let s := playbackEvents pedals.chase s
  playerNotice (some t) .play (reportMarkers (fun m => decide (m = start)) s)

/-- The loop of the Player fits a duration (R143). -/
def Player.loopFits (p : Player) (duration : Nat) : Bool :=
  match p.loop with
  | some (_, b) => decide (b ≤ duration)
  | none => true

/-- PLAY (R143). -/
def cmdPlay (take : Byte) (startMs : W32) (s : State) : State :=
  match takeOf take with
  | none => answer 0x40#8 .badValue s
  | some t =>
    let e := s.store.entry t
    if s.player.state ≠ .stopped then answer 0x40#8 .badState s
    else if e.underWriting then answer 0x40#8 .takeBusy s
    else if e.state ≠ .ready then answer 0x40#8 .badState s
    else if e.duration < startMs.toNat ∨ s.player.loopFits e.duration = false then
      answer 0x40#8 .badValue s
    else answer 0x40#8 .ok (startPlayer t startMs.toNat s)

/-- STOP (R155). -/
def cmdStop (s : State) : State :=
  if s.player.state = .stopped then answer 0x41#8 .badState s
  else answer 0x41#8 .ok (stopPlayer .stop s)

/-- PAUSE in PLAYING or WAITING (R156). -/
def pausePlayer (s : State) : State :=
  let s := clearExpected (engineStop (closePlayer s))
  playerNotice s.player.take .pause (s.withPlayer { s.player with state := .paused })

/-- PAUSE (R156). -/
def cmdPause (s : State) : State :=
  match s.player.state with
  | .stopped => answer 0x42#8 .badState s
  | .paused => answer 0x42#8 .ok s
  | .playing | .waiting => answer 0x42#8 .ok (pausePlayer s)

/-- RESUME in PAUSED (R157). -/
def resumePlayer (s : State) : State :=
  let p := s.player
  let s := playbackEvents p.takePedals.chase (s.withPlayer { p with emitted := p.takePedals })
  playerNotice s.player.take .resume (s.withPlayer { s.player with state := .playing })

/-- RESUME (R157). -/
def cmdResume (s : State) : State :=
  if s.player.state = .paused then answer 0x43#8 .ok (resumePlayer s) else answer 0x43#8 .badState s

/-- The pedal state of the Player's take at a time. -/
def playedScan (T : Nat) (s : State) : Pedals3 :=
  match s.player.take with
  | some t => s.store.scan t T
  | none => {}

/-- Armed after a position is set at `T` (R158). -/
def Player.armedAt (p : Player) (T : Nat) : Bool :=
  match p.loop with
  | some (_, b) => decide (T < b)
  | none => false

/-- LOCATE in PLAYING or WAITING (R158). -/
def locatePlaying (T : Nat) (s : State) : State :=
  let s := clearExpected (reposition T (playedScan T s) s)
  let s := s.withPlayer { s.player with state := .playing, armed := s.player.armedAt T }
  playerNotice s.player.take .locate (reportMarkers (fun m => decide (m = T)) s)

/-- LOCATE in PAUSED (R158). -/
def locatePaused (T : Nat) (s : State) : State :=
  let s := s.withPlayer { s.player with
    acc := T * 256, cursor := cursorAt T s, takePedals := playedScan T s, armed := s.player.armedAt T }
  playerNotice s.player.take .locate (clearExpected s)

/-- LOCATE (R158). -/
def cmdLocate (time : W32) (s : State) : State :=
  match s.player.state with
  | .stopped => answer 0x44#8 .badState s
  | .playing | .waiting =>
    if (playedEntry s).duration < time.toNat then answer 0x44#8 .badValue s
    else answer 0x44#8 .ok (locatePlaying time.toNat s)
  | .paused =>
    if (playedEntry s).duration < time.toNat then answer 0x44#8 .badValue s
    else answer 0x44#8 .ok (locatePaused time.toNat s)

/-- SET_TEMPO (R150). -/
def cmdSetTempo (tempo : W16) (s : State) : State :=
  if 64 ≤ tempo.toNat ∧ tempo.toNat ≤ 512 then
    answer 0x45#8 .ok (s.withPlayer { s.player with tempo := tempo.toNat })
  else answer 0x45#8 .badValue s

/-- SET_LOOP (R151). -/
def cmdSetLoop (a b : W32) (s : State) : State :=
  let p := s.player
  if a = 0#32 ∧ b = 0#32 then
    answer 0x46#8 .ok (s.withPlayer { p with loop := none, snapshot := {}, armed := false })
  else if b.toNat < a.toNat + 100 then answer 0x46#8 .badValue s
  else if p.state = .stopped then
    answer 0x46#8 .ok (s.withPlayer { p with loop := some (a.toNat, b.toNat) })
  else if (playedEntry s).duration < b.toNat then answer 0x46#8 .badValue s
  else
    answer 0x46#8 .ok (s.withPlayer { p with
      loop := some (a.toNat, b.toNat), snapshot := playedScan a.toNat s
      armed := decide (p.acc < b.toNat * 256) })

/-- SET_PASSES (R154). -/
def cmdSetPasses (listen practice : Byte) (s : State) : State :=
  if listen.toNat ≤ 15 ∧ practice.toNat ≤ 15 ∧ ¬(listen = 0#8 ∧ practice = 0#8) then
    answer 0x47#8 .ok
      (s.withPlayer { s.player with listen := listen.toNat, practice := practice.toNat })
  else answer 0x47#8 .badValue s

/-- SET_MARKERS (R148). -/
def cmdSetMarkers (m0 m1 m2 m3 : W32) (s : State) : State :=
  answer 0x4A#8 .ok
    (s.withPlayer { s.player with markers := #v[markerOf m0, markerOf m1, markerOf m2, markerOf m3] })

end Sys2Proof.Machine
end

