-- ==== Sys2Proof/Machine/Edit.lean ====
section
/-! DEFINITION. The Edit Unit (chapter 10): TAKE_COPY, TAKE_SEARCH, TAKE_SCALE, their steps, the rollback
and EDIT_ABORT. -/

namespace Sys2Proof.Machine

/-! ### Flags of the directory (R125) -/

/-- Set the read flag of a take. -/
def Store.setRead (st : Store) (t : TakeId) (on : Bool) : Store :=
  st.withEntry t { st.entry t with read := on }

/-- The Edit Unit becomes idle. -/
def editIdle (s : State) : State := s.withEdit .idle

/-! ### Copying: writing with the room check (R168, R169) -/

/-- What a copy has made so far: the store, the destination's context, the records written. -/
structure CopyWork where
  store : Store
  ctx : WriteCtx
  written : Nat
  deriving DecidableEq, Repr

/-- After a record of the copy, the recording or bulk writing that is active still has room for its own
closing reserve (R169). -/
def othersOk (s : State) (st : Store) : Bool :=
  (match s.recorder with
    | some r => decide (r.ctx.reserve ≤ st.takeFree r.take)
    | none => true) &&
  (match s.bulk with
    | some w => decide (w.ctx.reserve ≤ st.takeFree w.take)
    | none => true)

/-- What writing records of a copy leads to: the work after them, or the work so far where a room check
failed and nothing more is written (R169). -/
abbrev CopyResult := Except CopyWork CopyWork

/-- Write one record of a copy at a take time, after the room check of R169. -/
def copyWrite (s : State) (dst : TakeId) (time : Nat) (b : Body) (w : CopyWork) : CopyResult :=
  let ctx := w.ctx.write time b
  let st := w.store.append dst ⟨time - w.ctx.last, b⟩
  if roomOk w.store dst 1 ctx && othersOk s st then .ok ⟨st, ctx, w.written + 1⟩ else .error w

/-- Write GAP records, each raising the last time by 65,535 (R168). -/
def copyGaps (s : State) (dst : TakeId) : Nat → CopyWork → CopyResult
  | 0, w => .ok w
  | n + 1, w =>
    match copyWrite s dst (w.ctx.last + 65535) .gap w with
    | .ok w' => copyGaps s dst n w'
    | .error w' => .error w'

/-- Write one record of a copy, with the GAP records that its delta needs before it (R168). -/
def copyRecord (s : State) (dst : TakeId) (time : Nat) (w : CopyWork) (b : Body) : CopyResult :=
  match copyGaps s dst ((time - w.ctx.last - 1) / 65535) w with
  | .ok w' => copyWrite s dst time b w'
  | .error w' => .error w'

/-- Write several records of a copy at one take time. -/
def copyAll (s : State) (dst : TakeId) (time : Nat) : List Body → CopyWork → CopyResult
  | [], w => .ok w
  | b :: bs, w =>
    match copyRecord s dst time w b with
    | .ok w' => copyAll s dst time bs w'
    | .error w' => .error w'

/-- What a source record writes to the destination (R168). -/
def WriteCtx.copies (c : WriteCtx) : Body → Option Body
  | .gap => none
  | .noteOn k v r => some (.noteOn k v r)
  | .silentPress k => some (.silentPress k)
  | .noteOff k => if c.openKeys.mem k then some (.noteOff k) else none
  | .damper v => some (.damper v)
  | .soft v => some (.soft v)
  | .sostOn => if c.sost then none else some .sostOn
  | .sostOff => if c.sost then some .sostOff else none

/-- The records of the chase of a copy (R167). -/
def Pedals3.chaseBodies (p : Pedals3) : List Body :=
  (if p.damper ≠ 0 then [.damper p.damper] else []) ++ (if p.soft ≠ 0 then [.soft p.soft] else []) ++
    (if p.sost then [.sostOn] else [])

/-! ### Ends of a copy (R170, R171) -/

/-- The blocks a take received after a saved entry: those after the saved tail block, or all (R171). -/
def blocksAfter (saved : TakeEntry) (chain : List Nat) : List Nat :=
  match saved.tail with
  | none => chain
  | some b => (chain.dropWhile fun x => decide (x ≠ b)).drop 1

/-- Give back the blocks a copy took and restore the destination's entry (R171). -/
def Store.rollback (st : Store) (dst : TakeId) (saved : TakeEntry) : Store :=
  let e := st.entry dst
  let st := st.freeBlocks (blocksAfter saved (st.chain dst))
  let st := match saved.tail with
    | none => st
    | some b => { st with links := vset st.links b none }
  st.withEntry dst { saved with played := e.played, read := e.read }

/-- A copy ends: the source's read flag is cleared, the unit is idle, EDIT_DONE is raised (R170, R171,
R175). -/
def copyDone (j : CopyJob) (result : EditResult) (written : Nat) (s : State) : State :=
  let e := s.store.entry j.dst
  raise (.editDone .copy result j.src (some j.dst) written e.count e.duration)
    (editIdle (s.withStore (s.store.setRead j.src false)))

/-- The rollback as one step (R171). -/
def copyRollback (j : CopyJob) (result : EditResult) (s : State) : State :=
  copyDone j result 0 (s.withStore (s.store.rollback j.dst j.saved))

/-- Go on with a copy after what a step wrote, or roll it back. -/
def copyGo (j : CopyJob) (w : CopyResult) (s : State) : State :=
  match w with
  | .error w => copyRollback j .full (s.withStore w.store)
  | .ok w => (s.withStore w.store).withEdit (.copy { j with ctx := w.ctx, written := w.written })

/-- The take time of the record at an index, from the time of the one before it. -/
def Store.timeAfter (st : Store) (t : TakeId) (i time : Nat) : Nat := time + (st.record t i).delta

/-- The take time of the record at an index of a take. -/
def Store.timeOf (st : Store) (t : TakeId) (i : Nat) : Nat :=
  match (st.timed t)[i]? with
  | some x => x.1
  | none => 0

/-- The first step of a copy: the scan and the chase (R167). -/
def copyFirst (j : CopyJob) (s : State) : State :=
  let i := s.store.indexAt j.src j.fromMs
  let j' := { j with started := true, index := i, time := s.store.timeOf j.src i }
  copyGo j'
    (copyAll s j.dst j.base (s.store.scan j.src j.fromMs).chaseBodies ⟨s.store, j.ctx, j.written⟩) s

/-- The closing step of a copy (R170). -/
def copyClose (j : CopyJob) (s : State) : State :=
  match copyAll s j.dst (j.base + (j.toMs - j.fromMs)) j.ctx.closing ⟨s.store, j.ctx, j.written⟩ with
  | .error w => copyRollback j .full (s.withStore w.store)
  | .ok w => copyDone j .ok w.written (s.withStore (w.store.setState j.dst .ready))

/-- A step that reads one source record (R168). -/
def copyRead (j : CopyJob) (s : State) : State :=
  let j' := { j with index := j.index + 1, time := s.store.timeAfter j.src (j.index + 1) j.time }
  let w : CopyWork := ⟨s.store, j.ctx, j.written⟩
  match j.ctx.copies (s.store.record j.src j.index).body with
  | none => copyGo j' (.ok w) s
  | some b => copyGo j' (copyRecord s j.dst (j.time - j.fromMs + j.base) w b) s

/-- One step of a running TAKE_COPY (R165 to R170). -/
def copyStep (j : CopyJob) (s : State) : State :=
  if !j.started then copyFirst j s
  else if j.index < (s.store.entry j.src).count ∧ j.time < j.toMs then copyRead j s
  else copyClose j s

/-! ### Searching (R172) -/

/-- A search ends: the read flag is cleared, the unit is idle, EDIT_DONE is raised (R172, R175). -/
def searchDone (j : SearchJob) (result : EditResult) (number time : Nat) (s : State) : State :=
  raise (.editDone .search result j.take none number 0 time)
    (editIdle (s.withStore (s.store.setRead j.take false)))

/-- A record matches a search (R172). -/
def SearchJob.matchesBody (j : SearchJob) (b : Body) : Bool :=
  let inKeys (k : Key) := decide (j.keyLow ≤ k.val ∧ k.val ≤ j.keyHigh)
  let inValues (v : Nat) := decide (j.valueLow ≤ v ∧ v ≤ j.valueHigh)
  match b with
  | .noteOn k v _ => j.kinds.getLsbD 0 && inKeys k && inValues v
  | .noteOff k => j.kinds.getLsbD 1 && inKeys k
  | .silentPress k => j.kinds.getLsbD 2 && inKeys k
  | .damper v => j.kinds.getLsbD 3 && inValues v
  | .soft v => j.kinds.getLsbD 4 && inValues v
  | .sostOn => j.kinds.getLsbD 5
  | .sostOff => j.kinds.getLsbD 6
  | .gap => false

/-- One step of a running TAKE_SEARCH (R172). An impossible search ends at its first step
(notes/assumptions/19.md). -/
def searchStep (j : SearchJob) (s : State) : State :=
  let count := (s.store.entry j.take).count
  if count ≤ j.start ∨ j.kinds = 0 then searchDone j .notFound 0 0 s
  else if j.start ≤ j.index ∧ j.matchesBody (s.store.record j.take j.index).body = true then
    searchDone j .ok j.index j.time s
  else if count ≤ j.index + 1 then searchDone j .notFound 0 0 s
  else
    s.withEdit (.search { j with
      index := j.index + 1, time := s.store.timeAfter j.take (j.index + 1) j.time })

/-! ### Scaling (R173) -/

/-- The new velocity of a scaled NOTE_ON (R173). -/
def scaleVelocity (factor : Nat) (offset : Int) (v : Nat) : Nat :=
  (max 1 (min ((v * factor / 256 : Nat) + offset) 127)).toNat

/-- Replace a record of a take in place: its slot in the chain (R173). -/
def Store.replace (st : Store) (t : TakeId) (i : Nat) (r : Record) : Store :=
  match (st.chain t)[i / Config.blockSlots]? with
  | some b => { st with slots := slotSet st.slots (slotNo b (i % Config.blockSlots)) r }
  | none => st

/-- What scaling makes of a record read at a take time, if it is a chosen NOTE_ON (R173). -/
def ScaleJob.scaled (j : ScaleJob) (time : Nat) (r : Record) : Option Record :=
  match r.body with
  | .noteOn k v rep =>
    if j.fromMs ≤ time ∧ time < j.toMs ∧ j.keyLow ≤ k.val ∧ k.val ≤ j.keyHigh then
      some { r with body := .noteOn k (scaleVelocity j.factor j.offset v) rep }
    else none
  | _ => none

/-- A scaling ends: the take is READY, the unit is idle, EDIT_DONE is raised (R173, R175). -/
def scaleDone (j : ScaleJob) (result : EditResult) (s : State) : State :=
  raise (.editDone .scale result j.take none j.changes 0 0)
    (editIdle (s.withStore (s.store.setState j.take .ready)))

/-- Read one record of a running TAKE_SCALE: the store and the job after it (R173). -/
def scaleRead (j : ScaleJob) (st : Store) : Store × ScaleJob :=
  let r := st.record j.take j.index
  let next := { j with index := j.index + 1, time := st.timeAfter j.take (j.index + 1) j.time }
  match j.scaled j.time r with
  | none => (st, next)
  | some r' =>
    (st.replace j.take j.index r', { next with changes := if r' = r then j.changes else j.changes + 1 })

/-- One step of a running TAKE_SCALE (R173). -/
def scaleStep (j : ScaleJob) (s : State) : State :=
  let count := (s.store.entry j.take).count
  if count ≤ j.index then scaleDone j .ok s
  else
    let (st, j') := scaleRead j s.store
    let s := s.withStore st
    if count ≤ j'.index then scaleDone j' .ok s else s.withEdit (.scale j')

/-! ### The step rows -/

/-- TAKE_COPY step: an event while a TAKE_COPY runs (R165, notes/assumptions/4.md). -/
def takeCopyEvent (s : State) : State :=
  match s.edit with
  | .copy j => copyStep j s
  | .idle | .search _ | .scale _ => s

/-- TAKE_SEARCH step (R165, R172). -/
def takeSearchEvent (s : State) : State :=
  match s.edit with
  | .search j => searchStep j s
  | .idle | .copy _ | .scale _ => s

/-- TAKE_SCALE step (R165, R173). -/
def takeScaleEvent (s : State) : State :=
  match s.edit with
  | .scale j => scaleStep j s
  | .idle | .copy _ | .search _ => s

/-! ### Commands -/

/-- TAKE_COPY is taken (R167). -/
def startCopy (src dst : TakeId) (fromMs toMs : Nat) (append : Bool) (s : State) : State :=
  let e := s.store.entry dst
  let base := if append then e.duration else 0
  let st := (s.store.setRead src true).setState dst .editing
  (s.withStore st).withEdit (.copy
    { src := src, dst := dst, fromMs := fromMs, toArg := toMs, toMs := min toMs (s.store.entry src).duration
      append := append, base := base, started := false, index := 0, time := (s.store.record src 0).delta
      ctx := { last := base }, saved := e, written := 0 })

/-- TAKE_COPY (R166, R167). -/
def cmdTakeCopy (src : Byte) (fromMs toMs : W32) (dst mode : Byte) (s : State) : State :=
  match takeOf src, takeOf dst, appendOf mode with
  | some a, some b, some app =>
    if a = b ∨ toMs.toNat ≤ fromMs.toNat then answer 0x50#8 .badValue s
    else if s.edit ≠ .idle then answer 0x50#8 .busy s
    else if (s.store.entry a).underWriting then answer 0x50#8 .takeBusy s
    else if (s.store.entry a).state ≠ .ready then answer 0x50#8 .badState s
    else if min toMs.toNat (s.store.entry a).duration ≤ fromMs.toNat then answer 0x50#8 .badValue s
    else if (s.store.entry b).played || (s.store.entry b).underWriting then answer 0x50#8 .takeBusy s
    else if (s.store.entry b).state ≠ (if app then .ready else .empty) then answer 0x50#8 .badState s
    else answer 0x50#8 .accepted (startCopy a b fromMs.toNat toMs.toNat app s)
  | _, _, _ => answer 0x50#8 .badValue s

/-- TAKE_SEARCH is taken (R172). -/
def startSearch (t : TakeId) (start : Nat) (kinds : BitVec 7) (keyLow keyHigh valueLow valueHigh : Nat)
    (s : State) : State :=
  (s.withStore (s.store.setRead t true)).withEdit
    (.search ⟨t, start, kinds, keyLow, keyHigh, valueLow, valueHigh, 0, (s.store.record t 0).delta⟩)

/-- TAKE_SEARCH (R172). -/
def cmdTakeSearch (take : Byte) (start : W16) (kinds keyLow keyHigh valueLow valueHigh : Byte)
    (s : State) : State :=
  match takeOf take with
  | none => answer 0x51#8 .badValue s
  | some t =>
    if !kindSetOk kinds || !rangeOk keyLow keyHigh || decide (valueHigh.toNat < valueLow.toNat) then
      answer 0x51#8 .badValue s
    else if s.edit ≠ .idle then answer 0x51#8 .busy s
    else if (s.store.entry t).underWriting then answer 0x51#8 .takeBusy s
    else if (s.store.entry t).state = .empty then answer 0x51#8 .badState s
    else
      answer 0x51#8 .accepted
        (startSearch t start.toNat (kindsOf kinds) keyLow.toNat keyHigh.toNat valueLow.toNat
          valueHigh.toNat s)

/-- TAKE_SCALE is taken (R173). -/
def startScale (t : TakeId) (fromMs toMs keyLow keyHigh factor : Nat) (offset : Int) (s : State) : State :=
  (s.withStore (s.store.setState t .editing)).withEdit
    (.scale ⟨t, fromMs, toMs, keyLow, keyHigh, factor, offset, 0, (s.store.record t 0).delta, 0⟩)

/-- TAKE_SCALE (R173). -/
def cmdTakeScale (take : Byte) (fromMs toMs : W32) (keyLow keyHigh : Byte) (factor : W16) (offset : Byte)
    (s : State) : State :=
  match takeOf take with
  | none => answer 0x52#8 .badValue s
  | some t =>
    if toMs.toNat ≤ fromMs.toNat ∨ rangeOk keyLow keyHigh = false ∨ 512 < factor.toNat ∨
        offset.toInt < -127 then
      answer 0x52#8 .badValue s
    else if s.edit ≠ .idle then answer 0x52#8 .busy s
    else if (s.store.entry t).played || (s.store.entry t).underWriting then answer 0x52#8 .takeBusy s
    else if (s.store.entry t).state = .empty then answer 0x52#8 .badState s
    else
      answer 0x52#8 .accepted
        (startScale t fromMs.toNat toMs.toNat keyLow.toNat keyHigh.toNat factor.toNat offset.toInt s)

/-- EDIT_ABORT (R171, R174). -/
def cmdEditAbort (s : State) : State :=
  match s.edit with
  | .idle => answer 0x53#8 .badState s
  | .copy j => copyRollback j .aborted (answer 0x53#8 .ok s)
  | .search j => searchDone j .aborted j.index 0 (answer 0x53#8 .ok s)
  | .scale j => scaleDone j .aborted (answer 0x53#8 .ok s)

end Sys2Proof.Machine
end

