-- ==== Sys2Proof/Machine/RailUnit.lean ====
section
/-! DEFINITION. The Rail Controller (chapter 7): the rail record, commands, waiting, motion, switches,
faults. Every change of state, origin or target raises its RAIL_STATE notice (R121). -/

namespace Sys2Proof.Machine

/-! ### Motor, switches, fields -/

/-- Turn the motor off: all three outputs deasserted (R104). -/
def Rail.motorOff (r : Rail) : Rail := { r with enable := false, driveIn := false, driveOut := false }

/-- Drive the motor in the record's direction: enable with exactly one drive output (R104). -/
def Rail.motorOn (r : Rail) : Rail :=
  match r.direction with
  | some .inward => { r with enable := true, driveIn := true, driveOut := false }
  | some .outward => { r with enable := true, driveIn := false, driveOut := true }
  | none => r.motorOff

/-- The direction toward a target (R104). -/
def RailEnd.direction : RailEnd → Direction
  | .engaged => .inward
  | .retracted => .outward

/-- The rest state at a target. -/
def RailEnd.state : RailEnd → RailState
  | .engaged => .engaged
  | .retracted => .retracted

/-- An origin as the state a move returns to. -/
def RailOrigin.state : RailOrigin → RailState
  | .unknown => .unknown
  | .retracted => .retracted
  | .engaged => .engaged

/-- A target as an origin. -/
def RailEnd.origin : RailEnd → RailOrigin
  | .retracted => .retracted
  | .engaged => .engaged

/-- The filtered level of an end's own switch. -/
def Rail.switchOfEnd (r : Rail) : RailEnd → Bool
  | .engaged => r.eng
  | .retracted => r.ret

/-- An end's switch is asserted alone. -/
def Rail.alone (r : Rail) : RailEnd → Bool
  | .engaged => r.eng && !r.ret
  | .retracted => r.ret && !r.eng

/-- The state the switches show (R106): RET alone, ENG alone, neither, both. -/
def Rail.switchState (r : Rail) : RailState :=
  match r.ret, r.eng with
  | true, false => .retracted
  | false, true => .engaged
  | false, false => .unknown
  | true, true => .fault

/-- Enter RETRACTED, ENGAGED, UNKNOWN or FAULT: the fields of the move are cleared, the motor is off, and
the fault reason is none unless one is given (R106). -/
def Rail.enterRest (r : Rail) (st : RailState) (why : Option FaultReason) : Rail :=
  { r.motorOff with
    state := st, target := none, origin := none, direction := none, runUs := 0, waitUs := 0
    settle := none, overCount := 0, reason := why }

/-- The reason a notice carries for a fault. -/
def FaultReason.notice : FaultReason → RailReason
  | .stall => .stall
  | .overcurrent => .overcurrent
  | .switch => .switch

/-! ### Changes with their notices (R121) -/

/-- Replace the rail record by `r` and raise RAIL_STATE with the state of `r`, and the target, origin and
run time of `shown`: the record as it stood before any clearing (R121). -/
def railChange (r shown : Rail) (cause : RailCause) (why : RailReason) (s : State) : State :=
  raise (.railState r.state shown.target shown.origin cause why (shown.runUs / 1000) r.supply)
    (s.withRail r)

/-- Enter FAULT (R116 to R118). -/
def railFault (why : FaultReason) (s : State) : State :=
  railChange (s.rail.enterRest .fault (some why)) s.rail .fault why.notice s

/-- The move ends at its target (R115). -/
def railArrive (e : RailEnd) (s : State) : State :=
  railChange (s.rail.enterRest e.state none) s.rail .arrived .none s

/-- A rest state is lost to UNKNOWN, or UNKNOWN is found to be a rest state (R112, R118). -/
def railRest (st : RailState) (cause : RailCause) (s : State) : State :=
  railChange (s.rail.enterRest st none) s.rail cause .none s

/-- The second change of a return (R112). Its notice carries target, origin and run time "as they stood before any
clearing by R106" (R121): before the clearing of the first change, which is the record `was`, or before its own, which
finds them cleared. Which of the two is an open choice (notes/assumptions/33.md). -/
def railMovesOn (st : RailState) (cause : RailCause) (was : Rail) (s : State) : State :=
  let (c, s) := drawChoice 2 s
  railChange (s.rail.enterRest st none) (if c = 0 then was else s.rail) cause .none s

/-- What a switch makes of a rest state just returned to (R112): an end whose switch is not asserted is
lost; UNKNOWN with one switch alone is found. `was` is the record before the return. -/
def railReturned (og : RailOrigin) (was : Rail) (s : State) : State :=
  match og with
  | .retracted => if s.rail.ret then s else railMovesOn .unknown .switchLost was s
  | .engaged => if s.rail.eng then s else railMovesOn .unknown .switchLost was s
  | .unknown =>
    if s.rail.alone .retracted then railMovesOn .retracted .found was s
    else if s.rail.alone .engaged then railMovesOn .engaged .found was s
    else s

/-- Return to the origin (R112). -/
def railReturn (cause : RailCause) (why : RailReason) (s : State) : State :=
  let og := s.rail.origin.getD .unknown
  railReturned og s.rail (railChange (s.rail.enterRest og.state none) s.rail cause why s)

/-! ### The keyboard (R110, R114) -/

/-- A change of the keyboard-clear condition reaches the rail (R110, R114). -/
def railKeyboard (clear : Bool) (s : State) : State :=
  match s.rail.state with
  | .waitClear | .paused => s.withRail { s.rail with settle := if clear then some 0 else none }
  | .moving =>
    if clear then s
    else
      let r := { s.rail.motorOff with state := .paused, overCount := 0, settle := none }
      railChange r s.rail .pause .none s
  | .unknown | .retracted | .engaged | .fault => s

/-- Tell the rail of a change of the keyboard-clear condition since it was `was` (R21, R110). -/
def noteKeyboard (was : Bool) (s : State) : State :=
  let now := keyboardClear s
  if now = was then s else railKeyboard now s

/-! ### Settle, clear-wait and run limit (R111, R113, R116) -/

/-- Enter MOVING from a completed settle (R111). -/
def railMove (s : State) : State :=
  let r := s.rail
  if r.state = .waitClear then
    let r' := { r with state := .moving, overCount := 0, settle := none, runUs := 0 }
    railChange r'.motorOn r' .start .none s
  else
    let r' := { r with state := .moving, overCount := 0, settle := none }
    railChange r'.motorOn r' .resume .none s

/-- The supply check and what follows it (R111). -/
def railSettled (s : State) : State :=
  if s.rail.supply < s.rail.supplyMin then railReturn .failed .lowSupply s
  else
    match s.rail.target with
    | some e => if s.rail.alone e then railArrive e s else railMove s
    | none => railMove s

/-- The settle has completed: it has run for 50 ms in WAIT_CLEAR or PAUSED (R110). -/
def Rail.settleDue (r : Rail) : Bool :=
  decide (r.state = .waitClear ∨ r.state = .paused) &&
    (match r.settle with
      | some t => decide (Config.settleUs ≤ t)
      | none => false)

/-- The clear-wait limit has been reached in WAIT_CLEAR (R110, R113). -/
def Rail.clearWaitDue (r : Rail) : Bool :=
  decide (r.state = .waitClear) && decide (r.waitLimit * 1000 ≤ r.waitUs)

/-- The run limit has been reached in MOVING (R116). -/
def Rail.runLimitDue (r : Rail) : Bool :=
  decide (r.state = .moving) && decide (r.runLimit * 1000 ≤ r.runUs)

/-- SETTLE_COMPLETE, when due (R111, notes/assumptions/4.md). -/
def takeSettle (s : State) : State := if s.rail.settleDue then railSettled s else s

/-- The clear-wait timer expires, when due (R113). -/
def takeClearWait (s : State) : State :=
  if s.rail.clearWaitDue then railReturn .failed .blocked s else s

/-- The run limit expires, when due (R116). -/
def takeRunLimit (s : State) : State := if s.rail.runLimitDue then railFault .stall s else s

/-! ### Switch events (R115, R118) -/

/-- What one switch change means (R118), with the filtered levels as they now are: `e` is the end whose
switch changed, `on` its new level. Both switches asserted is judged before this. -/
def switchJudge (e : RailEnd) (on : Bool) (s : State) : State :=
  let r := s.rail
  match r.state with
  | .retracted => if e = .retracted ∧ on = false then railRest .unknown .switchLost s else s
  | .engaged => if e = .engaged ∧ on = false then railRest .unknown .switchLost s else s
  | .unknown => if on = true ∧ r.alone e = true then railRest e.state .found s else s
  | .waitClear =>
    if on = false then
      if r.origin = some e.origin then
        let r' := { r with origin := some .unknown }
        railChange r' r' .switchLost .none s
      else s
    else if r.alone e ∧ r.origin = some .unknown then
      if r.target = some e then railArrive e s
      else
        let r' := { r with origin := some e.origin }
        railChange r' r' .found .none s
    else s
  | .moving | .paused =>
    if on = true ∧ r.alone e = true ∧ r.target = some e then railArrive e s else s
  | .fault => s

/-- Set the filtered level of an end's switch. -/
def Rail.withSwitch (r : Rail) (e : RailEnd) (on : Bool) : Rail :=
  match e with
  | .engaged => { r with eng := on }
  | .retracted => { r with ret := on }

/-- One change of a filtered level, judged with the levels it leaves (R118). -/
def switchOne (e : RailEnd) (on : Bool) (s : State) : State :=
  let s := s.withRail (s.rail.withSwitch e on)
  if s.rail.eng ∧ s.rail.ret ∧ s.rail.state ≠ .fault then railFault .switch s else switchJudge e on s

/-- The filtered levels become these (R105, R118). One switch deasserting and the other asserting is the
deassertion and then the assertion. Two changes of one kind are judged with both levels as they result
(notes/assumptions/17.md). -/
def switchLevels (eng ret : Bool) (s : State) : State :=
  let r := s.rail
  if r.eng = eng ∧ r.ret = ret then s
  else if r.ret = ret then switchOne .engaged eng s
  else if r.eng = eng then switchOne .retracted ret s
  else if eng ∧ !ret then switchOne .engaged true (switchOne .retracted false s)
  else if ret ∧ !eng then switchOne .retracted true (switchOne .engaged false s)
  else
    let s := s.withRail { r with eng := eng, ret := ret }
    switchOne .engaged eng (switchOne .retracted ret s)

/-- The filter of one switch (R105): the level after a read, and the count of consecutive reads of the
other level. Three of them change the level. -/
def filterSwitch (level : Bool) (run : Nat) (read : Bool) : Bool × Nat :=
  if read = level then (level, 0) else if 2 ≤ run then (read, 0) else (level, run + 1)

/-! ### Measurements (R105, R117, R120) -/

/-- The overcurrent count after a measurement (R117): counted only while the motor is driven. -/
def Rail.countCurrent (r : Rail) : Rail :=
  if r.state = .moving then
    { r with overCount := if r.currentLimit < r.current then r.overCount + 1 else 0 }
  else r

/-- What one measurement can bring about (R105, R117, R120). -/
inductive MeasureEvent where
  | overcurrent
  | switches (eng ret : Bool)
  | clearWait
  | runLimit
  deriving DecidableEq, Repr

/-- One thing a measurement brings about, if its state still admits it when it is taken. -/
def takeMeasureEvent (s : State) : MeasureEvent → State
  | .overcurrent =>
    if s.rail.state = .moving ∧ Config.overcurrentReads ≤ s.rail.overCount then railFault .overcurrent s
    else s
  | .switches eng ret => switchLevels eng ret s
  | .clearWait => takeClearWait s
  | .runLimit => takeRunLimit s

/-- Take the things that fall due at one measurement. Which of several is taken first is an open choice
(notes/assumptions/13.md); the first argument bounds the recursion by their number. -/
def takeMeasureEvents : Nat → List MeasureEvent → State → State
  | 0, _, s => s
  | _ + 1, [], s => s
  | _ + 1, [e], s => takeMeasureEvent s e
  | n + 1, es, s =>
    let (c, s) := drawChoice es.length s
    takeMeasureEvents n (es.eraseIdx c) (takeMeasureEvent s (es.getD c .overcurrent))

/-- The record after the reads of a measurement: the latest readings, the switch filters' counts and the
overcurrent count (R105, R117); and the filtered levels the filters now show. -/
def Rail.read (r : Rail) (current supply : Nat) (eng ret : Bool) : Rail × Bool × Bool :=
  let (eng', engRun) := filterSwitch r.eng r.engRun eng
  let (ret', retRun) := filterSwitch r.ret r.retRun ret
  ({ r with current := current, supply := supply, engRun := engRun, retRun := retRun }.countCurrent,
    eng', ret')

/-- What falls due at a measurement that left the record `r`. -/
def Rail.measureEvents (r : Rail) (eng ret : Bool) : List MeasureEvent :=
  (if r.state = .moving ∧ Config.overcurrentReads ≤ r.overCount then [.overcurrent] else []) ++
  (if r.eng ≠ eng ∨ r.ret ≠ ret then [.switches eng ret] else []) ++
  (if r.clearWaitDue then [.clearWait] else []) ++
  (if r.runLimitDue then [.runLimit] else [])

/-- One rail measurement, whole (R105, R117, R120). -/
def takeMeasurement (current supply : Nat) (eng ret : Bool) (s : State) : State :=
  let (r, eng', ret') := s.rail.read current supply eng ret
  let es := r.measureEvents eng' ret'
  takeMeasureEvents es.length es (s.withRail r)

/-- The measurement at which the overcurrent count reaches 20 (R117, notes/assumptions/5.md). -/
def takeOvercurrent (current supply : Nat) (eng ret : Bool) (s : State) : State :=
  let (r, _, _) := s.rail.read current supply eng ret
  if r.state = .moving ∧ Config.overcurrentReads ≤ r.overCount then
    takeMeasurement current supply eng ret s
  else s

/-- The filtered levels change to these (R105, R118, notes/assumptions/31.md). -/
def takeSwitchEvent (eng ret : Bool) (s : State) : State :=
  if s.rail.eng = eng ∧ s.rail.ret = ret then s
  else switchLevels eng ret (s.withRail { s.rail with engRun := 0, retRun := 0 })

/-! ### Commands -/

/-- The WAIT_CLEAR record of a new command (R108). -/
def Rail.startWait (r : Rail) (e : RailEnd) (og : RailOrigin) (clear : Bool) : Rail :=
  { r with
    state := .waitClear, target := some e, origin := some og, direction := some e.direction
    waitUs := 0, runUs := 0, settle := if clear then some 0 else none }

/-- RAIL begins a move: WAIT_CLEAR (R108). -/
def railBegin (e : RailEnd) (og : RailOrigin) (s : State) : State :=
  let r := s.rail.startWait e og (keyboardClear s)
  answer 0x28#8 .accepted (railChange r r .wait .none s)

/-- RAIL toward the opposite target while the rail is in MOVING (R109): the motor is reversed, unless the
new target's switch is asserted alone, when the move ends by arrival (notes/assumptions/16.md). -/
def railReverse (e : RailEnd) (s : State) : State :=
  let r := { s.rail with
    target := some e, direction := some e.direction, runUs := 0, overCount := 0 }
  if r.alone e then railArrive e (railChange r.motorOff r .reversed .none s)
  else railChange r.motorOn r .reversed .none s

/-- RAIL while a move is under way (R109). -/
def railUnderWay (e : RailEnd) (s : State) : State :=
  let r := s.rail
  if r.target = some e then answer 0x28#8 .ok s
  else
    match r.state with
    | .waitClear =>
      if r.origin = some e.origin then answer 0x28#8 .ok (railReturn .cancelled .none s)
      else
        let r' := { r with target := some e, direction := some e.direction }
        answer 0x28#8 .accepted (railChange r' r' .reversed .none s)
    | .moving => answer 0x28#8 .accepted (railReverse e s)
    | _ =>
      let r' := { r with target := some e, direction := some e.direction, runUs := 0 }
      answer 0x28#8 .accepted (railChange r' r' .reversed .none s)

/-- RAIL (R108, R109). -/
def cmdRail (target : Byte) (s : State) : State :=
  match railEndOf target with
  | none => answer 0x28#8 .badValue s
  | some e =>
    match s.rail.state with
    | .retracted => if e = .retracted then answer 0x28#8 .ok s else railBegin e .retracted s
    | .engaged => if e = .engaged then answer 0x28#8 .ok s else railBegin e .engaged s
    | .unknown => railBegin e .unknown s
    | .fault => answer 0x28#8 .badState s
    | .waitClear | .moving | .paused => railUnderWay e s

/-- RAIL_CLEAR (R119). -/
def cmdRailClear (s : State) : State :=
  if s.rail.state = .fault then
    let st := s.rail.switchState
    let again := decide (st = .fault)
    answer 0x29#8 .ok
      (railChange (s.rail.enterRest st (if again then some .switch else none)) s.rail .cleared
        (if again then .switch else .none) s)
  else answer 0x29#8 .badState s

/-- SET_RAIL (R120). -/
def cmdSetRail (clearWait runLimit : W16) (currentLimit supplyMin : Byte) (s : State) : State :=
  if 500 ≤ clearWait.toNat ∧ clearWait.toNat ≤ 30000 ∧ 300 ≤ runLimit.toNat ∧ runLimit.toNat ≤ 4000 ∧
      2 ≤ currentLimit.toNat ∧ currentLimit.toNat ≤ 30 ∧ 90 ≤ supplyMin.toNat ∧ supplyMin.toNat ≤ 115 then
    answer 0x2A#8 .ok
      (s.withRail { s.rail with
        waitLimit := clearWait.toNat, runLimit := runLimit.toNat
        currentLimit := 100 * currentLimit.toNat, supplyMin := 100 * supplyMin.toNat })
  else answer 0x2A#8 .badValue s

end Sys2Proof.Machine
end

