-- ==== Sys2Proof/Machine/Keys.lean ====
section
/-! DEFINITION. The Key Scanner (chapter 1) and the Touch Unit (chapter 2): samples, key states,
crossings, strikes, velocities, key faults, calibration, and the commands of both blocks. -/

namespace Sys2Proof.Machine

/-! ### Depth and crossings (R4, R15) -/

/-- The depth of a raw value under a key's calibration (R4). A raw value below rest gives 0, as the clamp
of a negative quotient does. -/
def KeyRecord.depthOf (k : KeyRecord) (raw : Nat) : Nat :=
  if k.calibrated then min 1023 ((raw - k.rest) * 1024 / (k.bottom - k.rest)) else 0

/-- Recompute the last depth with the record in force (R4). -/
def KeyRecord.redepth (k : KeyRecord) : KeyRecord := { k with lastDepth := k.depthOf k.lastRaw }

/-- The crossing time of an upward crossing of `level` between the previous sample and the present one
(R15). -/
def crossing (level : Nat) (k : KeyRecord) (d : Nat) (stamp : W32) : W32 :=
  if level ≤ k.lastDepth then stamp
  else
    k.lastStamp +
      BitVec.ofNat 32 ((level - k.lastDepth) * (stamp - k.lastStamp).toNat / (d - k.lastDepth))

/-! ### The Touch Unit (R30 to R37) -/

/-- The curve lookup (R34): the velocity of the first breakpoint up to it, the segment's value, the last
velocity from the last breakpoint on. -/
def curveAt : List (Nat × Nat) → Nat → Nat
  | [], _ => 1
  | [(_, v)], _ => v
  | (s0, v0) :: (s1, v1) :: rest, x =>
    if x < s1 then v0 + (x - s0) * (v1 - v0) / (s1 - s0) else curveAt ((s1, v1) :: rest) x

/-- The stroke distance (R31). -/
def Touch.distance (t : Touch) : Origin → Nat
  | .first => t.lS2 - t.lS1
  | .rep => t.lS2 - t.lRep

/-- The curve set of a strike (R28). -/
def Touch.curve (t : Touch) (retracted : Bool) : Curve := if retracted then t.openCurve else t.stoppedCurve

/-- The velocity of a sounding strike from its stroke time (R31 to R35). -/
def Touch.velocity (t : Touch) (retracted : Bool) (q : Nat) (key : Key) (origin : Origin) (dt : Nat) :
    Nat :=
  let speed := t.distance origin * 10000 / max dt 100
  let v := curveAt (t.curve retracted).toList (speed * t.gain.get key / 256)
  max 1 (v - v * q * t.soft / 65280)

/-- The event of a strike record (R30, R36, R37). -/
def Touch.strike (t : Touch) (retracted : Bool) (q : Nat) (key : Key) (tStart tStrike : W32)
    (origin : Origin) : EventKind :=
  let dt := (tStrike - tStart).toNat
  if t.tSilent < dt then .silentPress key
  else .noteOn key (t.velocity retracted q key origin dt) (decide (origin = .rep))

/-! ### Key states (R10 to R14) -/

/-- What a transition forms (R11 to R13, R16). -/
inductive KeyAct where
  | strike (tStart tStrike : W32) (origin : Origin)
  | release (fault : Bool)
  deriving DecidableEq, Repr

/-- One transition of a key on a sample of depth `d`, if a condition of its state is met (the transition
summary; R10 to R13). The previous sample is the record's last sample. -/
def keyTransition (t : Touch) (k : KeyRecord) (d : Nat) (stamp : W32) :
    Option (KeyRecord × Option KeyAct) :=
  match k.state with
  | .arming => if d < t.lRel then some ({ k with state := .rest }, none) else none
  | .rest =>
    if t.lS1 ≤ d then
      some ({ k with state := .descent, tStart := crossing t.lS1 k d stamp, origin := .first }, none)
    else none
  | .descent =>
    if t.lS2 ≤ d then
      some ({ k with state := .struck }, some (.strike k.tStart (crossing t.lS2 k d stamp) k.origin))
    else if d + t.h < t.lS1 then some ({ k with state := .rest }, none)
    else none
  | .struck =>
    if d < t.lRel then some ({ k with state := .rest }, some (.release false))
    else if d + t.h < t.lRep then some ({ k with state := .rearmed }, none)
    else none
  | .rearmed =>
    if d < t.lRel then some ({ k with state := .rest }, some (.release false))
    else if t.lRep ≤ d then
      some ({ k with state := .repDescent, tStart := crossing t.lRep k d stamp, origin := .rep }, none)
    else none
  | .repDescent =>
    if d < t.lRel then some ({ k with state := .rest }, some (.release false))
    else if t.lS2 ≤ d then
      some ({ k with state := .struck }, some (.strike k.tStart (crossing t.lS2 k d stamp) k.origin))
    else if d + t.h < t.lRep then some ({ k with state := .rearmed }, none)
    else none
  | .offline | .capture | .fault => none

/-- Judge a sample again and again until no condition is met (R14); with the thresholds constrained, two
transitions are the most, which the first argument bounds (notes/assumptions/27.md). -/
def judgeKey (t : Touch) (d : Nat) (stamp : W32) : Nat → KeyRecord → KeyRecord × List KeyAct
  | 0, k => (k, [])
  | n + 1, k =>
    match keyTransition t k d stamp with
    | none => (k, [])
    | some (k', act) =>
      let (k'', acts) := judgeKey t d stamp n k'
      (k'', act.toList ++ acts)

/-- A key that has sounded and not been released: STRUCK, REARMED or REP_DESCENT (R17). -/
def KeyRecord.isDown (k : KeyRecord) : Bool :=
  match k.state with
  | .struck | .rearmed | .repDescent => true
  | _ => false

/-- Under fault supervision and judged for transitions: ARMING, REST, DESCENT, STRUCK, REARMED or
REP_DESCENT (R2). -/
def KeyRecord.inPlay (k : KeyRecord) : Bool :=
  match k.state with
  | .arming | .rest | .descent | .struck | .rearmed | .repDescent => true
  | .offline | .capture | .fault => false

/-! ### Fault supervision (R19, R20) -/

/-- The outcome of fault supervision of one sample. -/
inductive Supervision where
  | none
  | faulted
  | recovered
  deriving DecidableEq, Repr

/-- A raw value in a key's window (R19). -/
def KeyRecord.inRange (k : KeyRecord) (raw : Nat) : Bool :=
  decide (k.rest ≤ raw + 256 ∧ raw ≤ k.bottom + 256)

/-- Fault supervision of one sample (R19, R20). -/
def superviseKey (k : KeyRecord) (raw : Nat) : KeyRecord × Supervision :=
  if k.inPlay then
    if k.inRange raw then ({ k with outCount := 0 }, .none)
    else if 32 ≤ k.outCount + 1 then
      ({ k with state := .fault, outCount := 32, inCount := 0 }, .faulted)
    else ({ k with outCount := k.outCount + 1 }, .none)
  else if k.state = .fault then
    if k.inRange raw then
      if 64 ≤ k.inCount + 1 then ({ k with state := .arming, outCount := 0, inCount := 0 }, .recovered)
      else ({ k with inCount := k.inCount + 1 }, .none)
    else ({ k with inCount := 0 }, .none)
  else (k, .none)

/-- The capture extremes (R8). -/
def captureKey (k : KeyRecord) (raw : Nat) : KeyRecord :=
  if k.state = .capture then { k with capMin := min k.capMin raw, capMax := max k.capMax raw } else k

/-- The judgement of a sample that supervision let pass (R2, R14), and what entering FAULT forms
(R19). -/
def judgeSample (t : Touch) (before k : KeyRecord) (sup : Supervision) (d : Nat) (stamp : W32) :
    KeyRecord × List KeyAct :=
  match sup with
  | .none => if k.inPlay then judgeKey t d stamp 2 k else (k, [])
  | .faulted => (k, if before.isDown then [.release true] else [])
  | .recovered => (k, [])

/-- One sample at a key record, whole (R2): the record after it, what it forms, and the outcome of fault
supervision. -/
def sampleKey (t : Touch) (k : KeyRecord) (raw : Nat) (stamp : W32) :
    KeyRecord × List KeyAct × Supervision :=
  let (k1, sup) := superviseKey k raw
  let d := k1.depthOf raw
  let (k2, acts) := judgeSample t k (captureKey k1 raw) sup d stamp
  ({ k2 with lastRaw := raw, lastDepth := d, lastStamp := stamp }, acts, sup)

/-! ### Key samples at the part -/

/-- Form and route the event of what a key's sample or command formed (R16, R17). The strike reads the
live soft value and the rail position now (R38). -/
def keyEvent (key : Key) (stamp : W32) (act : KeyAct) (s : State) : State :=
  let kind := match act with
    | .strike tStart tStrike origin =>
      s.touch.strike s.rail.physicallyRetracted s.pedals.soft.value key tStart tStrike origin
    | .release fault => .noteOff key fault
  routeEvent ⟨.live, stamp, kind⟩ s

/-- Replace one key's record. -/
def State.withKey (s : State) (key : Key) (k : KeyRecord) : State :=
  s.withKeys (s.keys.set key.val k key.isLt)

/-- Raise KEY_FAULT when supervision moved the key into or out of FAULT (R19, R20). -/
def keyFaultNotice (key : Key) (raw : Nat) (sup : Supervision) (s : State) : State :=
  match sup with
  | .none => s
  | .faulted => raise (.keyFault key false raw) s
  | .recovered => raise (.keyFault key true raw) s

/-- A key sample, taken whole (R2): the record, its events, KEY_FAULT, and last the change of the
keyboard-clear condition at the rail (R110; notes/assumptions/11.md). -/
def takeKeySample (key : Key) (raw : Raw) (stamp : W32) (s : State) : State :=
  let s := catchUp stamp s
  let was := keyboardClear s
  let (k, acts, sup) := sampleKey s.touch (s.keys.get key) raw.val stamp
  let s := acts.foldl (fun s a => keyEvent key stamp a s) (s.withKey key k)
  noteKeyboard was (keyFaultNotice key raw.val sup s)

/-- The outcome of supervision a sample would have. -/
def keySupervision (key : Key) (raw : Raw) (s : State) : Supervision :=
  (superviseKey (s.keys.get key) raw.val).2

/-- The sample with which a key's out-of-range count reaches 32 (R19, notes/assumptions/5.md). -/
def takeKeyFaultEntry (key : Key) (raw : Raw) (stamp : W32) (s : State) : State :=
  if keySupervision key raw s = .faulted then takeKeySample key raw stamp s else s

/-- The sample with which a faulted key's in-range count reaches 64 (R20, notes/assumptions/5.md). -/
def takeKeyFaultRecovery (key : Key) (raw : Raw) (stamp : W32) (s : State) : State :=
  if keySupervision key raw s = .recovered then takeKeySample key raw stamp s else s

/-! ### Calibration commands (R5 to R9) -/

/-- Replace one key's record after the NOTE_OFF of a key that was down (R6, R7, R17). -/
def recalibrate (key : Key) (k : KeyRecord) (s : State) : State :=
  let down := (s.keys.get key).isDown
  let s' := s.withKey key k
  if down then keyEvent key s.clock.us (.release false) s' else s'

/-- The record of a key after LOAD_CAL (R6). -/
def KeyRecord.loaded (k : KeyRecord) (rest bottom : Nat) : KeyRecord :=
  { k with rest := rest, bottom := bottom, calibrated := true, outCount := 0, inCount := 0,
           state := .arming }.redepth

/-- The record of a key after CAL_START (R7). -/
def KeyRecord.captureStart (k : KeyRecord) : KeyRecord :=
  { k with capMin := 4095, capMax := 0, outCount := 0, inCount := 0, state := .capture }

/-- A pair that LOAD_CAL admits (R6). -/
def pairOk (p : CalPair) : Bool :=
  decide (p.rest.toNat ≤ 4095 ∧ p.bottom.toNat ≤ 4095 ∧ p.rest.toNat + 256 ≤ p.bottom.toNat)

/-- LOAD_CAL (R5, R6, R182). -/
def cmdLoadCal (keyLow keyHigh : Byte) (pairs : List CalPair) (s : State) : State :=
  if !calLengthOk keyLow keyHigh pairs.length then answer 0x10#8 .badLength s
  else if !rangeOk keyLow keyHigh || !pairs.all pairOk then answer 0x10#8 .badValue s
  else
    let keys := keysIn keyLow.toNat keyHigh.toNat
    if keys.any fun k => decide ((s.keys.get k).state = .capture) then answer 0x10#8 .badState s
    else
      let was := keyboardClear s
      let s := (keys.zip pairs).foldl
        (fun s kp => recalibrate kp.1
          ((s.keys.get kp.1).loaded kp.2.rest.toNat kp.2.bottom.toNat) s) s
      answer 0x10#8 .ok (noteKeyboard was s)

/-- CAL_START (R5, R7). -/
def cmdCalStart (keyLow keyHigh : Byte) (s : State) : State :=
  if !rangeOk keyLow keyHigh then answer 0x11#8 .badValue s
  else
    let was := keyboardClear s
    let s := (keysIn keyLow.toNat keyHigh.toNat).foldl
      (fun s k => recalibrate k (s.keys.get k).captureStart s) s
    answer 0x11#8 .ok (noteKeyboard was s)

/-- The judgement of one capturing key at CAL_END (R9): whether it succeeds, and its record after. -/
def judgeCapture (k : KeyRecord) : Bool × KeyRecord :=
  let r := k.capMax - k.capMin
  let m := r / 64
  if 256 ≤ r ∧ 256 ≤ r - 2 * m then
    (true, { k with rest := k.capMin + m, bottom := k.capMax - m, calibrated := true,
                    state := .arming }.redepth)
  else (false, { k with rest := 0, bottom := 0, calibrated := false, lastDepth := 0, state := .offline })

/-- The keys in CAPTURE, ascending. -/
def capturingKeys (s : State) : List Key :=
  (List.finRange 88).filter fun k => decide ((s.keys.get k).state = .capture)

/-- CAL_END (R9). -/
def cmdCalEnd (s : State) : State :=
  let keys := capturingKeys s
  if keys.isEmpty then answer 0x12#8 .badState s
  else
    let was := keyboardClear s
    let failed := keys.filter fun k => !(judgeCapture (s.keys.get k)).1
    let s := keys.foldl (fun s k => s.withKey k (judgeCapture (s.keys.get k)).2) s
    answerData 0x12#8
      (b8 (keys.length - failed.length) :: b8 failed.length ::
        keySetBytes (failed.foldl KeySet.add KeySet.none))
      (noteKeyboard was s)

/-- GET_KEY (R22). -/
def cmdGetKey (key : Byte) (s : State) : State :=
  match keyOf key with
  | none => answer 0x15#8 .badValue s
  | some i =>
    let k := s.keys.get i
    answerData 0x15#8
      (b8 k.state.code :: (b16 k.lastRaw ++ b16 k.lastDepth ++ b16 k.rest ++ b16 k.bottom ++
        [bit k.calibrated] ++ b16 k.capMin ++ b16 k.capMax ++ b16 (s.touch.gain.get i))) s

/-! ### Touch commands (R24 to R29) -/

/-- The checks of SET_TOUCH (R24). -/
def touchOk (lRel lS1 lRep lS2 h tSilent : Nat) : Bool :=
  decide (4 ≤ h ∧ h ≤ 64) && decide (lRel + h ≤ lS1) && decide (lS1 < lRep) && decide (lRep < lS2) &&
    decide (lS2 ≤ 1000) && decide (lRel + h < lRep) &&
    decide (20000 ≤ tSilent ∧ tSilent ≤ 2000000)

/-- SET_TOUCH (R24, R25); the new L_s1 may change the keyboard-clear condition (R21). -/
def cmdSetTouch (lRel lS1 lRep lS2 : W16) (h : Byte) (tSilent : W32) (s : State) : State :=
  if touchOk lRel.toNat lS1.toNat lRep.toNat lS2.toNat h.toNat tSilent.toNat then
    let was := keyboardClear s
    let s := s.withTouch { s.touch with
      lRel := lRel.toNat, lS1 := lS1.toNat, lRep := lRep.toNat, lS2 := lS2.toNat
      h := h.toNat, tSilent := tSilent.toNat }
    answer 0x13#8 .ok (noteKeyboard was s)
  else answer 0x13#8 .badValue s

/-- SET_KEY_GAIN (R26). -/
def cmdSetKeyGain (keyLow keyHigh : Byte) (gain : W16) (s : State) : State :=
  if rangeOk keyLow keyHigh ∧ 64 ≤ gain.toNat ∧ gain.toNat ≤ 448 then
    let g := (keysIn keyLow.toNat keyHigh.toNat).foldl
      (fun g k => g.set k.val gain.toNat k.isLt) s.touch.gain
    answer 0x14#8 .ok (s.withTouch { s.touch with gain := g })
  else answer 0x14#8 .badValue s

/-- Speeds in 1..60,000 strictly ascending and velocities in 1..127 not descending (R27). -/
def curveOk : List (Nat × Nat) → Bool
  | [] => true
  | [(s, v)] => decide (1 ≤ s ∧ s ≤ 60000 ∧ 1 ≤ v ∧ v ≤ 127)
  | (s, v) :: (s', v') :: rest =>
    decide (1 ≤ s ∧ s ≤ 60000 ∧ 1 ≤ v ∧ v ≤ 127) && decide (s < s' ∧ v ≤ v') &&
      curveOk ((s', v') :: rest)

/-- The breakpoints SET_CURVE carries. -/
def curveOf (speeds : Vector W16 12) (velocities : Vector Byte 12) : Curve :=
  vgen 12 fun i => ((vgetD speeds i 0).toNat, (vgetD velocities i 0).toNat)

/-- SET_CURVE (R27). -/
def cmdSetCurve (set : Byte) (speeds : Vector W16 12) (velocities : Vector Byte 12) (s : State) :
    State :=
  let c := curveOf speeds velocities
  if curveOk c.toList then
    match set.toNat with
    | 0 => answer 0x16#8 .ok (s.withTouch { s.touch with openCurve := c })
    | 1 => answer 0x16#8 .ok (s.withTouch { s.touch with stoppedCurve := c })
    | _ => answer 0x16#8 .badValue s
  else answer 0x16#8 .badValue s

/-- SET_SOFT (R29). -/
def cmdSetSoft (strength : Byte) (s : State) : State :=
  if strength.toNat ≤ 128 then
    answer 0x17#8 .ok (s.withTouch { s.touch with soft := strength.toNat })
  else answer 0x17#8 .badValue s

end Sys2Proof.Machine
end

