-- ==== Sys2Proof/Machine/PedalUnit.lean ====
section
/-! DEFINITION. The Pedal Unit (chapter 3): samples, values, the report window, the sostenuto, pedal
faults, and its commands. -/

namespace Sys2Proof.Machine

def PedalUnit.get (u : PedalUnit) : Pedal → PedalRecord
  | .damper => u.damper
  | .soft => u.soft
  | .sostenuto => u.sostenuto

def PedalUnit.put (u : PedalUnit) (p : Pedal) (r : PedalRecord) : PedalUnit :=
  match p with
  | .damper => { u with damper := r }
  | .soft => { u with soft := r }
  | .sostenuto => { u with sostenuto := r }

/-- The window after a raw value joins it: the latest four (R40). -/
def joinWindow (w : List Nat) (raw : Nat) : List Nat :=
  (if 4 ≤ w.length then w.drop 1 else w) ++ [raw]

/-- The mean of the window, floored (R43). -/
def windowMean (w : List Nat) : Nat := w.sum / w.length

/-- The depth of an averaged raw (R43): 0 for an UNCALIBRATED pedal. -/
def PedalRecord.depthOf (r : PedalRecord) (avg : Nat) : Nat :=
  if r.state = .uncalibrated then 0 else min 1023 ((avg - r.rest) * 1024 / (r.full - r.rest))

/-- The value of a depth between two settings (R44). -/
def pedalValue (low high depth : Nat) : Nat :=
  if depth ≤ low then 0 else if high ≤ depth then 255 else (depth - low) * 255 / (high - low)

/-- Whether a value is reported (R45). -/
def reports (w value last : Nat) : Bool :=
  decide (w ≤ (value - last) + (last - value)) ||
    (decide (value = 0 ∨ value = 255) && decide (value ≠ last))

/-- A raw value in a pedal's window (R50). -/
def PedalRecord.inRange (r : PedalRecord) (raw : Nat) : Bool :=
  decide (r.rest ≤ raw + 256 ∧ raw ≤ r.full + 256)

/-- The outcome of fault supervision of one pedal sample. -/
inductive PedalSupervision where
  | none
  | faulted
  | recovered
  deriving DecidableEq, Repr

/-- Fault supervision of one pedal sample (R50, R51). -/
def supervisePedal (r : PedalRecord) (raw : Nat) : PedalRecord × PedalSupervision :=
  match r.state with
  | .uncalibrated => (r, .none)
  | .active =>
    if r.inRange raw then ({ r with outCount := 0 }, .none)
    else if 32 ≤ r.outCount + 1 then
      ({ r with state := .fault, outCount := 32, inCount := 0 }, .faulted)
    else ({ r with outCount := r.outCount + 1 }, .none)
  | .fault =>
    if r.inRange raw then
      if 64 ≤ r.inCount + 1 then ({ r with state := .active, outCount := 0, inCount := 0 }, .recovered)
      else ({ r with inCount := r.inCount + 1 }, .none)
    else ({ r with inCount := 0 }, .none)

/-- The event kind that carries a value of the DAMPER or SOFT pedal. -/
def valueEvent (p : Pedal) (v : Nat) : EventKind :=
  match p with
  | .soft => .soft v
  | .damper | .sostenuto => .damper v

/-- The judgement of an ACTIVE pedal at a sample (R44, R45, R47). -/
def judgePedal (st : PedalSettings) (p : Pedal) (r : PedalRecord) (depth : Nat) :
    PedalRecord × Option EventKind :=
  match p with
  | .damper | .soft =>
    let v := match p with
      | .soft => pedalValue st.softLow st.softHigh depth
      | _ => pedalValue st.damperLow st.damperHigh depth
    if reports st.w v r.lastEmitted then
      ({ r with value := v, lastEmitted := v }, some (valueEvent p v))
    else ({ r with value := v }, none)
  | .sostenuto =>
    if !r.sost ∧ st.sostOn ≤ depth then ({ r with sost := true }, some .sostOn)
    else if r.sost ∧ depth ≤ st.sostOff then ({ r with sost := false }, some .sostOff)
    else (r, none)

/-- What entering FAULT forces (R50). -/
def forcePedal (p : Pedal) (r : PedalRecord) : PedalRecord × Option EventKind :=
  match p with
  | .damper | .soft =>
    ({ r with value := 0, lastEmitted := 0 },
      if r.lastEmitted ≠ 0 then some (valueEvent p 0) else none)
  | .sostenuto => ({ r with sost := false }, if r.sost then some .sostOff else none)

/-- One sample at a pedal record, whole (R40): the record after it, the event it forms, and the outcome of
fault supervision. -/
def samplePedal (st : PedalSettings) (p : Pedal) (r : PedalRecord) (raw : Nat) :
    PedalRecord × Option EventKind × PedalSupervision :=
  let window := joinWindow r.window raw
  let (r1, sup) := supervisePedal { r with window := window } raw
  let avg := windowMean window
  let depth := r1.depthOf avg
  let (r2, ev) := match sup with
    | .none => if r1.state = PedalState.active then judgePedal st p r1 depth else (r1, none)
    | .faulted => forcePedal p r1
    | .recovered => (r1, none)
  ({ r2 with lastRaw := raw, avg := avg, depth := depth }, ev, sup)

/-- Raise PEDAL_FAULT when supervision moved the pedal into or out of FAULT (R50, R51). -/
def pedalFaultNotice (p : Pedal) (raw : Nat) (sup : PedalSupervision) (s : State) : State :=
  match sup with
  | .none => s
  | .faulted => raise (.pedalFault p false raw) s
  | .recovered => raise (.pedalFault p true raw) s

/-- A pedal sample, taken whole (R40, R52): the record, its event, then PEDAL_FAULT (R50). -/
def takePedalSample (p : Pedal) (raw : Raw) (stamp : W32) (s : State) : State :=
  let s := catchUp stamp s
  let (r, ev, sup) := samplePedal s.pedals.settings p (s.pedals.get p) raw.val
  let s := s.withPedals (s.pedals.put p r)
  let s := match ev with
    | some kind => routeEvent ⟨.live, stamp, kind⟩ s
    | none => s
  pedalFaultNotice p raw.val sup s

/-- The outcome of supervision a pedal sample would have. -/
def pedalSupervision (p : Pedal) (raw : Raw) (s : State) : PedalSupervision :=
  (supervisePedal (s.pedals.get p) raw.val).2

/-- The sample with which a pedal's out-of-range count reaches 32 (R50, notes/assumptions/5.md). -/
def takePedalFaultEntry (p : Pedal) (raw : Raw) (stamp : W32) (s : State) : State :=
  if pedalSupervision p raw s = .faulted then takePedalSample p raw stamp s else s

/-- The sample with which a faulted pedal's in-range count reaches 64 (R51, notes/assumptions/5.md). -/
def takePedalFaultRecovery (p : Pedal) (raw : Raw) (stamp : W32) (s : State) : State :=
  if pedalSupervision p raw s = .recovered then takePedalSample p raw stamp s else s

/-! ### Commands -/

/-- LOAD_PEDAL_CAL (R42). -/
def cmdLoadPedalCal (pedal : Byte) (rest full : W16) (s : State) : State :=
  match pedalOf pedal with
  | none => answer 0x18#8 .badValue s
  | some p =>
    if rest.toNat ≤ 4095 ∧ full.toNat ≤ 4095 ∧ rest.toNat + 128 ≤ full.toNat then
      answer 0x18#8 .ok
        (s.withPedals (s.pedals.put p
          { s.pedals.get p with
            rest := rest.toNat, full := full.toNat, outCount := 0, inCount := 0, state := .active }))
    else answer 0x18#8 .badValue s

/-- SET_PEDAL (R48, R49). -/
def cmdSetPedal (damperLow damperHigh softLow softHigh sostOn sostOff : W16) (w : Byte) (s : State) :
    State :=
  if damperLow.toNat ≤ 1023 ∧ damperHigh.toNat ≤ 1023 ∧ softLow.toNat ≤ 1023 ∧ softHigh.toNat ≤ 1023 ∧
      sostOn.toNat ≤ 1023 ∧ sostOff.toNat ≤ 1023 ∧ damperLow.toNat < damperHigh.toNat ∧
      softLow.toNat < softHigh.toNat ∧ sostOff.toNat < sostOn.toNat ∧ 1 ≤ w.toNat ∧ w.toNat ≤ 32 then
    answer 0x19#8 .ok
      (s.withPedals { s.pedals with
        settings := ⟨damperLow.toNat, damperHigh.toNat, softLow.toNat, softHigh.toNat, sostOn.toNat,
          sostOff.toNat, w.toNat⟩ })
  else answer 0x19#8 .badValue s

/-- The value and last emitted fields of GET_PEDAL: the sostenuto state for SOSTENUTO (R53). -/
def PedalRecord.reported (r : PedalRecord) : Pedal → Byte × Byte
  | .sostenuto => (bit r.sost, bit r.sost)
  | .damper | .soft => (b8 r.value, b8 r.lastEmitted)

/-- GET_PEDAL (R53). -/
def cmdGetPedal (pedal : Byte) (s : State) : State :=
  match pedalOf pedal with
  | none => answer 0x1A#8 .badValue s
  | some p =>
    let r := s.pedals.get p
    answerData 0x1A#8
      (b8 r.state.code :: (b16 r.lastRaw ++ b16 r.avg ++ b16 r.depth ++ b16 r.rest ++ b16 r.full ++
        [(r.reported p).1, (r.reported p).2])) s

end Sys2Proof.Machine
end

