-- ==== Sys2Proof/Machine/Reset.lean ====
section
/-! DEFINITION. Whole-part resets (R189) and the end of initialization (R190). -/

namespace Sys2Proof.Machine

/-- A whole-part reset with its cause (R189, R190): every block takes its reset values and initialization is
under way. What stands outside the part stays: the commands to come, the flash, the CTS input
(notes/assumptions/9.md), and the model's own counter of open choices. DESIGN CHOICE (notes/assumptions/9.md):
R180 gives no reset value for the receiver's ignoring of the line after a break, nor for a held framing error;
both are cleared, so a line still low after initialization can raise a second LINK_SYNC. -/
def wholeReset (cause : ResetCause) (s : State) : State :=
  { State.reset with
    cause := cause
    link := { ({} : Link) with cts := s.link.cts }
    flash := s.flash
    choices := s.choices
    pending := s.pending }

/-- The rail record from the first reads (R105, R106): readings, filtered levels, and the state the
switches show; both asserted is FAULT with reason SWITCH. -/
def Rail.initial (r : Rail) (current supply : Nat) (eng ret : Bool) : Rail :=
  let r := { r with current := current, supply := supply, eng := eng, ret := ret }
  let st := r.switchState
  r.enterRest st (if st = .fault then some .switch else none)

/-- The end of initialization (R190): the rail reads its inputs, the mute gain is 0 or 480 by the mute
condition (R100), the part runs, and READY is the first notice. A part that runs already is left. -/
def endInitialization (current supply : Nat) (eng ret : Bool) (s : State) : State :=
  if s.running then s
  else
    let s := s.withRail (s.rail.initial current supply eng ret)
    let s := s.withOutput { s.output with mute := if muteCondition s then 0 else 480 }
    raise (.ready s.cause s.rail.state) { s with running := true }

end Sys2Proof.Machine
end

