-- ==== Sys2Proof/Machine/Link.lean ====
section
/-! DEFINITION. The Serial Link (chapter 11): the framer, the break, the intake, the command decoder, the
transmitter and the notice queue's taking, the part commands. -/

namespace Sys2Proof.Machine

/-! ### The framer (R178, R179) -/

/-- Discard the frame under way with its LINK_ERROR (R179). -/
def dropFrame (why : LinkReason) (s : State) : State :=
  raise (.linkError why) (s.withLink { s.link with framer := .hunt, gapUs := 0 })

/-- A frame that passes its sum joins the intake, or is discarded alone when 4 are held (R178, R179). -/
def frameArrives (f : Frame) (s : State) : State :=
  if s.link.intake.length < 4 then s.withLink { s.link with intake := s.link.intake ++ [f] }
  else raise (.linkError .overrun) s

/-- The CHECK byte of a frame whose LEN, TYPE and payload have been collected (R178). -/
def frameEnds (len : Nat) (got : List Byte) (chk : Byte) (s : State) : State :=
  if byteSum (BitVec.ofNat 8 len :: got ++ [chk]) = 0#8 then
    frameArrives ⟨got.headD 0#8, got.drop 1⟩ (s.withLink { s.link with framer := .hunt, gapUs := 0 })
  else dropFrame .check s

/-- Set the framer; the GAP timer starts again at each byte. -/
def setFramer (f : Framer) (s : State) : State := s.withLink { s.link with framer := f, gapUs := 0 }

/-- A byte without a parity or framing error (R178). -/
def frameByte (b : Byte) (s : State) : State :=
  match s.link.framer with
  | .hunt => if b = 0xA5#8 then setFramer .length s else s
  | .length => if b.toNat ≤ 60 then setFramer (.body b.toNat []) s else dropFrame .length s
  | .body len got =>
    let got := got ++ [b]
    if got.length = len + 1 then setFramer (.check len got) s else setFramer (.body len got) s
  | .check len got => frameEnds len got b s

/-- The BYTE rule: an error ends a frame under way, and in HUNT it is ignored (R179). -/
def byteError (s : State) : State := if s.link.framer.inFrame then dropFrame .byte s else s

/-- The BYTE rule applies to a held framing error (R179). -/
def settleHeld (s : State) : State :=
  if s.link.held then byteError (s.withLink { s.link with held := false }) else s

/-- A GAP expiry that came before the start bit of the byte now received (R179, notes/assumptions/30.md):
the byte takes 11 µs. -/
def overdueFrameGap (s : State) : State :=
  if s.link.framer.inFrame ∧ 1011 < s.link.gapUs then dropFrame .gap s else s

/-- A byte is received (R178 to R180). After a break the line is ignored until it rises; a framing error is
held (notes/assumptions/15.md). -/
def takeByte (b : Byte) (err : ByteError) (s : State) : State :=
  if s.link.ignoring then s
  else
    let s := overdueFrameGap (settleHeld s)
    match err with
    | .none => frameByte b s
    | .parity => byteError s
    | .framing => s.withLink { s.link with held := true }

/-- The GAP timer expires, when due (R179, notes/assumptions/4.md). -/
def takeFrameGap (s : State) : State :=
  if s.link.framer.inFrame ∧ 1000 < s.link.gapUs then dropFrame .gap s else s

/-- A break: the link sync (R180). One break raises one LINK_SYNC, so while the line has not risen again
nothing more happens. -/
def takeBreak (s : State) : State :=
  if s.link.ignoring then s
  else
    raise .linkSync
      (s.withLink { s.link with
        framer := .hunt, gapUs := 0, held := false, ignoring := true, intake := [] })

/-- The receive line rises again (R179, R180). -/
def takeLineRise (s : State) : State :=
  if s.link.ignoring then s.withLink { s.link with ignoring := false } else settleHeld s

/-! ### The transmitter (R184 to R186) -/

/-- The highest class present in a queue; 0 for an empty queue. -/
def highestClass (q : List Notice) : Nat := q.foldr (fun n c => max n.cls c) 0

/-- The oldest notice of the highest class, and the queue without it (R185). -/
def takeOldest (q : List Notice) : Option (Notice × List Notice) :=
  match q.find? fun n => n.cls == highestClass q with
  | some n => some (n, q.eraseP fun n => n.cls == highestClass q)
  | none => none

/-- The transmitter chooses its next frame when it is idle and CTS is asserted (R184): the reply in the
slot, else a notice, whose LOST bit takes and clears the lost flag (R186). -/
def Link.transmit (l : Link) : Link :=
  if l.tx.isSome || !l.cts then l
  else
    match l.slot with
    | some r => { l with slot := none, tx := some (.reply r) }
    | none =>
      match takeOldest l.notices with
      | some (n, rest) => { l with notices := rest, lost := false, tx := some (.notice n l.lost) }
      | none => l

/-- The transmitter's choice at the part. -/
def chooseTx (s : State) : State := s.withLink s.link.transmit

/-- The end of a transmitted frame frees the transmitter; the end of RESET_PART's reply begins the reset
(R184, R189). -/
def takeFrameSent (s : State) : State :=
  match s.link.tx with
  | none => s
  | some (.reply r) =>
    if r.resets then wholeReset .command s else s.withLink { s.link with tx := none }
  | some (.notice _ _) => s.withLink { s.link with tx := none }

/-- The last byte of RESET_PART's reply has been sent: the reset with cause COMMAND (R189). -/
def takeCommandReset (s : State) : State :=
  match s.link.tx with
  | some (.reply r) => if r.resets then wholeReset .command s else s
  | some (.notice _ _) => s
  | none => s

/-- The CTS input takes a level (R176, R184). -/
def takeCts (asserted : Bool) (s : State) : State := s.withLink { s.link with cts := asserted }

/-! ### Part commands (R187 to R189) -/

/-- The edit state byte of GET_STATUS (section 11.7). -/
def editCode : EditJob → Nat
  | .idle => 0xFF
  | .copy _ => EditCommand.copy.code
  | .search _ => EditCommand.search.code
  | .scale _ => EditCommand.scale.code

/-- The number of keys in FAULT (R188). -/
def faultedKeys (s : State) : Nat := s.keys.toList.countP fun k => decide (k.state = .fault)

/-- GET_STATUS (R188). -/
def cmdGetStatus (s : State) : State :=
  answerData 0x01#8
    ([b8 s.rail.state.code, b8 s.player.state.code, b8 (takeCode s.player.take),
      b8 (if s.recorder.isSome then 1 else 0), b8 (takeCode (s.recorder.map Recording.take)),
      b8 (editCode s.edit), b8 s.engine.busyVoices, b8 s.engine.queue.length] ++
      b16 s.store.freeSlots ++ [b8 (faultedKeys s), b8 s.link.notices.length]) s

/-- RESET_PART (R189): its reply, and the decoder takes no further command. -/
def cmdResetPart (s : State) : State :=
  placeReply ⟨replyType 0x02#8, .ok, [], true⟩ (s.withLink { s.link with resetAwait := true })

/-- SET_NOTICE_CLASS (R187). -/
def cmdSetNoticeClass (notice cls : Byte) (s : State) : State :=
  if h : 0x61 ≤ notice.toNat ∧ notice.toNat ≤ 0x6F ∧ cls.toNat ≤ 3 then
    answer 0x03#8 .ok
      (s.withLink { s.link with
        classes := s.link.classes.set (notice.toNat - 0x60) cls.toNat (by omega) })
  else answer 0x03#8 .badValue s

/-! ### The command decoder (R181, R182) -/

/-- Hand a command to the block that owns it (R181). Event rows are no commands of the host. -/
def runCommand (i : Instr) (s : State) : State :=
  match i with
  | .getStatus => cmdGetStatus s
  | .resetPart => cmdResetPart s
  | .setNoticeClass c k => cmdSetNoticeClass c k s
  | .loadCal lo hi ps => cmdLoadCal lo hi ps s
  | .calStart lo hi => cmdCalStart lo hi s
  | .calEnd => cmdCalEnd s
  | .setTouch a b c d h t => cmdSetTouch a b c d h t s
  | .setKeyGain lo hi g => cmdSetKeyGain lo hi g s
  | .getKey k => cmdGetKey k s
  | .setCurve c ss vs => cmdSetCurve c ss vs s
  | .setSoft a => cmdSetSoft a s
  | .loadPedalCal p r f => cmdLoadPedalCal p r f s
  | .setPedal a b c d e f w => cmdSetPedal a b c d e f w s
  | .getPedal p => cmdGetPedal p s
  | .setRoute r e ss k lo hi d => cmdSetRoute r e ss k lo hi d s
  | .getRoute r => cmdGetRoute r s
  | .loadMap k n rh rd pan ls => cmdLoadMap k n rh rd pan ls s
  | .setOutput v l => cmdSetOutput v l s
  | .soundOff => cmdSoundOff s
  | .rail t => cmdRail t s
  | .railClear => cmdRailClear s
  | .setRail a b c d => cmdSetRail a b c d s
  | .recordStart t m => cmdRecordStart t m s
  | .recordStop => cmdRecordStop s
  | .takeInfo t => cmdTakeInfo t s
  | .takeErase t => cmdTakeErase t s
  | .takeOpen t => cmdTakeOpen t s
  | .takeWrite t n rs => cmdTakeWrite t n rs s
  | .takeClose t => cmdTakeClose t s
  | .takeRead t i n => cmdTakeRead t i n s
  | .play t ms => cmdPlay t ms s
  | .stop => cmdStop s
  | .pause => cmdPause s
  | .resume => cmdResume s
  | .locate t => cmdLocate t s
  | .setTempo q => cmdSetTempo q s
  | .setLoop a b => cmdSetLoop a b s
  | .setPasses l p => cmdSetPasses l p s
  | .setGuide w g => cmdSetGuide w g s
  | .guideSkip => cmdGuideSkip s
  | .setMarkers a b c d => cmdSetMarkers a b c d s
  | .takeCopy a f t d m => cmdTakeCopy a f t d m s
  | .takeSearch t i k lo hi vl vh => cmdTakeSearch t i k lo hi vl vh s
  | .takeScale t f e lo hi q o => cmdTakeScale t f e lo hi q o s
  | .editAbort => cmdEditAbort s
  | .unknownType _ _ | .powerOnReset | .pinReset | .commandReset | .initializationEnd _ _ _ _
  | .lineBreak | .keySample _ _ _ | .keyFaultEntry _ _ _ | .keyFaultRecovery _ _ _
  | .pedalSample _ _ _ | .pedalFaultEntry _ _ _ | .pedalFaultRecovery _ _ _ | .gapTimerExpiry
  | .outputSample | .controlBlock | .railMeasurement _ _ _ _ | .switchEvent _ _
  | .overcurrentFault _ _ _ _ | .settleComplete | .clearWaitExpiry | .runLimitExpiry | .playerTick
  | .loopJump | .takeEnd | .takeCopyStep | .takeSearchStep | .takeScaleStep | .byteReceived _ _
  | .frameGapExpiry | .ctsChange _ | .frameSent | .receiveLineRise => s

/-- A frame the decoder has taken (R181, R182): the command it carries runs, or the reply refuses it and no
block sees it. -/
def runFrame (f : Frame) (s : State) : State :=
  match parseFrame f with
  | .ok i => runCommand i s
  | .error st => placeReply ⟨replyType f.type, st, [], false⟩ s

/-- The decoder may take a command (R181): the reply slot is empty and no RESET_PART awaits its reset. -/
def Link.decoderOpen (l : Link) : Bool := l.slot.isNone && !l.resetAwait

/-- The decoder takes the oldest frame of the intake when it may (R181). -/
def takeCommand (s : State) : State :=
  if s.link.decoderOpen then
    match s.link.intake with
    | [] => s
    | f :: rest => runFrame f (s.withLink { s.link with intake := rest })
  else s

/-- What the link does at the end of each step (R181, R184; notes/assumptions/7.md): the transmitter
chooses and the decoder takes, until neither has more to do. -/
def pump (s : State) : State :=
  if s.running then takeCommand (chooseTx (takeCommand (chooseTx s))) else s

/-! ### The rows -/

/-- A host command of the table: its whole frame has arrived (notes/assumptions/8.md). A part that
initializes, or ignores the line after a break, hears nothing; a payload above 60 bytes is a LENGTH error
(R179); a decoder that is ready takes the command at once (R181), else the frame joins the intake. -/
def hostCommand (i : Instr) (take : State → State) (s : State) : State :=
  match frameOf i with
  | none => s
  | some f =>
    if !s.running || s.link.ignoring then s
    else if Config.maxPayload < f.payload.length then raise (.linkError .length) s
    else if s.link.decoderOpen && s.link.intake.isEmpty then take s
    else frameArrives f s

/-- A row whose step ends with the link's own work. -/
def endStep (s : State) : Host.Outcome State Fault Refusal := .next (pump s)

end Sys2Proof.Machine
end

