-- ==== Sys2Proof/Machine/CommandMeanings.lean ====
section
/-! DEFINITION. The meanings of the host commands: the command's frame reaches the decoder (`hostCommand`),
the block that owns the command takes it, and the link does its own work at the end of the step. -/

namespace Sys2Proof.Machine

/-- UNKNOWN_TYPE (R182). -/
def execUnknownType (type : Byte) (payload : List Byte) (s : State) : Host.Outcome State Fault Refusal :=
  endStep (hostCommand (.unknownType type payload) (runFrame ⟨type, payload⟩) s)

/-- GET_STATUS (R188). -/
def execGetStatus (s : State) : Host.Outcome State Fault Refusal :=
  endStep (hostCommand .getStatus cmdGetStatus s)

/-- RESET_PART (R189). -/
def execResetPart (s : State) : Host.Outcome State Fault Refusal :=
  endStep (hostCommand .resetPart cmdResetPart s)

/-- SET_NOTICE_CLASS (R187). -/
def execSetNoticeClass (notice cls : Byte) (s : State) : Host.Outcome State Fault Refusal :=
  endStep (hostCommand (.setNoticeClass notice cls) (cmdSetNoticeClass notice cls) s)

/-- LOAD_CAL (R6). -/
def execLoadCal (keyLow keyHigh : Byte) (pairs : List CalPair)
    (s : State) : Host.Outcome State Fault Refusal :=
  endStep (hostCommand (.loadCal keyLow keyHigh pairs) (cmdLoadCal keyLow keyHigh pairs) s)

/-- CAL_START (R7). -/
def execCalStart (keyLow keyHigh : Byte) (s : State) : Host.Outcome State Fault Refusal :=
  endStep (hostCommand (.calStart keyLow keyHigh) (cmdCalStart keyLow keyHigh) s)

/-- CAL_END (R9). -/
def execCalEnd (s : State) : Host.Outcome State Fault Refusal :=
  endStep (hostCommand .calEnd cmdCalEnd s)

/-- SET_TOUCH (R24). -/
def execSetTouch (lRel lS1 lRep lS2 : W16) (h : Byte) (tSilent : W32)
    (s : State) : Host.Outcome State Fault Refusal :=
  endStep (hostCommand (.setTouch lRel lS1 lRep lS2 h tSilent) (cmdSetTouch lRel lS1 lRep lS2 h tSilent) s)

/-- SET_KEY_GAIN (R26). -/
def execSetKeyGain (keyLow keyHigh : Byte) (gain : W16) (s : State) : Host.Outcome State Fault Refusal :=
  endStep (hostCommand (.setKeyGain keyLow keyHigh gain) (cmdSetKeyGain keyLow keyHigh gain) s)

/-- GET_KEY (R22). -/
def execGetKey (key : Byte) (s : State) : Host.Outcome State Fault Refusal :=
  endStep (hostCommand (.getKey key) (cmdGetKey key) s)

/-- SET_CURVE (R27). -/
def execSetCurve (set : Byte) (speeds : Vector W16 12) (velocities : Vector Byte 12)
    (s : State) : Host.Outcome State Fault Refusal :=
  endStep (hostCommand (.setCurve set speeds velocities) (cmdSetCurve set speeds velocities) s)

/-- SET_SOFT (R29). -/
def execSetSoft (strength : Byte) (s : State) : Host.Outcome State Fault Refusal :=
  endStep (hostCommand (.setSoft strength) (cmdSetSoft strength) s)

/-- LOAD_PEDAL_CAL (R42). -/
def execLoadPedalCal (pedal : Byte) (rest full : W16) (s : State) : Host.Outcome State Fault Refusal :=
  endStep (hostCommand (.loadPedalCal pedal rest full) (cmdLoadPedalCal pedal rest full) s)

/-- SET_PEDAL (R48). -/
def execSetPedal (damperLow damperHigh softLow softHigh sostOn sostOff : W16) (w : Byte)
    (s : State) : Host.Outcome State Fault Refusal :=
  endStep (hostCommand (.setPedal damperLow damperHigh softLow softHigh sostOn sostOff w)
    (cmdSetPedal damperLow damperHigh softLow softHigh sostOn sostOff w) s)

/-- GET_PEDAL (R53). -/
def execGetPedal (pedal : Byte) (s : State) : Host.Outcome State Fault Refusal :=
  endStep (hostCommand (.getPedal pedal) (cmdGetPedal pedal) s)

/-- SET_ROUTE (R57). -/
def execSetRoute (route enabled sources kinds keyLow keyHigh dests : Byte)
    (s : State) : Host.Outcome State Fault Refusal :=
  endStep (hostCommand (.setRoute route enabled sources kinds keyLow keyHigh dests)
    (cmdSetRoute route enabled sources kinds keyLow keyHigh dests) s)

/-- GET_ROUTE (R58). -/
def execGetRoute (route : Byte) (s : State) : Host.Outcome State Fault Refusal :=
  endStep (hostCommand (.getRoute route) (cmdGetRoute route) s)

/-- LOAD_MAP (R77). -/
def execLoadMap (key layerCount : Byte) (rHold rDamp : W16) (pan : Byte) (layers : List LayerArg)
    (s : State) : Host.Outcome State Fault Refusal :=
  endStep (hostCommand (.loadMap key layerCount rHold rDamp pan layers)
    (cmdLoadMap key layerCount rHold rDamp pan layers) s)

/-- SET_OUTPUT (R102). -/
def execSetOutput (vol : W16) (layer : Byte) (s : State) : Host.Outcome State Fault Refusal :=
  endStep (hostCommand (.setOutput vol layer) (cmdSetOutput vol layer) s)

/-- SOUND_OFF (R89). -/
def execSoundOff (s : State) : Host.Outcome State Fault Refusal :=
  endStep (hostCommand .soundOff cmdSoundOff s)

/-- RAIL (R108). -/
def execRail (target : Byte) (s : State) : Host.Outcome State Fault Refusal :=
  endStep (hostCommand (.rail target) (cmdRail target) s)

/-- RAIL_CLEAR (R119). -/
def execRailClear (s : State) : Host.Outcome State Fault Refusal :=
  endStep (hostCommand .railClear cmdRailClear s)

/-- SET_RAIL (R120). -/
def execSetRail (clearWait runLimit : W16) (currentLimit supplyMin : Byte)
    (s : State) : Host.Outcome State Fault Refusal :=
  endStep (hostCommand (.setRail clearWait runLimit currentLimit supplyMin)
    (cmdSetRail clearWait runLimit currentLimit supplyMin) s)

/-- RECORD_START (R130). -/
def execRecordStart (take mode : Byte) (s : State) : Host.Outcome State Fault Refusal :=
  endStep (hostCommand (.recordStart take mode) (cmdRecordStart take mode) s)

/-- RECORD_STOP (R135). -/
def execRecordStop (s : State) : Host.Outcome State Fault Refusal :=
  endStep (hostCommand .recordStop cmdRecordStop s)

/-- TAKE_INFO (R140). -/
def execTakeInfo (take : Byte) (s : State) : Host.Outcome State Fault Refusal :=
  endStep (hostCommand (.takeInfo take) (cmdTakeInfo take) s)

/-- TAKE_ERASE (R141). -/
def execTakeErase (take : Byte) (s : State) : Host.Outcome State Fault Refusal :=
  endStep (hostCommand (.takeErase take) (cmdTakeErase take) s)

/-- TAKE_OPEN (R136). -/
def execTakeOpen (take : Byte) (s : State) : Host.Outcome State Fault Refusal :=
  endStep (hostCommand (.takeOpen take) (cmdTakeOpen take) s)

/-- TAKE_WRITE (R137). -/
def execTakeWrite (take count : Byte) (records : List RawRecord)
    (s : State) : Host.Outcome State Fault Refusal :=
  endStep (hostCommand (.takeWrite take count records) (cmdTakeWrite take count records) s)

/-- TAKE_CLOSE (R138). -/
def execTakeClose (take : Byte) (s : State) : Host.Outcome State Fault Refusal :=
  endStep (hostCommand (.takeClose take) (cmdTakeClose take) s)

/-- TAKE_READ (R139). -/
def execTakeRead (take : Byte) (start : W16) (count : Byte)
    (s : State) : Host.Outcome State Fault Refusal :=
  endStep (hostCommand (.takeRead take start count) (cmdTakeRead take start count) s)

/-- PLAY (R143). -/
def execPlay (take : Byte) (startMs : W32) (s : State) : Host.Outcome State Fault Refusal :=
  endStep (hostCommand (.play take startMs) (cmdPlay take startMs) s)

/-- STOP (R155). -/
def execStop (s : State) : Host.Outcome State Fault Refusal :=
  endStep (hostCommand .stop cmdStop s)

/-- PAUSE (R156). -/
def execPause (s : State) : Host.Outcome State Fault Refusal :=
  endStep (hostCommand .pause cmdPause s)

/-- RESUME (R157). -/
def execResume (s : State) : Host.Outcome State Fault Refusal :=
  endStep (hostCommand .resume cmdResume s)

/-- LOCATE (R158). -/
def execLocate (time : W32) (s : State) : Host.Outcome State Fault Refusal :=
  endStep (hostCommand (.locate time) (cmdLocate time) s)

/-- SET_TEMPO (R150). -/
def execSetTempo (tempo : W16) (s : State) : Host.Outcome State Fault Refusal :=
  endStep (hostCommand (.setTempo tempo) (cmdSetTempo tempo) s)

/-- SET_LOOP (R151). -/
def execSetLoop (a b : W32) (s : State) : Host.Outcome State Fault Refusal :=
  endStep (hostCommand (.setLoop a b) (cmdSetLoop a b) s)

/-- SET_PASSES (R154). -/
def execSetPasses (listen practice : Byte) (s : State) : Host.Outcome State Fault Refusal :=
  endStep (hostCommand (.setPasses listen practice) (cmdSetPasses listen practice) s)

/-- SET_GUIDE (R159). -/
def execSetGuide (wait : Byte) (grace : W16) (s : State) : Host.Outcome State Fault Refusal :=
  endStep (hostCommand (.setGuide wait grace) (cmdSetGuide wait grace) s)

/-- GUIDE_SKIP (R161). -/
def execGuideSkip (s : State) : Host.Outcome State Fault Refusal :=
  endStep (hostCommand .guideSkip cmdGuideSkip s)

/-- SET_MARKERS (R148). -/
def execSetMarkers (m0 m1 m2 m3 : W32) (s : State) : Host.Outcome State Fault Refusal :=
  endStep (hostCommand (.setMarkers m0 m1 m2 m3) (cmdSetMarkers m0 m1 m2 m3) s)

/-- TAKE_COPY (R166). -/
def execTakeCopy (src : Byte) (fromMs toMs : W32) (dst mode : Byte)
    (s : State) : Host.Outcome State Fault Refusal :=
  endStep (hostCommand (.takeCopy src fromMs toMs dst mode) (cmdTakeCopy src fromMs toMs dst mode) s)

/-- TAKE_SEARCH (R172). -/
def execTakeSearch (take : Byte) (start : W16) (kinds keyLow keyHigh valueLow valueHigh : Byte)
    (s : State) : Host.Outcome State Fault Refusal :=
  endStep (hostCommand (.takeSearch take start kinds keyLow keyHigh valueLow valueHigh)
    (cmdTakeSearch take start kinds keyLow keyHigh valueLow valueHigh) s)

/-- TAKE_SCALE (R173). -/
def execTakeScale (take : Byte) (fromMs toMs : W32) (keyLow keyHigh : Byte) (factor : W16) (offset : Byte)
    (s : State) : Host.Outcome State Fault Refusal :=
  endStep (hostCommand (.takeScale take fromMs toMs keyLow keyHigh factor offset)
    (cmdTakeScale take fromMs toMs keyLow keyHigh factor offset) s)

/-- EDIT_ABORT (R174). -/
def execEditAbort (s : State) : Host.Outcome State Fault Refusal :=
  endStep (hostCommand .editAbort cmdEditAbort s)

end Sys2Proof.Machine
end

