-- ==== Sys2Proof/Machine/EventMeanings.lean ====
section
/-! DEFINITION. The meanings of the event rows: what each does, then what the link does at the end of the
step. Until initialization ends, the part takes no events but resets, the CTS level and the end of
initialization (R190). -/

namespace Sys2Proof.Machine

/-- Applying power begins a whole-part reset with cause POWER (R189). -/
def execPowerOnReset (s : State) : Host.Outcome State Fault Refusal :=
  endStep (wholeReset .power s)

/-- The RESET pin begins a whole-part reset with cause PIN (R189). -/
def execPinReset (s : State) : Host.Outcome State Fault Refusal :=
  endStep (wholeReset .pin s)

/-- The last byte of the RESET_PART reply has been sent (R189). -/
def execCommandReset (s : State) : Host.Outcome State Fault Refusal :=
  endStep (whenRunning takeCommandReset s)

/-- Initialization ends (R190). -/
def execInitializationEnd (current supply : Nat) (eng ret : Bool) (s : State) : Host.Outcome State Fault Refusal :=
  endStep (endInitialization current supply eng ret s)

/-- BREAK: a link sync (R180). -/
def execLineBreak (s : State) : Host.Outcome State Fault Refusal :=
  endStep (whenRunning takeBreak s)

/-- KEY_SAMPLE (R2). -/
def execKeySample (key : Key) (raw : Raw) (stamp : W32) (s : State) : Host.Outcome State Fault Refusal :=
  endStep (whenRunning (takeKeySample key raw stamp) s)

/-- KEY_FAULT_ENTRY (R19). -/
def execKeyFaultEntry (key : Key) (raw : Raw) (stamp : W32) (s : State) : Host.Outcome State Fault Refusal :=
  endStep (whenRunning (takeKeyFaultEntry key raw stamp) s)

/-- KEY_FAULT_RECOVERY (R20). -/
def execKeyFaultRecovery (key : Key) (raw : Raw) (stamp : W32) (s : State) : Host.Outcome State Fault Refusal :=
  endStep (whenRunning (takeKeyFaultRecovery key raw stamp) s)

/-- PEDAL_SAMPLE (R40). -/
def execPedalSample (pedal : Pedal) (raw : Raw) (stamp : W32) (s : State) : Host.Outcome State Fault Refusal :=
  endStep (whenRunning (takePedalSample pedal raw stamp) s)

/-- PEDAL_FAULT_ENTRY (R50). -/
def execPedalFaultEntry (pedal : Pedal) (raw : Raw) (stamp : W32) (s : State) : Host.Outcome State Fault Refusal :=
  endStep (whenRunning (takePedalFaultEntry pedal raw stamp) s)

/-- PEDAL_FAULT_RECOVERY (R51). -/
def execPedalFaultRecovery (pedal : Pedal) (raw : Raw) (stamp : W32) (s : State) : Host.Outcome State Fault Refusal :=
  endStep (whenRunning (takePedalFaultRecovery pedal raw stamp) s)

/-- GAP_TIMER_EXPIRY (R133). -/
def execGapTimerExpiry (s : State) : Host.Outcome State Fault Refusal :=
  endStep (whenRunning takeGapExpiry s)

/-- OUTPUT_SAMPLE (R92). -/
def execOutputSample (s : State) : Host.Outcome State Fault Refusal :=
  endStep (whenRunning takeOutputSample s)

/-- CONTROL_BLOCK (R94). -/
def execControlBlock (s : State) : Host.Outcome State Fault Refusal :=
  endStep (whenRunning takeBlockEvent s)

/-- RAIL_MEASUREMENT (R105). -/
def execRailMeasurement (current supply : Nat) (eng ret : Bool) (s : State) : Host.Outcome State Fault Refusal :=
  endStep (whenRunning (takeMeasurement current supply eng ret) s)

/-- SWITCH_EVENT (R118). -/
def execSwitchEvent (eng ret : Bool) (s : State) : Host.Outcome State Fault Refusal :=
  endStep (whenRunning (takeSwitchEvent eng ret) s)

/-- OVERCURRENT_FAULT (R117). -/
def execOvercurrentFault (current supply : Nat) (eng ret : Bool) (s : State) : Host.Outcome State Fault Refusal :=
  endStep (whenRunning (takeOvercurrent current supply eng ret) s)

/-- SETTLE_COMPLETE (R111). -/
def execSettleComplete (s : State) : Host.Outcome State Fault Refusal :=
  endStep (whenRunning takeSettle s)

/-- CLEAR_WAIT_EXPIRY (R113). -/
def execClearWaitExpiry (s : State) : Host.Outcome State Fault Refusal :=
  endStep (whenRunning takeClearWait s)

/-- RUN_LIMIT_EXPIRY (R116). -/
def execRunLimitExpiry (s : State) : Host.Outcome State Fault Refusal :=
  endStep (whenRunning takeRunLimit s)

/-- PLAYER_TICK (R145). -/
def execPlayerTick (s : State) : Host.Outcome State Fault Refusal :=
  endStep (whenRunning takePlayerTick s)

/-- LOOP_JUMP (R153). -/
def execLoopJump (s : State) : Host.Outcome State Fault Refusal :=
  endStep (whenRunning takeLoopJump s)

/-- TAKE_END (R149). -/
def execTakeEnd (s : State) : Host.Outcome State Fault Refusal :=
  endStep (whenRunning takeTakeEnd s)

/-- TAKE_COPY_STEP (R167 to R170). -/
def execTakeCopyStep (s : State) : Host.Outcome State Fault Refusal :=
  endStep (whenRunning takeCopyEvent s)

/-- TAKE_SEARCH_STEP (R172). -/
def execTakeSearchStep (s : State) : Host.Outcome State Fault Refusal :=
  endStep (whenRunning takeSearchEvent s)

/-- TAKE_SCALE_STEP (R173). -/
def execTakeScaleStep (s : State) : Host.Outcome State Fault Refusal :=
  endStep (whenRunning takeScaleEvent s)

/-- BYTE_RECEIVED (R176, R178, R179). -/
def execByteReceived (byte : Byte) (tail : TailBits) (s : State) : Host.Outcome State Fault Refusal :=
  endStep (whenRunning (takeByte byte (byteErrorOf byte tail)) s)

/-- FRAME_GAP_EXPIRY (R179). -/
def execFrameGapExpiry (s : State) : Host.Outcome State Fault Refusal :=
  endStep (whenRunning takeFrameGap s)

/-- CTS_CHANGE (R184). -/
def execCtsChange (asserted : Bool) (s : State) : Host.Outcome State Fault Refusal :=
  endStep (takeCts asserted s)

/-- FRAME_SENT (R184, R189). -/
def execFrameSent (s : State) : Host.Outcome State Fault Refusal :=
  endStep (whenRunning takeFrameSent s)

/-- RECEIVE_LINE_RISE (R179, R180). -/
def execReceiveLineRise (s : State) : Host.Outcome State Fault Refusal :=
  endStep (whenRunning takeLineRise s)

end Sys2Proof.Machine
end

