-- ==== Sys2Proof/Machine/Dispatch.lean ====
section
/-! DEFINITION. One arm per command of the table. -/

namespace Sys2Proof.Machine

def exec (i : Instr) (s : State) : Host.Outcome State Fault Refusal :=
  match i with
  | .powerOnReset => Sys2Proof.Machine.execPowerOnReset s
  | .pinReset => Sys2Proof.Machine.execPinReset s
  | .commandReset => Sys2Proof.Machine.execCommandReset s
  | .initializationEnd current supply eng ret => Sys2Proof.Machine.execInitializationEnd current supply eng ret s
  | .lineBreak => Sys2Proof.Machine.execLineBreak s
  | .keySample key raw stamp => Sys2Proof.Machine.execKeySample key raw stamp s
  | .keyFaultEntry key raw stamp => Sys2Proof.Machine.execKeyFaultEntry key raw stamp s
  | .keyFaultRecovery key raw stamp => Sys2Proof.Machine.execKeyFaultRecovery key raw stamp s
  | .pedalSample pedal raw stamp => Sys2Proof.Machine.execPedalSample pedal raw stamp s
  | .pedalFaultEntry pedal raw stamp => Sys2Proof.Machine.execPedalFaultEntry pedal raw stamp s
  | .pedalFaultRecovery pedal raw stamp => Sys2Proof.Machine.execPedalFaultRecovery pedal raw stamp s
  | .gapTimerExpiry => Sys2Proof.Machine.execGapTimerExpiry s
  | .outputSample => Sys2Proof.Machine.execOutputSample s
  | .controlBlock => Sys2Proof.Machine.execControlBlock s
  | .railMeasurement current supply eng ret => Sys2Proof.Machine.execRailMeasurement current supply eng ret s
  | .switchEvent eng ret => Sys2Proof.Machine.execSwitchEvent eng ret s
  | .overcurrentFault current supply eng ret => Sys2Proof.Machine.execOvercurrentFault current supply eng ret s
  | .settleComplete => Sys2Proof.Machine.execSettleComplete s
  | .clearWaitExpiry => Sys2Proof.Machine.execClearWaitExpiry s
  | .runLimitExpiry => Sys2Proof.Machine.execRunLimitExpiry s
  | .playerTick => Sys2Proof.Machine.execPlayerTick s
  | .loopJump => Sys2Proof.Machine.execLoopJump s
  | .takeEnd => Sys2Proof.Machine.execTakeEnd s
  | .takeCopyStep => Sys2Proof.Machine.execTakeCopyStep s
  | .takeSearchStep => Sys2Proof.Machine.execTakeSearchStep s
  | .takeScaleStep => Sys2Proof.Machine.execTakeScaleStep s
  | .byteReceived byte tail => Sys2Proof.Machine.execByteReceived byte tail s
  | .frameGapExpiry => Sys2Proof.Machine.execFrameGapExpiry s
  | .ctsChange asserted => Sys2Proof.Machine.execCtsChange asserted s
  | .frameSent => Sys2Proof.Machine.execFrameSent s
  | .unknownType type payload => Sys2Proof.Machine.execUnknownType type payload s
  | .getStatus => Sys2Proof.Machine.execGetStatus s
  | .resetPart => Sys2Proof.Machine.execResetPart s
  | .setNoticeClass notice cls => Sys2Proof.Machine.execSetNoticeClass notice cls s
  | .loadCal keyLow keyHigh pairs => Sys2Proof.Machine.execLoadCal keyLow keyHigh pairs s
  | .calStart keyLow keyHigh => Sys2Proof.Machine.execCalStart keyLow keyHigh s
  | .calEnd => Sys2Proof.Machine.execCalEnd s
  | .setTouch lRel lS1 lRep lS2 h tSilent => Sys2Proof.Machine.execSetTouch lRel lS1 lRep lS2 h tSilent s
  | .setKeyGain keyLow keyHigh gain => Sys2Proof.Machine.execSetKeyGain keyLow keyHigh gain s
  | .getKey key => Sys2Proof.Machine.execGetKey key s
  | .setCurve set speeds velocities => Sys2Proof.Machine.execSetCurve set speeds velocities s
  | .setSoft strength => Sys2Proof.Machine.execSetSoft strength s
  | .loadPedalCal pedal rest full => Sys2Proof.Machine.execLoadPedalCal pedal rest full s
  | .setPedal damperLow damperHigh softLow softHigh sostOn sostOff w => Sys2Proof.Machine.execSetPedal damperLow damperHigh softLow softHigh sostOn sostOff w s
  | .getPedal pedal => Sys2Proof.Machine.execGetPedal pedal s
  | .setRoute route enabled sources kinds keyLow keyHigh dests => Sys2Proof.Machine.execSetRoute route enabled sources kinds keyLow keyHigh dests s
  | .getRoute route => Sys2Proof.Machine.execGetRoute route s
  | .loadMap key layerCount rHold rDamp pan layers => Sys2Proof.Machine.execLoadMap key layerCount rHold rDamp pan layers s
  | .setOutput vol layer => Sys2Proof.Machine.execSetOutput vol layer s
  | .soundOff => Sys2Proof.Machine.execSoundOff s
  | .rail target => Sys2Proof.Machine.execRail target s
  | .railClear => Sys2Proof.Machine.execRailClear s
  | .setRail clearWait runLimit currentLimit supplyMin => Sys2Proof.Machine.execSetRail clearWait runLimit currentLimit supplyMin s
  | .recordStart take mode => Sys2Proof.Machine.execRecordStart take mode s
  | .recordStop => Sys2Proof.Machine.execRecordStop s
  | .takeInfo take => Sys2Proof.Machine.execTakeInfo take s
  | .takeErase take => Sys2Proof.Machine.execTakeErase take s
  | .takeOpen take => Sys2Proof.Machine.execTakeOpen take s
  | .takeWrite take count records => Sys2Proof.Machine.execTakeWrite take count records s
  | .takeClose take => Sys2Proof.Machine.execTakeClose take s
  | .takeRead take start count => Sys2Proof.Machine.execTakeRead take start count s
  | .play take startMs => Sys2Proof.Machine.execPlay take startMs s
  | .stop => Sys2Proof.Machine.execStop s
  | .pause => Sys2Proof.Machine.execPause s
  | .resume => Sys2Proof.Machine.execResume s
  | .locate time => Sys2Proof.Machine.execLocate time s
  | .setTempo tempo => Sys2Proof.Machine.execSetTempo tempo s
  | .setLoop a b => Sys2Proof.Machine.execSetLoop a b s
  | .setPasses listen practice => Sys2Proof.Machine.execSetPasses listen practice s
  | .setGuide wait grace => Sys2Proof.Machine.execSetGuide wait grace s
  | .guideSkip => Sys2Proof.Machine.execGuideSkip s
  | .setMarkers m0 m1 m2 m3 => Sys2Proof.Machine.execSetMarkers m0 m1 m2 m3 s
  | .takeCopy src fromMs toMs dst mode => Sys2Proof.Machine.execTakeCopy src fromMs toMs dst mode s
  | .takeSearch take start kinds keyLow keyHigh valueLow valueHigh => Sys2Proof.Machine.execTakeSearch take start kinds keyLow keyHigh valueLow valueHigh s
  | .takeScale take fromMs toMs keyLow keyHigh factor offset => Sys2Proof.Machine.execTakeScale take fromMs toMs keyLow keyHigh factor offset s
  | .editAbort => Sys2Proof.Machine.execEditAbort s
  | .receiveLineRise => Sys2Proof.Machine.execReceiveLineRise s

end Sys2Proof.Machine
end

