-- ==== Sys2Proof/Machine/Step.lean ====
section
/-! DEFINITION. One step: the command at the front of the queue, or on an empty queue one microsecond of
time. -/

namespace Sys2Proof.Machine

/-- What a step does when no command waits (notes/assumptions/1.md): one microsecond passes in a part that
runs; a part that initializes stands still. -/
def idle (s : State) : State := whenRunning (advance 1) s

/-- One step: take the command at the front of the queue and run it with the rest of the queue, or idle
(notes/assumptions/21.md). -/
def step (s : State) : Host.Outcome State Fault Refusal :=
  match s.pending with
  | [] => .next (idle s)
  | c :: rest => exec c { s with pending := rest }

/-- The command a word of the opcode table spells, put at the front of the queue. The table gives no bits,
so no word spells a command and the state is unchanged. -/
def State.withFetchWord (s : State) (nbits w : Nat) : State :=
  match decodeTableWord nbits w with
  | none => s
  | some c => { s with pending := c :: s.pending }

end Sys2Proof.Machine
end

