-- ==== Sys2Proof/Safety.lean ====
section
/-! DEFINITION. What claims are stated in terms of: when the part hears a command at once, when the link has
nothing left to do, the reply a command leaves on the link, and the laws the manual states. -/

namespace Sys2Proof.Machine

/-! ### The link between steps -/

/-- A host command sent now is heard and taken at once (R181): the part runs, the line is not ignored after
a break, the decoder is open and no frame waits. -/
abbrev State.Ready (s : State) : Prop :=
  s.running = true ∧ s.link.ignoring = false ∧ s.link.decoderOpen = true ∧ s.link.intake = []

/-- The link has nothing left to do (R181, R184): no frame waits for an open decoder, and nothing waits for
an idle transmitter with CTS asserted. -/
abbrev Link.Settled (l : Link) : Prop :=
  (l.intake = [] ∨ l.slot.isSome = true ∨ l.resetAwait = true) ∧
    (l.tx.isSome = true ∨ l.cts = false ∨ (l.slot = none ∧ l.notices = []))

/-- The part runs and its link has nothing left to do: how a step of the part finds it. -/
abbrev State.Steady (s : State) : Prop := s.running = true ∧ s.link.Settled

/-- The link after the reply with a status and data to the command of a code: in the slot, or on the line
when the transmitter is free (R183, R184). -/
def Link.reply (l : Link) (code : Byte) (st : Status) (data : List Byte) : Link :=
  Link.transmit { l with slot := some ⟨replyType code, st, data, false⟩ }

/-- A reply with a status and data to the command of a code stands in the slot or is being sent. -/
def Link.Answered (l : Link) (code : Byte) (st : Status) (data : List Byte) : Prop :=
  l.slot = some ⟨replyType code, st, data, false⟩ ∨
    (l.slot = none ∧ l.tx = some (.reply ⟨replyType code, st, data, false⟩))

/-- The link after a notice, on the line when the transmitter is free (R184, R185). -/
def Link.notify (l : Link) (body : NoticeBody) (ms : W32) : Link := (l.note body ms).transmit

/-- The link's record without what notices and the GAP timer change. -/
def Link.core (l : Link) : Link := { l with notices := [], lost := false, gapUs := 0 }

/-- What no step of the Player and no PLAYBACK event can change: PLAYBACK events reach the engine's PLAYBACK
tables and voices, the Recorder, the notices and the Guide alone (chapters 4 and 9). -/
abbrev State.OutsidePlayer (s t : State) : Prop :=
  t.running = s.running ∧ t.clock = s.clock ∧ t.keys = s.keys ∧ t.touch = s.touch ∧ t.pedals = s.pedals ∧
    t.router.routes = s.router.routes ∧ t.engine.live = s.engine.live ∧ t.engine.map = s.engine.map ∧
    t.output = s.output ∧ t.rail = s.rail ∧ t.bulk = s.bulk ∧ t.edit = s.edit ∧ t.flash = s.flash ∧
    t.pending = s.pending ∧ t.guide.wait = s.guide.wait ∧ t.guide.grace = s.guide.grace

/-- The length conditions of R182 on the commands whose layouts carry a count; a frame of UNKNOWN_TYPE
carries no command. -/
def lengthsOk : Instr → Bool
  | .loadCal lo hi ps => calLengthOk lo hi ps.length
  | .loadMap _ n _ _ _ ls => mapLengthOk n ls.length
  | .takeWrite _ n rs => writeLengthOk n rs.length
  | .unknownType _ _ => false
  | _ => true

/-- The capacities the manual states: 64 notices (R185), 4 frames (R181), 10 recent presses (R67), 10 expected
keys (R161), 16 pending starts (R84), and the range of the mute gain (R100). -/
abbrev CapacityLaw (s : State) : Prop :=
  s.link.notices.length ≤ 64 ∧ s.link.intake.length ≤ 4 ∧ s.router.recent.length ≤ 10 ∧
    s.guide.expected.card ≤ 10 ∧ s.engine.queue.length ≤ 16 ∧ s.output.mute ≤ 480

/-- Voices that become FREE together and the notes that wait (R85): `after` gives the voices before any waiting
note is taken. In some order of the freed voices, each takes the next oldest entry of the queue; which order is
open (notes/assumptions/12.md). -/
def Engine.FreedTake (e e' : Engine) (after : Fin 96 → Voice) : Prop :=
  ∃ order : List (Fin 96), order.Nodup ∧
    (∀ i, i ∈ order ↔ (e.voices.get i).state ≠ .free ∧ (after i).state = .free) ∧
    (∀ n i p, order[n]? = some i → e.queue[n]? = some p →
      e'.voices.get i =
        { state := if p.released then .released else .held, key := p.key, source := p.source
          sound := (e.map.get p.key).bind fun m => m.sound p.layer, pos := 0
          level := p.velocity * p.velocity * 65535 / 16129, seq := e.nextSeq + BitVec.ofNat 32 n
          cutPos := 0 }) ∧
    (∀ i, (∀ n, order[n]? = some i → e.queue.length ≤ n) → e'.voices.get i = after i) ∧
    e' = { e with
      voices := e'.voices, queue := e.queue.drop order.length
      nextSeq := e.nextSeq + BitVec.ofNat 32 (min order.length e.queue.length) }

/-- The part without the keys and what time and the link change: what the events of a sample or a command can
reach. -/
abbrev State.SameRouted (t u : State) : Prop :=
  t.engine = u.engine ∧ t.store = u.store ∧ t.recorder = u.recorder ∧ t.router = u.router ∧
    t.guide = u.guide ∧ t.player = u.player ∧ t.choices = u.choices

/-! ### The laws of the manual -/

/-- The motor's outputs (R104): off outside MOVING, never both drives, enable with exactly one of them. -/
abbrev Rail.OutputLaw (r : Rail) : Prop :=
  (r.state ≠ .moving → r.enable = false ∧ r.driveIn = false ∧ r.driveOut = false) ∧
    ¬(r.driveIn = true ∧ r.driveOut = true) ∧ (r.enable = (r.driveIn || r.driveOut))

/-- The law of the rail (R104, R110): the outputs, the settle running in WAIT_CLEAR and PAUSED exactly while
the keyboard is clear, and the keyboard clear throughout MOVING. -/
abbrev RailLaw (s : State) : Prop :=
  s.rail.OutputLaw ∧
    ((s.rail.state = .waitClear ∨ s.rail.state = .paused) →
      s.rail.settle.isSome = keyboardClear s) ∧
    (s.rail.state = .moving → keyboardClear s = true)

/-- The law of voices (section 5.3): for every key its voices in HELD or RELEASED and its pending starts are
at most 4. -/
def VoiceLaw (e : Engine) : Prop := ∀ k, e.keyCount k ≤ 4

/-- The law of held voices: a HELD voice's key is marked down for the voice's source, and so is the key of a
pending start that is not released. -/
def HeldLaw (e : Engine) : Prop :=
  (∀ v ∈ e.voices.toList, v.state = .held → (e.source v.source).down.mem v.key = true) ∧
    (∀ p ∈ e.queue, p.released = false → (e.source p.source).down.mem p.key = true)

/-- The law of a stopped player (R74): the keys the engine has down for PLAYBACK are keys the Player holds
open, and in STOPPED and PAUSED there are none and the PLAYBACK damper value is 0. -/
def StoppedLaw (s : State) : Prop :=
  (∀ k, s.engine.playback.down.mem k = true → s.player.openKeys.mem k = true) ∧
    ((s.player.state = .stopped ∨ s.player.state = .paused) →
      (∀ k, s.player.openKeys.mem k = false) ∧ s.engine.playback.damper = 0)

/-- The law of the expected set (R161). -/
def ExpectedLaw (s : State) : Prop :=
  s.guide.expected.card ≤ 10 ∧
    (¬((s.player.state = .playing ∨ s.player.state = .waiting) ∧ s.player.passKind = .practice ∧
        s.guide.wait = true) →
      s.guide.expected.isEmpty = true)

/-- The take an edit command writes: the destination of a copy or the target of a scaling. -/
def EditJob.writes : EditJob → Option TakeId
  | .idle | .search _ => none
  | .copy j => some j.dst
  | .scale j => some j.take

/-- The take an edit command reads under the read flag. -/
def EditJob.reads : EditJob → Option TakeId
  | .idle | .scale _ => none
  | .copy j => some j.src
  | .search j => some j.take

/-- The law of take use (R125), with what keeps it: each writer's take is in that writer's state and no
other take is; the played flag marks the Player's take and the read flag the edit command's; both mark
READY takes only. -/
def TakeLaw (s : State) : Prop :=
  (∀ t, (s.store.entry t).state = .recording ↔ s.recorder.map Recording.take = some t) ∧
  (∀ t, (s.store.entry t).state = .writing ↔ s.bulk.map BulkWriting.take = some t) ∧
  (∀ t, (s.store.entry t).state = .editing ↔ s.edit.writes = some t) ∧
  (s.recorder = none ∨ s.bulk = none) ∧
  (∀ t, (s.store.entry t).played = true ↔ s.player.take = some t) ∧
  (∀ t, (s.store.entry t).read = true ↔ s.edit.reads = some t) ∧
  (∀ t, (s.store.entry t).played = true ∨ (s.store.entry t).read = true →
    (s.store.entry t).state = .ready) ∧
  (s.player.state = .stopped ↔ s.player.take = none) ∧
  (∀ j, s.edit = .copy j → j.saved.state = .empty ∨ j.saved.state = .ready)

/-- The law of blocks (R122 to R124): the record slots are in canonical form, the chains of all takes and the free
list together hold each of the 512 blocks exactly once, and each entry's tail, tail fill and record count are
those of its chain. -/
def Store.BlockLaw (st : Store) : Prop :=
  slotsWf st.slots = true ∧
  ((List.finRange 16).flatMap st.chain ++ st.free).Perm (List.range 512) ∧
  ∀ t, (st.entry t).tail = (st.chain t).getLast? ∧ (st.entry t).fill ≤ 64 ∧
    ((st.entry t).tail = none → (st.entry t).fill = 0) ∧
    (st.entry t).count = 64 * ((st.chain t).length - 1) + (st.entry t).fill

/-- The entry saved by a running copy (R164, R171) still describes a prefix of the destination's chain, which the
rollback can restore. -/
def SavedLaw (s : State) : Prop :=
  ∀ j, s.edit = .copy j → j.saved.count ≤ (s.store.entry j.dst).count ∧
    match j.saved.tail with
    | none => j.saved.head = none ∧ j.saved.count = 0 ∧ j.saved.fill = 0
    | some b => j.saved.head = (s.store.entry j.dst).head ∧ j.saved.fill ≤ 64 ∧
        ∃ before after, s.store.chain j.dst = before ++ b :: after ∧
          j.saved.count = 64 * before.length + j.saved.fill

/-- What a list of records leaves open (R127): the keys without their NOTE_OFF, the last pedal values and the
sostenuto. The time is left out, as 0. -/
def leftOpen (rs : List Record) : WriteCtx := rs.foldl (fun c r => c.write 0 r.body) {}

/-- The law of balanced takes (R127, R128), with what keeps it: an EMPTY take has no record; a READY take, and the
take a scaling edits, leaves nothing open; each writer's context is what its take leaves open, and the room left
holds the closing reserve of the Recorder and the bulk writer; and what a copy's rollback restores is
balanced. -/
def BalanceLaw (s : State) : Prop :=
  (∀ t, (s.store.entry t).state = .empty → (s.store.entry t).count = 0) ∧
  (∀ t, (s.store.entry t).state = .ready → leftOpen (s.store.records t) = {}) ∧
  (∀ j, s.edit = .scale j → leftOpen (s.store.records j.take) = {}) ∧
  (∀ r, s.recorder = some r → { r.ctx with last := 0 } = leftOpen (s.store.records r.take) ∧
    r.ctx.reserve ≤ s.store.takeFree r.take) ∧
  (∀ w, s.bulk = some w → { w.ctx with last := 0 } = leftOpen (s.store.records w.take) ∧
    w.ctx.reserve ≤ s.store.takeFree w.take) ∧
  (∀ j, s.edit = .copy j → { j.ctx with last := 0 } = leftOpen (s.store.records j.dst) ∧
    (j.saved.state = .empty → j.saved.count = 0) ∧
    (j.saved.state = .ready → leftOpen ((s.store.records j.dst).take j.saved.count) = {}))

end Sys2Proof.Machine
end

