-- ==== Sys2Proof/Certificates/Slice0/Obligations.lean ====
section
/-! DEFINITION. The statements for the provers. An event row finds the part `Steady` (it runs and its link has
nothing left to do); a host command finds it `Ready` (it is heard and taken at once). A statement of the form
`exec c s = .next { s with ... }` gives the whole next state, so it states the frame too. -/

section
open Sys2Proof Sys2Proof.Machine

/-! ### The queue -/

/-- The step takes the command at the front of the queue and runs it with the rest of the queue. -/
def Obligations.StepRunsTheFrontCommand : Prop :=
  ∀ (s : State) (c : Instr) (rest : List Instr), s.pending = c :: rest →
    step s = exec c { s with pending := rest }

/-- No command faults and none is refused: each answers a next state. -/
def Obligations.EveryCommandAnswersNext : Prop :=
  ∀ (i : Instr) (s : State), ∃ t, exec i s = .next t

/-- The model's choice (notes/assumptions/1.md): on an empty queue one microsecond passes in a running part. The
settle runs to its 50 ms, the clear-wait elapsed in WAIT_CLEAR and the run time used in MOVING to the ends of their
ranges (R106), the GAP timer inside a frame to one byte time past 1 ms (notes/assumptions/30.md); the blocks that
keep no time stay. And `catchUp`, the model's reading too (notes/assumptions/2.md): the time up to a sample's stamp
passes in the same way, when the stamp is ahead by less than half its range, and else none does. -/
def Obligations.EmptyQueueLetsOneMicrosecondPass : Prop :=
  (∀ (s : State) (stamp : W32),
    let n := (stamp - s.clock.us).toNat
    catchUp stamp s =
      if 0 < n ∧ n < 2147483648 then
        { s with
          clock :=
            { us := stamp, ms := s.clock.ms + BitVec.ofNat 32 ((s.clock.subMs + n) / 1000)
              subMs := (s.clock.subMs + n) % 1000 }
          rail := { s.rail with
            settle := s.rail.settle.map fun t => min (t + n) 50000
            waitUs := if s.rail.state = .waitClear then min (s.rail.waitUs + n) 30000000 else s.rail.waitUs
            runUs := if s.rail.state = .moving then min (s.rail.runUs + n) 4000000 else s.rail.runUs }
          recorder := s.recorder.map fun r => { r with clock := r.clock + n }
          link := { s.link with
            gapUs := if s.link.framer = .hunt then s.link.gapUs else min (s.link.gapUs + n) 1012 } }
      else s) ∧
  ∀ s : State, s.running = true → s.pending = [] →
    ∃ t, step s = .next t ∧ t.clock.us = s.clock.us + 1#32 ∧
      (s.clock.subMs < 999 → t.clock.ms = s.clock.ms ∧ t.clock.subMs = s.clock.subMs + 1) ∧
      (s.clock.subMs = 999 → t.clock.ms = s.clock.ms + 1#32 ∧ t.clock.subMs = 0) ∧
      (∀ r, s.recorder = some r → t.recorder = some { r with clock := r.clock + 1 }) ∧
      (s.recorder = none → t.recorder = none) ∧
      (∀ n, s.rail.settle = some n → t.rail.settle = some (if n < 50000 then n + 1 else 50000)) ∧
      (s.rail.settle = none → t.rail.settle = none) ∧
      t.rail.waitUs =
        (if s.rail.state = .waitClear then (if s.rail.waitUs < 30000000 then s.rail.waitUs + 1 else 30000000)
          else s.rail.waitUs) ∧
      t.rail.runUs =
        (if s.rail.state = .moving then (if s.rail.runUs < 4000000 then s.rail.runUs + 1 else 4000000)
          else s.rail.runUs) ∧
      t.link.gapUs =
        (if s.link.framer = .hunt then s.link.gapUs
          else if s.link.gapUs < 1012 then s.link.gapUs + 1 else 1012) ∧
      { t with clock := s.clock, rail := s.rail, recorder := s.recorder, link := s.link } = s ∧
      { t.rail with settle := s.rail.settle, waitUs := s.rail.waitUs, runUs := s.rail.runUs } = s.rail ∧
      { t.link with gapUs := s.link.gapUs } = s.link

/-! ### Resets and start-up (R189, R190) -/

/-- What a whole-part reset leaves, by the tables of the chapters. Left out are the rail's state, fault reason,
switches and readings, the mute gain and the CTS level, which the end of initialization or the outside gives
(notes/assumptions/9.md). That `held` and `ignoring` are clear is the model's choice (notes/assumptions/9.md), and
so are the output sample and the frame of 0 before the first sample (notes/assumptions/24.md). -/
def Obligations.ResetLeavesTheManualsValues : Prop :=
  let s := State.reset
  s.running = false ∧ s.clock = ⟨0#32, 0#32, 0⟩ ∧
    (s.link.framer = .hunt ∧ s.link.gapUs = 0 ∧ s.link.held = false ∧ s.link.ignoring = false ∧
      s.link.intake = [] ∧ s.link.slot = none ∧ s.link.resetAwait = false ∧ s.link.tx = none ∧
      s.link.notices = [] ∧ s.link.lost = false ∧
      s.link.classes = #v[3, 3, 3, 1, 1, 3, 3, 3, 2, 2, 2, 2, 2, 2, 0, 0]) ∧
    (∀ k : Key, s.keys.get k =
      { state := .offline, rest := 0, bottom := 0, calibrated := false, lastRaw := 0, lastDepth := 0
        lastStamp := 0#32, tStart := 0#32, origin := .first, outCount := 0, inCount := 0, capMin := 4095
        capMax := 0 }) ∧
    (s.touch.lRel = 200 ∧ s.touch.lS1 = 300 ∧ s.touch.lRep = 640 ∧ s.touch.lS2 = 880 ∧ s.touch.h = 16 ∧
      s.touch.tSilent = 400000 ∧ s.touch.soft = 64 ∧ (∀ k : Key, s.touch.gain.get k = 256) ∧
      s.touch.openCurve.toList = [(20, 1), (60, 8), (120, 18), (200, 30), (320, 44), (480, 58), (700, 72),
        (1000, 86), (1400, 98), (1900, 110), (2600, 120), (3600, 127)] ∧
      s.touch.stoppedCurve.toList = [(20, 1), (60, 10), (120, 21), (200, 33), (320, 47), (480, 61), (700, 75),
        (1000, 88), (1400, 100), (1900, 111), (2600, 121), (3600, 127)]) ∧
    ((∀ p : Pedal, s.pedals.get p =
        { state := .uncalibrated, rest := 0, full := 0, window := [], lastRaw := 0, avg := 0, depth := 0
          value := 0, lastEmitted := 0, sost := false, outCount := 0, inCount := 0 }) ∧
      s.pedals.settings = ⟨180, 760, 100, 700, 512, 448, 2⟩) ∧
    ((∀ i : Fin 16, s.router.routes.get i =
        { enabled := false, live := false, playback := false, kinds := 0#7, keyLow := 0, keyHigh := 87
          dests := ⟨false, false, false, false⟩ }) ∧
      s.router.recent = []) ∧
    ((∀ src : Source, (s.engine.source src).damper = 0 ∧ (s.engine.source src).sost = false ∧
        ∀ k : Key, (s.engine.source src).down.mem k = false ∧ (s.engine.source src).latch.mem k = false) ∧
      (∀ k : Key, s.engine.map.get k = none) ∧
      (∀ i : Fin 96, s.engine.voices.get i =
        { state := .free, key := 0, source := .live, sound := none, pos := 0, level := 0, seq := 0#32
          cutPos := 0 }) ∧
      s.engine.nextSeq = 0#32 ∧ s.engine.queue = []) ∧
    (s.output.vol = 160 ∧ s.output.layer = false ∧ s.output.blockCount = 0 ∧ s.output.left = 0 ∧
      s.output.right = 0 ∧ s.output.frame = 0#64) ∧
    (s.rail.target = none ∧ s.rail.origin = none ∧ s.rail.direction = none ∧ s.rail.runUs = 0 ∧
      s.rail.waitUs = 0 ∧ s.rail.settle = none ∧ s.rail.overCount = 0 ∧ s.rail.waitLimit = 5000 ∧
      s.rail.runLimit = 1200 ∧ s.rail.currentLimit = 1200 ∧ s.rail.supplyMin = 10500 ∧
      s.rail.enable = false ∧ s.rail.driveIn = false ∧ s.rail.driveOut = false) ∧
    (s.store.slots = [] ∧ s.store.free = List.range 512 ∧ ∀ b : Fin 512, s.store.links.get b = none) ∧
    (∀ t : TakeId, s.store.entry t = ⟨.empty, 0, 0, none, none, 0, false, false⟩) ∧
    s.recorder = none ∧ s.bulk = none ∧ s.edit = .idle ∧
    (s.player.state = .stopped ∧ s.player.take = none ∧ s.player.cursor = 0 ∧ s.player.acc = 0 ∧
      s.player.tempo = 256 ∧ s.player.loop = none ∧ s.player.armed = false ∧
      s.player.snapshot = ⟨0, 0, false⟩ ∧ s.player.listen = 0 ∧ s.player.practice = 1 ∧
      s.player.passIndex = 0 ∧ s.player.passNumber = 0 ∧ s.player.passKind = .practice ∧
      (∀ i : Fin 4, s.player.markers.get i = none) ∧ (∀ k : Key, s.player.openKeys.mem k = false) ∧
      s.player.takePedals = ⟨0, 0, false⟩ ∧ s.player.emitted = ⟨0, 0, false⟩) ∧
    (s.guide.wait = false ∧ s.guide.grace = 120 ∧ ∀ k : Key, s.guide.expected.mem k = false)

/-- A power-on and a pin reset bring every block to its reset values, whatever the part did; the CTS input, the
flash and the commands to come stand outside the part. -/
def Obligations.PowerAndPinResetBeginAWholeReset : Prop :=
  ∀ s : State,
    exec .powerOnReset s = .next { State.reset with
      cause := .power, link := { State.reset.link with cts := s.link.cts }, flash := s.flash
      choices := s.choices, pending := s.pending } ∧
    exec .pinReset s = .next { State.reset with
      cause := .pin, link := { State.reset.link with cts := s.link.cts }, flash := s.flash
      choices := s.choices, pending := s.pending }

/-- The end of RESET_PART's reply begins the reset with cause COMMAND (R189). Two things are the model's: that both
the row of the table and the end of the frame are that moment, whichever comes first (notes/assumptions/25.md), and
that the CTS level, the flash, the commands to come and the counter of open choices stand outside the part and stay
(notes/assumptions/9.md). While another frame or none is on the line the row changes nothing
(notes/assumptions/4.md). -/
def Obligations.ResetReplyEndBeginsTheCommandReset : Prop :=
  (∀ (s : State) (r : Reply), s.running = true → s.link.tx = some (.reply r) → r.resets = true →
    exec .commandReset s = .next { State.reset with
      cause := .command, link := { State.reset.link with cts := s.link.cts }, flash := s.flash
      choices := s.choices, pending := s.pending } ∧
    exec .frameSent s = .next { State.reset with
      cause := .command, link := { State.reset.link with cts := s.link.cts }, flash := s.flash
      choices := s.choices, pending := s.pending }) ∧
  (∀ s : State, s.Steady → (∀ r, s.link.tx = some (.reply r) → r.resets = false) →
    exec .commandReset s = .next s)

/-- The end of initialization: the rail takes its state from the switches, the mute gain starts at 0 or 480, and
READY is the first notice. Until then the receiver ignores the line and the transmitter sends nothing (R190): every row
but a reset, CTS_CHANGE and INITIALIZATION_END changes nothing, CTS_CHANGE sets the level alone, and no time passes; that
the rows of the other blocks do nothing too, and INITIALIZATION_END nothing in a part that runs, is the model's choice
(notes/assumptions/4.md). -/
def Obligations.InitializationEndsWithReady : Prop :=
  (∀ (s : State) (i : Instr), s.running = false → i ≠ .powerOnReset → i ≠ .pinReset → (∀ b, i ≠ .ctsChange b) →
    (∀ current supply eng ret, i ≠ .initializationEnd current supply eng ret) → exec i s = .next s) ∧
  (∀ (s : State) (b : Bool), s.running = false →
    exec (.ctsChange b) s = .next { s with link := { s.link with cts := b } }) ∧
  (∀ s : State, s.running = false → s.pending = [] → step s = .next s) ∧
  (∀ (s : State) (current supply : Nat) (eng ret : Bool), s.Steady →
    exec (.initializationEnd current supply eng ret) s = .next s) ∧
  ∀ (s : State) (current supply : Nat) (eng ret : Bool), s.running = false → s.rail = {} → s.output = {} →
    s.link = { ({} : Link) with cts := s.link.cts } →
    let st : RailState :=
      if ret then (if eng then .fault else .retracted) else if eng then .engaged else .unknown
    exec (.initializationEnd current supply eng ret) s = .next { s with
      running := true
      rail := { ({} : Rail) with
        state := st, current := current, supply := supply, eng := eng, ret := ret
        reason := if st = .fault then some .switch else none }
      output := { ({} : Output) with mute := if st = .retracted then 0 else 480 }
      link := s.link.notify (.ready s.cause st) s.clock.ms }

/-! ### The Serial Link -/

/-- A break starts a link sync: the partial frame and the intake are discarded, the framer ignores the line, RTS
is asserted, LINK_SYNC is raised; nothing outside the link changes. Until the line rises nothing more happens: a further
BREAK, every byte, and every host command, whatever it carries, change nothing (R180; that a command's row stands for
the arrival of its whole frame is notes/assumptions/8.md). -/
def Obligations.BreakStartsALinkSync : Prop :=
  (∀ s : State, s.running = true → s.link.ignoring = false →
    exec .lineBreak s = .next { s with
      link := Link.notify
        { s.link with framer := .hunt, gapUs := 0, held := false, ignoring := true, intake := [] }
        .linkSync s.clock.ms }) ∧
  (∀ s : State, s.Steady → s.link.ignoring = true → exec .lineBreak s = .next s) ∧
  (∀ (s : State) (b : Byte) (tail : TailBits), s.Steady → s.link.ignoring = true →
    exec (.byteReceived b tail) s = .next s) ∧
  (∀ (s : State) (i : Instr) (f : Frame), s.Steady → s.link.ignoring = true → frameOf i = some f →
    exec i s = .next s) ∧
  (∀ s t : State, s.running = true → s.link.ignoring = false → exec .lineBreak s = .next t → t.rts = true)

/-- The line rising again ends the ignoring after a break, and settles a held framing error by the BYTE rule. -/
def Obligations.LineRiseSettlesTheLine : Prop :=
  ∀ s : State, s.Steady →
    exec .receiveLineRise s = .next (
      if s.link.ignoring = true then { s with link := { s.link with ignoring := false } }
      else if s.link.held = true then
        if s.link.framer = .hunt then { s with link := { s.link with held := false } }
        else { s with
          link := Link.notify { s.link with held := false, framer := .hunt, gapUs := 0 } (.linkError .byte)
            s.clock.ms }
      else s)

/-- A byte received in time, in each state of the framer. `good` are the parity and stop bits of a byte as R176 lays
it out: with the parity bit the number of ones is even, and the stop bit is high; `bad` has the wrong parity bit. -/
def Obligations.FramerTakesBytes : Prop :=
  ∀ (s : State) (b : Byte) (p : Bool), s.Steady → s.link.ignoring = false → s.link.held = false →
    s.link.gapUs ≤ 1011 →
    let ones := ((List.range 8).filter fun i => b.getLsbD i).length
    let good : TailBits := ⟨decide (ones % 2 = 1), true⟩
    let bad : TailBits := ⟨decide (ones % 2 = 0), true⟩
    (s.link.framer = .hunt →
      exec (.byteReceived b good) s =
        .next (if b = 0xA5#8 then { s with link := { s.link with framer := .length, gapUs := 0 } } else s)) ∧
    (s.link.framer = .length →
      exec (.byteReceived b good) s =
        .next (if b.toNat ≤ 60 then { s with link := { s.link with framer := .body b.toNat [], gapUs := 0 } }
          else { s with
            link := Link.notify { s.link with framer := .hunt, gapUs := 0 } (.linkError .length) s.clock.ms })) ∧
    (∀ len got, s.link.framer = .body len got →
      exec (.byteReceived b good) s = .next { s with link := { s.link with
        framer := if got.length = len then .check len (got ++ [b]) else .body len (got ++ [b])
        gapUs := 0 } }) ∧
    (∀ len got, s.link.framer = .check len got →
      byteSum (BitVec.ofNat 8 len :: got ++ [b]) ≠ 0#8 →
      exec (.byteReceived b good) s = .next { s with
        link := Link.notify { s.link with framer := .hunt, gapUs := 0 } (.linkError .check) s.clock.ms }) ∧
    (∀ len type payload, s.link.framer = .check len (type :: payload) →
      byteSum (BitVec.ofNat 8 len :: (type :: payload) ++ [b]) = 0#8 →
      (s.link.slot.isSome = true ∨ s.link.resetAwait = true) →
      exec (.byteReceived b good) s = .next { s with
        link :=
          if s.link.intake.length < 4 then
            { s.link with framer := .hunt, gapUs := 0, intake := s.link.intake ++ [⟨type, payload⟩] }
          else Link.notify { s.link with framer := .hunt, gapUs := 0 } (.linkError .overrun) s.clock.ms }) ∧
    (exec (.byteReceived b bad) s =
      .next (if s.link.framer = .hunt then s
        else { s with
          link := Link.notify { s.link with framer := .hunt, gapUs := 0 } (.linkError .byte) s.clock.ms })) ∧
    (exec (.byteReceived b ⟨p, false⟩) s = .next { s with link := { s.link with held := true } })

/-- The GAP timer's expiry discards the frame under way; it is due after more than 1 ms without a byte inside a
frame, and otherwise nothing changes (notes/assumptions/4.md). -/
def Obligations.FrameGapDiscardsTheFrame : Prop :=
  ∀ s : State, s.Steady →
    exec .frameGapExpiry s = .next (
      if s.link.framer ≠ .hunt ∧ 1000 < s.link.gapUs then
        { s with link := Link.notify { s.link with framer := .hunt, gapUs := 0 } (.linkError .gap) s.clock.ms }
      else s)

/-- Every host command whose counts agree is read back from its frame, with every operand. -/
def Obligations.ParseReadsBackEveryCommand : Prop :=
  ∀ (i : Instr) (f : Frame), frameOf i = some f → lengthsOk i = true → parseFrame f = .ok i

/-- A frame whose TYPE is no command code, or whose length disagrees with its layout or with a count it carries, is
refused before any block sees it, and nothing else changes: as a row of the table, and as the frame the last byte
completes. `fixed` is each command of one layout with its LEN (section 11.7). -/
def Obligations.DecoderRefusesBadFrames : Prop :=
  let fixed : List (Nat × Nat) :=
    [(0x01, 0), (0x02, 0), (0x03, 2), (0x11, 2), (0x12, 0), (0x13, 13), (0x14, 4), (0x15, 1), (0x16, 37),
      (0x17, 1), (0x18, 5), (0x19, 13), (0x1A, 1), (0x20, 7), (0x21, 1), (0x25, 3), (0x26, 0), (0x28, 1),
      (0x29, 0), (0x2A, 6), (0x30, 2), (0x31, 0), (0x32, 1), (0x33, 1), (0x34, 1), (0x36, 1), (0x37, 4),
      (0x40, 5), (0x41, 0), (0x42, 0), (0x43, 0), (0x44, 4), (0x45, 2), (0x46, 8), (0x47, 2), (0x48, 3),
      (0x49, 0), (0x4A, 16), (0x50, 11), (0x51, 8), (0x52, 14), (0x53, 0)]
  (∀ (s : State) (i : Instr) (f : Frame), s.Ready → i.wf = true → frameOf i = some f → lengthsOk i = false →
    exec i s = .next { s with
      link := s.link.reply f.type
        (match i with
          | .unknownType _ _ => .unknownType
          | _ => .badLength) [] }) ∧
  (∀ f : Frame,
    let n := f.payload.length
    let first := (f.payload.getD 0 0#8).toNat
    let second := (f.payload.getD 1 0#8).toNat
    let lengthOk : Prop :=
      if f.type.toNat = 0x10 then
        6 ≤ n ∧ n ≤ 58 ∧ (n - 2) % 4 = 0 ∧
          (first ≤ second → second ≤ 87 → (n - 2) / 4 = second - first + 1)
      else if f.type.toNat = 0x24 then
        n ∈ [7, 20, 33, 46, 59] ∧ (second ≤ 4 → n = 7 + 13 * second)
      else if f.type.toNat = 0x35 then 7 ≤ n ∧ n ≤ 52 ∧ (n - 2) % 5 = 0 ∧ second = (n - 2) / 5
      else (f.type.toNat, n) ∈ fixed
    let known : Prop := f.type.toNat ∈ [0x10, 0x24, 0x35] ∨ f.type.toNat ∈ fixed.map Prod.fst
    (¬known → parseFrame f = .error .unknownType) ∧
      (known → ¬lengthOk → parseFrame f = .error .badLength) ∧
      (known → lengthOk → ∃ i, parseFrame f = .ok i)) ∧
  (∀ (s : State) (f : Frame) (st : Status) (len : Nat) (b : Byte), s.Ready → s.link.Settled →
    s.link.held = false → s.link.gapUs ≤ 1011 → s.link.framer = .check len (f.type :: f.payload) →
    byteSum (BitVec.ofNat 8 len :: (f.type :: f.payload) ++ [b]) = 0#8 → parseFrame f = .error st →
    exec (.byteReceived b (tailOf b)) s = .next { s with
      link := Link.reply { s.link with framer := .hunt, gapUs := 0 } f.type st [] })

/-- The bytes of every frame: SYNC, then LEN, TYPE, payload and CHECK with sum 0 modulo 256; 4 to 64 bytes. And the
bits of its bytes on the line, back to back (R176): a low start bit, the 8 data bits with the least significant
first, a parity bit that makes the number of ones even, a high stop bit. And what the frames of the part hold: a reply
its TYPE, its status code and, with the status OK only, its data (R183); each of the sixteen notices its code, the
flags byte with LOST, the ms stamp and the fields of section 11.8, each field in its size with the least significant
byte first (R191) and the codes of section 11.9. -/
def Obligations.FrameBytesSumToZero : Prop :=
  let bytes : List (Nat × Nat) → List Byte := fun fs =>
    fs.flatMap fun f => (List.range f.1).map fun i => BitVec.ofNat 8 (f.2 / 256 ^ i)
  let status : Status → Nat := fun x => match x with
    | .ok => 0 | .accepted => 1 | .busy => 2 | .badValue => 3 | .badState => 4 | .unknownType => 5
    | .badLength => 6 | .takeBusy => 7 | .noRoom => 8
  let source : Source → Nat := fun x => match x with | .live => 0 | .playback => 1
  let pedal : Pedal → Nat := fun x => match x with | .damper => 0 | .soft => 1 | .sostenuto => 2
  let rail : RailState → Nat := fun x => match x with
    | .unknown => 0 | .retracted => 1 | .engaged => 2 | .waitClear => 3 | .moving => 4 | .paused => 5
    | .fault => 6
  let target : Option RailEnd → Nat := fun x => match x with
    | none => 0xFF | some .retracted => 1 | some .engaged => 2
  let origin : Option RailOrigin → Nat := fun x => match x with
    | none => 0xFF | some .unknown => 0 | some .retracted => 1 | some .engaged => 2
  let railCause : RailCause → Nat := fun x => match x with
    | .wait => 0 | .start => 1 | .pause => 2 | .resume => 3 | .reversed => 4 | .arrived => 5
    | .cancelled => 6 | .failed => 7 | .fault => 8 | .cleared => 9 | .switchLost => 10 | .found => 11
  let railReason : RailReason → Nat := fun x => match x with
    | .none => 0 | .blocked => 1 | .lowSupply => 2 | .stall => 3 | .overcurrent => 4 | .switch => 5
  let player : PlayState → Nat := fun x => match x with
    | .stopped => 0 | .playing => 1 | .waiting => 2 | .paused => 3
  let playCause : PlayCause → Nat := fun x => match x with
    | .play => 0 | .wait => 1 | .continue => 2 | .pause => 3 | .resume => 4 | .locate => 5 | .stop => 6
    | .ended => 7
  let take : Option TakeId → Nat := fun x => match x with | none => 0xFF | some t => t.val
  let layout : NoticeBody → Option (Nat × List (Nat × Nat)) := fun n => match n with
    | .ready c r =>
      some (0x60, [(1, match c with | .power => 0 | .pin => 1 | .command => 2), (1, rail r), (1, 1)])
    | .linkSync => some (0x61, [])
    | .linkError r =>
      some (0x62, [(1, match r with | .byte => 0 | .gap => 1 | .length => 2 | .check => 3 | .overrun => 4)])
    | .keyEvent (.noteOn k v rep) src t =>
      some (0x63, [(1, 0), (1, source src), (4, t.toNat), (1, k.val), (1, v), (1, if rep then 1 else 0)])
    | .keyEvent (.noteOff k fault) src t =>
      some (0x63, [(1, 1), (1, source src), (4, t.toNat), (1, k.val), (1, 0), (1, if fault then 2 else 0)])
    | .keyEvent (.silentPress k) src t =>
      some (0x63, [(1, 2), (1, source src), (4, t.toNat), (1, k.val), (1, 0), (1, 0)])
    | .keyEvent .. => none
    | .pedalEvent (.damper v) src t => some (0x64, [(1, 3), (1, source src), (4, t.toNat), (1, v)])
    | .pedalEvent (.soft v) src t => some (0x64, [(1, 4), (1, source src), (4, t.toNat), (1, v)])
    | .pedalEvent .sostOn src t => some (0x64, [(1, 5), (1, source src), (4, t.toNat), (1, 0)])
    | .pedalEvent .sostOff src t => some (0x64, [(1, 6), (1, source src), (4, t.toNat), (1, 0)])
    | .pedalEvent .. => none
    | .keyFault k recovered raw => some (0x65, [(1, k.val), (1, if recovered then 1 else 0), (2, raw)])
    | .pedalFault p recovered raw => some (0x66, [(1, pedal p), (1, if recovered then 1 else 0), (2, raw)])
    | .railState st tg og c why run supply =>
      some (0x67, [(1, rail st), (1, target tg), (1, origin og), (1, railCause c), (1, railReason why), (2, run),
        (2, supply)])
    | .recordEnd t c count duration =>
      some (0x68, [(1, t.val), (1, match c with | .stopped => 0 | .full => 1), (2, count), (4, duration)])
    | .playerState st t c position expected =>
      some (0x69, [(1, player st), (1, take t), (1, playCause c), (4, position), (1, expected)])
    | .pass t number kind =>
      some (0x6A, [(1, take t), (2, number), (1, match kind with | .listen => 0 | .practice => 1)])
    | .marker slot time => some (0x6B, [(1, slot), (4, time)])
    | .guide k none => some (0x6C, [(1, k.val), (1, 0), (1, 0xFF)])
    | .guide k (some x) =>
      some (0x6C, [(1, k.val), (1, 1),
        (1, match x with | .shown => 0 | .credited => 1 | .expected => 2 | .full => 3)])
    | .editDone c result t dst number count time =>
      some (0x6D, [(1, match c with | .copy => 0 | .search => 1 | .scale => 2),
        (1, match result with | .ok => 0 | .full => 1 | .aborted => 2 | .notFound => 3), (1, t.val),
        (1, take dst), (2, number), (2, count), (4, time)])
    | .voiceLimit k => some (0x6E, [(1, k.val)])
    | .voiceDrop k src => some (0x6F, [(1, k.val), (1, source src)])
  (∀ r : Reply, (Sending.reply r).frame =
    ⟨r.type, bytes [(1, status r.status)] ++ if r.status = .ok then r.data else []⟩) ∧
  (∀ (l : Link) (type : Byte) (st : Status) (data : List Byte), l.reply type st data = Link.transmit { l with
    slot := some
      ⟨if type.toNat < 0x80 then BitVec.ofNat 8 (type.toNat + 0x80) else 0xFF#8, st, data, false⟩ }) ∧
  (∀ (n : Notice) (lost : Bool) (code : Nat) (fs : List (Nat × Nat)), layout n.body = some (code, fs) →
    n.body.kind.val + 0x60 = code ∧
    (Sending.notice n lost).frame =
      ⟨BitVec.ofNat 8 code, bytes ((1, if lost then 1 else 0) :: (4, n.ms.toNat) :: fs)⟩) ∧
  (∀ x : Sending, x.lineBits = frameLineBits x.frame) ∧
  ∀ f : Frame, f.payload.length ≤ 60 →
    (∃ body, f.bytes = 0xA5#8 :: body ∧ byteSum body = 0#8 ∧ 4 ≤ f.bytes.length ∧ f.bytes.length ≤ 64 ∧
      body.take 2 = [BitVec.ofNat 8 f.payload.length, f.type] ∧
      (body.drop 2).take f.payload.length = f.payload) ∧
    (frameLineBits f).length = 11 * f.bytes.length ∧
    (∀ (i : Nat) (b : Byte), f.bytes[i]? = some b →
      ∃ p, ((frameLineBits f).drop (11 * i)).take 11 =
          [false, b.getLsbD 0, b.getLsbD 1, b.getLsbD 2, b.getLsbD 3, b.getLsbD 4, b.getLsbD 5, b.getLsbD 6,
            b.getLsbD 7, p, true] ∧
        ((p :: (List.range 8).map fun j => b.getLsbD j).filter id).length % 2 = 0)

/-- The last byte of a good frame, with its parity and stop bits as R176 lays them out, has the effect of the command
the frame carries. That a row of the table stands for the arrival of its whole frame is the model's reading
(notes/assumptions/8.md). -/
def Obligations.FrameArrivalRunsItsCommand : Prop :=
  ∀ (s : State) (i : Instr) (f : Frame), s.Ready → s.link.Settled → s.link.held = false →
    s.link.gapUs ≤ 1011 → i.wf = true → frameOf i = some f →
    s.link.framer = .check f.payload.length (f.type :: f.payload) →
    exec (.byteReceived f.check (tailOf f.check)) s =
      exec i { s with link := { s.link with framer := .hunt, gapUs := 0 } }

/-- A host command that arrives while a reply waits in the slot, or after RESET_PART, waits in the intake; with 4
frames held it is discarded with OVERRUN. RTS is asserted exactly while the part is not initializing and its intake
holds at most 2 frames (R176, R190). -/
def Obligations.ClosedDecoderLetsFramesWait : Prop :=
  (∀ (s : State) (i : Instr) (f : Frame), s.Steady → s.link.ignoring = false →
    (s.link.slot.isSome = true ∨ s.link.resetAwait = true) → i.wf = true → frameOf i = some f →
    exec i s = .next { s with
      link :=
        if s.link.intake.length < 4 then { s.link with intake := s.link.intake ++ [f] }
        else s.link.notify (.linkError .overrun) s.clock.ms }) ∧
  (∀ s : State, s.rts = true ↔ s.running = true ∧ s.link.intake.length ≤ 2)

/-- The transmitter's choice: nothing while it is busy or CTS is deasserted; the reply before every notice; else
the oldest notice of the highest class, whose LOST bit takes and clears the lost flag. -/
def Obligations.TransmitterSendsRepliesThenClasses : Prop :=
  ∀ l : Link,
    (l.tx.isSome = true ∨ l.cts = false → l.transmit = l) ∧
    (∀ r, l.tx = none → l.cts = true → l.slot = some r →
      l.transmit = { l with slot := none, tx := some (.reply r) }) ∧
    (∀ a n b, l.tx = none → l.cts = true → l.slot = none → l.notices = a ++ n :: b →
      (∀ m ∈ a, m.cls < n.cls) → (∀ m ∈ b, m.cls ≤ n.cls) →
      l.transmit = { l with notices := a ++ b, lost := false, tx := some (.notice n l.lost) }) ∧
    (l.slot = none → l.notices = [] → l.transmit = l)

/-- A change of CTS and the end of a frame let the transmitter choose; a command that waited for the slot is
taken when the reply before it goes, and the frames behind it wait on. -/
def Obligations.TransmitterEventsChooseTheNextFrame : Prop :=
  (∀ (s : State) (a : Bool), s.running = true → s.link.intake = [] →
    exec (.ctsChange a) s = .next { s with link := Link.transmit { s.link with cts := a } }) ∧
  (∀ s : State, s.Steady → exec (.ctsChange false) s = .next { s with link := { s.link with cts := false } }) ∧
  (∀ (s : State) (x : Sending), s.running = true → s.link.intake = [] → s.link.tx = some x →
    (∀ r, x = .reply r → r.resets = false) →
    exec .frameSent s = .next { s with link := Link.transmit { s.link with tx := none } }) ∧
  (∀ (s : State) (x : Sending) (r : Reply) (i : Instr) (f : Frame), s.running = true →
    s.link.ignoring = false → s.link.cts = true → s.link.tx = some x →
    (∀ r, x = .reply r → r.resets = false) → s.link.slot = some r → s.link.resetAwait = false →
    i.wf = true → frameOf i = some f → s.link.intake = [f] →
    exec .frameSent s = exec i { s with
      link := { s.link with tx := some (.reply r), slot := none, intake := [] } }) ∧
  (∀ (s : State) (r : Reply) (i : Instr) (f : Frame) (rest : List Frame), s.running = true →
    s.link.ignoring = false → s.link.slot = some r → s.link.resetAwait = false →
    i.wf = true → frameOf i = some f → s.link.intake = f :: rest →
    ∃ t, exec i { s with
        link := { s.link with cts := true, tx := some (.reply r), slot := none, intake := [] } } = .next t ∧
      (s.link.tx = none →
        exec (.ctsChange true) s = .next { t with link := { t.link with intake := rest } }) ∧
      (∀ x, s.link.tx = some x → (∀ r, x = .reply r → r.resets = false) → s.link.cts = true →
        exec .frameSent s = .next { t with link := { t.link with intake := rest } }))

/-- Placing a notice: appended below 64; at 64 a lower class gives up its newest notice, and without one the
arriving notice is lost; either loss sets the lost flag. A notice takes the class its kind has in the class table when
it is placed, and the ms time (R185). -/
def Obligations.FullQueueKeepsTheHigherClasses : Prop :=
  (∀ (l : Link) (body : NoticeBody) (ms : W32),
    l.note body ms = l.place { body := body, cls := l.classes.get body.kind, ms := ms }) ∧
  ∀ (l : Link) (n : Notice),
    (l.notices.length < 64 → l.place n = { l with notices := l.notices ++ [n] }) ∧
    (∀ a x b, l.notices.length = 64 → l.notices = a ++ x :: b → (∀ m ∈ l.notices, x.cls ≤ m.cls) →
      (∀ m ∈ b, m.cls ≠ x.cls) → x.cls < n.cls →
      l.place n = { l with notices := a ++ b ++ [n], lost := true }) ∧
    (l.notices.length = 64 → (∀ m ∈ l.notices, n.cls ≤ m.cls) → l.place n = { l with lost := true })

/-- Every step leaves a running part's link with nothing left to do: no frame waits for an open decoder, nothing
waits for an idle transmitter that CTS lets send. That the decoder takes and the transmitter chooses at the end of
each step is the model's reading (notes/assumptions/7.md). -/
def Obligations.StepsLeaveTheLinkSettled : Prop :=
  ∀ s t : State, (s.running = true → s.link.Settled) → step s = .next t →
    t.running = true → t.link.Settled

/-- The capacities of the queues, the lists and the mute gain are kept by every step. -/
def Obligations.StepsKeepTheCapacities : Prop :=
  ∀ s t : State, CapacityLaw s → step s = .next t → CapacityLaw t

/-- State.reset meets every law the statements below say each step keeps. -/
def Obligations.ResetMeetsTheLaws : Prop :=
  CapacityLaw State.reset ∧ (State.reset.running = true → State.reset.link.Settled) ∧ RailLaw State.reset ∧
    VoiceLaw State.reset.engine ∧ HeldLaw State.reset.engine ∧ StoppedLaw State.reset ∧
    ExpectedLaw State.reset ∧ TakeLaw State.reset ∧ Memory.wf State.reset.flash = true ∧
    slotsWf State.reset.store.slots = true ∧ State.reset.store.BlockLaw ∧ SavedLaw State.reset ∧
    BalanceLaw State.reset

/-- No step writes the flash. -/
def Obligations.StepsNeverWriteTheFlash : Prop :=
  ∀ s t : State, step s = .next t → t.flash = s.flash

/-- GET_STATUS reports the part's state and changes nothing. -/
def Obligations.GetStatusReports : Prop :=
  ∀ s : State, s.Ready →
    exec .getStatus s = .next { s with
      link := s.link.reply 0x01#8 .ok
        ([b8 s.rail.state.code, b8 s.player.state.code,
          (match s.player.take with | some t => b8 t.val | none => 0xFF#8),
          (if s.recorder = none then 0#8 else 1#8),
          (match s.recorder with | some r => b8 r.take.val | none => 0xFF#8),
          (match s.edit with | .idle => 0xFF#8 | .copy _ => 0#8 | .search _ => 1#8 | .scale _ => 2#8),
          b8 (s.engine.voices.toList.filter fun v => v.state ≠ .free).length,
          b8 s.engine.queue.length] ++
          le16 (BitVec.ofNat 16 (64 * s.store.free.length)) ++
          [b8 (s.keys.toList.filter fun k => k.state = .fault).length, b8 s.link.notices.length]) }

/-- RESET_PART answers OK and stops the decoder; SET_NOTICE_CLASS replaces one kind's class or is refused. -/
def Obligations.PartCommandsAnswer : Prop :=
  (∀ s : State, s.Ready →
    exec .resetPart s = .next { s with
      link := Link.transmit { s.link with slot := some ⟨0x82#8, .ok, [], true⟩, resetAwait := true } }) ∧
  (∀ (s : State) (n c : Byte), s.Ready → (n.toNat < 0x61 ∨ 0x6F < n.toNat ∨ 3 < c.toNat) →
    exec (.setNoticeClass n c) s = .next { s with link := s.link.reply 0x03#8 .badValue [] }) ∧
  (∀ (s : State) (n c : Byte), s.Ready → 0x61 ≤ n.toNat → n.toNat ≤ 0x6F → c.toNat ≤ 3 →
    ∃ t, exec (.setNoticeClass n c) s = .next t ∧
      (∀ k : Fin 16, t.link.classes.get k =
        if k.val + 0x60 = n.toNat then c.toNat else s.link.classes.get k) ∧
      t = { s with link := Link.reply { s.link with classes := t.link.classes } 0x03#8 .ok [] })

/-! ### The Key Scanner and the Touch Unit -/

/-- A key sample: what it stores, the state, the stroke's start and the counts it leaves the key with by the rules of
each state, and the event it forms, which is routed stamped with the sample, then KEY_FAULT when the key enters or
leaves FAULT, then the change of the keyboard-clear condition at the rail (`noteKeyboard`, stated in
RailTimersEndTheWaitAndTheMove): with the record it leaves the key this is the whole next state. No other key and no
block the sample cannot reach changes. `judged` is a sample in the key's window or with a count below 31 that leaves
it so. That the time reaches the sample's stamp first is the model's reading (notes/assumptions/2.md), and so is the order
of the event, KEY_FAULT and the rail: no rule gives it (notes/assumptions/11.md, DEDUCED, unsafe). -/
def Obligations.KeySampleFollowsTheStateRules : Prop :=
  ∀ (s : State) (key : Key) (raw : Raw) (stamp : W32), s.Steady →
    touchOk s.touch.lRel s.touch.lS1 s.touch.lRep s.touch.lS2 s.touch.h s.touch.tSilent = true →
    ∃ t, exec (.keySample key raw stamp) s = .next t ∧
      (let k := s.keys.get key
       let k' := t.keys.get key
       let d := if k.calibrated then min 1023 ((raw.val - k.rest) * 1024 / (k.bottom - k.rest)) else 0
       let inside : Bool := decide (k.rest ≤ raw.val + 256 ∧ raw.val ≤ k.bottom + 256)
       let judged : Bool := inside || decide (k.outCount < 31)
       let cross : Nat → W32 := fun level =>
         if level ≤ k.lastDepth then stamp
         else k.lastStamp +
           BitVec.ofNat 32 ((level - k.lastDepth) * (stamp - k.lastStamp).toNat / (d - k.lastDepth))
       let strike : W32 → Origin → EventKind := fun start origin =>
         s.touch.strike s.rail.physicallyRetracted s.pedals.soft.value key start (cross s.touch.lS2) origin
       let formed : Option EventKind :=
         if judged then
           match k.state with
           | .rest => if s.touch.lS2 ≤ d then some (strike (cross s.touch.lS1) .first) else none
           | .descent => if s.touch.lS2 ≤ d then some (strike k.tStart k.origin) else none
           | .struck => if d < s.touch.lRel then some (.noteOff key false) else none
           | .rearmed =>
             if d < s.touch.lRel then some (.noteOff key false)
             else if s.touch.lS2 ≤ d then some (strike (cross s.touch.lRep) .rep) else none
           | .repDescent =>
             if d < s.touch.lRel then some (.noteOff key false)
             else if s.touch.lS2 ≤ d then some (strike k.tStart k.origin) else none
           | .offline | .arming | .capture | .fault => none
         else
           match k.state with
           | .struck | .rearmed | .repDescent => some (.noteOff key true)
           | .offline | .arming | .rest | .descent | .capture | .fault => none
       let sampled : State := { catchUp stamp s with keys := t.keys }
       (match formed with
         | none => t.SameRouted sampled
         | some kind => t.SameRouted (routeEvent ⟨.live, stamp, kind⟩ sampled)) ∧
       (let told : State := match formed with
          | none => sampled
          | some kind => routeEvent ⟨.live, stamp, kind⟩ sampled
        let noticed : State :=
          if k.state ≠ .offline ∧ k.state ≠ .capture ∧ k.state ≠ .fault ∧ judged = false then
            { told with link := told.link.note (.keyFault key false raw.val) told.clock.ms }
          else if k.state = .fault ∧ inside = true ∧ 63 ≤ k.inCount then
            { told with link := told.link.note (.keyFault key true raw.val) told.clock.ms }
          else told
        let moved := noteKeyboard (keyboardClear s) noticed
        t = { moved with link := moved.link.transmit }) ∧
       k'.lastRaw = raw.val ∧ k'.lastStamp = stamp ∧ k'.lastDepth = d ∧ k'.rest = k.rest ∧
         k'.bottom = k.bottom ∧ k'.calibrated = k.calibrated ∧
         (k.state = .offline → k' = { k with lastRaw := raw.val, lastDepth := d, lastStamp := stamp }) ∧
         (k.state = .capture → k' = { k with
           lastRaw := raw.val, lastDepth := d, lastStamp := stamp
           capMin := min k.capMin raw.val, capMax := max k.capMax raw.val }) ∧
         (k.state ≠ .capture → k'.capMin = k.capMin ∧ k'.capMax = k.capMax) ∧
         k'.tStart =
           (if judged = true ∧ k.state = .rest ∧ s.touch.lS1 ≤ d then cross s.touch.lS1
             else if judged = true ∧ k.state = .rearmed ∧ s.touch.lRep ≤ d then cross s.touch.lRep
             else k.tStart) ∧
         k'.origin =
           (if judged = true ∧ k.state = .rest ∧ s.touch.lS1 ≤ d then .first
             else if judged = true ∧ k.state = .rearmed ∧ s.touch.lRep ≤ d then .rep else k.origin) ∧
         (k.state ≠ .offline → k.state ≠ .capture → k.state ≠ .fault → judged = true →
           k'.outCount = (if inside then 0 else k.outCount + 1) ∧ k'.inCount = k.inCount) ∧
         (k.state = .fault → (inside = false ∨ k.inCount < 63) →
           k'.state = .fault ∧ k'.outCount = k.outCount ∧ k'.inCount = if inside then k.inCount + 1 else 0) ∧
         (judged = true →
           (k.state = .arming → k'.state = if d < s.touch.lRel then .rest else .arming) ∧
           (k.state = .rest → k'.state =
             if s.touch.lS2 ≤ d then .struck else if s.touch.lS1 ≤ d then .descent else .rest) ∧
           (k.state = .descent → k'.state =
             if s.touch.lS2 ≤ d then .struck else if d + s.touch.h < s.touch.lS1 then .rest else .descent) ∧
           (k.state = .struck → k'.state =
             if d < s.touch.lRel then .rest else if d + s.touch.h < s.touch.lRep then .rearmed
             else .struck) ∧
           (k.state = .rearmed → k'.state =
             if d < s.touch.lRel then .rest else if s.touch.lS2 ≤ d then .struck
             else if s.touch.lRep ≤ d then .repDescent else .rearmed) ∧
           (k.state = .repDescent → k'.state =
             if d < s.touch.lRel then .rest else if s.touch.lS2 ≤ d then .struck
             else if d + s.touch.h < s.touch.lRep then .rearmed else .repDescent))) ∧
      (∀ j, j ≠ key → t.keys.get j = s.keys.get j) ∧
      t.touch = s.touch ∧ t.pedals = s.pedals ∧ t.output = s.output ∧ t.bulk = s.bulk ∧ t.edit = s.edit ∧
      t.flash = s.flash ∧ t.router.routes = s.router.routes ∧ t.engine.map = s.engine.map ∧
      t.pending = s.pending

/-- The 32nd consecutive sample out of the window moves a key to FAULT, and the 64th consecutive sample in it
moves a faulted key to ARMING, each with its KEY_FAULT notice; the rows of the table and KEY_SAMPLE agree. A key that
was down is released first, by a NOTE_OFF with the fault flag; KEY_FAULT follows it, and last the change of the
keyboard-clear condition reaches the rail (`noteKeyboard`, stated in RailTimersEndTheWaitAndTheMove). For a
key in REST, and for a recovery below L_s1, the record and the notice are the whole step when no time passes. That the
time reaches the sample's stamp first is the model's reading (notes/assumptions/2.md), and so is the order of the forced
NOTE_OFF, KEY_FAULT and the rail: no rule gives it (notes/assumptions/11.md, DEDUCED, unsafe). -/
def Obligations.KeyFaultEntryAndRecovery : Prop :=
  (∀ (s : State) (key : Key) (raw : Raw) (stamp : W32), s.Steady → (s.keys.get key).inPlay = true →
    (s.keys.get key).outCount = 31 →
    (raw.val + 256 < (s.keys.get key).rest ∨ (s.keys.get key).bottom + 256 < raw.val) →
    exec (.keyFaultEntry key raw stamp) s = exec (.keySample key raw stamp) s ∧
    (∃ t, exec (.keyFaultEntry key raw stamp) s = .next t ∧ (t.keys.get key).state = .fault ∧
      (t.keys.get key).outCount = 32 ∧ (t.keys.get key).inCount = 0 ∧
      ∀ j, j ≠ key → t.keys.get j = s.keys.get j) ∧
    (let k := s.keys.get key
     let sampled : State := { catchUp stamp s with
       keys := s.keys.set key.val { k with
         state := .fault, outCount := 32, inCount := 0, lastRaw := raw.val, lastStamp := stamp
         lastDepth := if k.calibrated then min 1023 ((raw.val - k.rest) * 1024 / (k.bottom - k.rest)) else 0 }
         key.isLt }
     let released : State := if k.state = .struck ∨ k.state = .rearmed ∨ k.state = .repDescent then
         routeEvent ⟨.live, stamp, .noteOff key true⟩ sampled
       else sampled
     let moved := noteKeyboard (keyboardClear s)
       { released with link := released.link.note (.keyFault key false raw.val) released.clock.ms }
     exec (.keyFaultEntry key raw stamp) s = .next { moved with link := moved.link.transmit }) ∧
    ((s.keys.get key).state = .rest →
      exec (.keyFaultEntry key raw s.clock.us) s = .next { s with
        keys := s.keys.set key.val { s.keys.get key with
          state := .fault, outCount := 32, inCount := 0, lastRaw := raw.val
          lastDepth := (s.keys.get key).depthOf raw.val, lastStamp := s.clock.us } key.isLt
        link := s.link.notify (.keyFault key false raw.val) s.clock.ms })) ∧
  (∀ (s : State) (key : Key) (raw : Raw) (stamp : W32), s.Steady → (s.keys.get key).state = .fault →
    (s.keys.get key).inCount = 63 → (s.keys.get key).rest ≤ raw.val + 256 →
    raw.val ≤ (s.keys.get key).bottom + 256 →
    exec (.keyFaultRecovery key raw stamp) s = exec (.keySample key raw stamp) s ∧
    (∃ t, exec (.keyFaultRecovery key raw stamp) s = .next t ∧ (t.keys.get key).state = .arming ∧
      (t.keys.get key).outCount = 0 ∧ (t.keys.get key).inCount = 0 ∧
      ∀ j, j ≠ key → t.keys.get j = s.keys.get j) ∧
    (let k := s.keys.get key
     let sampled : State := { catchUp stamp s with
       keys := s.keys.set key.val { k with
         state := .arming, outCount := 0, inCount := 0, lastRaw := raw.val, lastStamp := stamp
         lastDepth := if k.calibrated then min 1023 ((raw.val - k.rest) * 1024 / (k.bottom - k.rest)) else 0 }
         key.isLt }
     let moved := noteKeyboard (keyboardClear s)
       { sampled with link := sampled.link.note (.keyFault key true raw.val) sampled.clock.ms }
     exec (.keyFaultRecovery key raw stamp) s = .next { moved with link := moved.link.transmit }) ∧
    ((s.keys.get key).depthOf raw.val < s.touch.lS1 →
      exec (.keyFaultRecovery key raw s.clock.us) s = .next { s with
        keys := s.keys.set key.val { s.keys.get key with
          state := .arming, outCount := 0, inCount := 0, lastRaw := raw.val
          lastDepth := (s.keys.get key).depthOf raw.val, lastStamp := s.clock.us } key.isLt
        link := s.link.notify (.keyFault key true raw.val) s.clock.ms }))

/-- The velocity read from a curve: the first and the last breakpoint's beyond the ends, the floored
interpolation between, in 1..127, and never lower for a faster stroke. -/
def Obligations.CurveLookupInterpolates : Prop :=
  ∀ c : Curve, curveOk c.toList = true →
    (∀ x, x ≤ (c.get 0).1 → curveAt c.toList x = (c.get 0).2) ∧
    (∀ x, (c.get 11).1 ≤ x → curveAt c.toList x = (c.get 11).2) ∧
    (∀ x, (c.get 0).1 < x → x < (c.get 11).1 →
      ∃! i : Fin 11, (c.get i.castSucc).1 ≤ x ∧ x < (c.get i.succ).1) ∧
    (∀ (x : Nat) (i : Fin 11), (c.get i.castSucc).1 ≤ x → x < (c.get i.succ).1 →
      curveAt c.toList x = (c.get i.castSucc).2 +
        (x - (c.get i.castSucc).1) * ((c.get i.succ).2 - (c.get i.castSucc).2) /
          ((c.get i.succ).1 - (c.get i.castSucc).1) ∧
      (c.get i.castSucc).2 ≤ curveAt c.toList x ∧ curveAt c.toList x ≤ (c.get i.succ).2) ∧
    (∀ x, 1 ≤ curveAt c.toList x ∧ curveAt c.toList x ≤ 127) ∧
    (∀ x y, x ≤ y → curveAt c.toList x ≤ curveAt c.toList y)

/-- A strike's event: SILENT_PRESS above T_silent, else NOTE_ON with the repeat flag of its origin and a velocity
computed in the order of the manual: the speed of the stroke from its distance and its time of at least 100 µs, the
key's gain, the curve of the rail's position, the soft reduction, at least 1. The velocity lies in 1..127, is at least
half of the unreduced one, and never falls when the stroke is faster. -/
def Obligations.StrikeVelocityBounds : Prop :=
  ∀ (t : Touch) (retracted : Bool) (q : Nat) (key : Key) (origin : Origin),
    (∀ dt : Nat,
      let distance := match origin with
        | .first => t.lS2 - t.lS1
        | .rep => t.lS2 - t.lRep
      let speed := distance * 10000 / (if dt < 100 then 100 else dt)
      let curve := if retracted then t.openCurve else t.stoppedCurve
      let v := curveAt curve.toList (speed * t.gain.get key / 256)
      let reduced := v - v * q * t.soft / 65280
      t.velocity retracted q key origin dt = if reduced = 0 then 1 else reduced) ∧
    (∀ t0 t1 : W32,
      t.strike retracted q key t0 t1 origin =
        if t.tSilent < (t1 - t0).toNat then .silentPress key
        else .noteOn key (t.velocity retracted q key origin (t1 - t0).toNat)
          (match origin with | .first => false | .rep => true)) ∧
    (q ≤ 255 → t.soft ≤ 128 → curveOk t.openCurve.toList = true → curveOk t.stoppedCurve.toList = true →
      (∀ dt, 1 ≤ t.velocity retracted q key origin dt ∧ t.velocity retracted q key origin dt ≤ 127 ∧
        t.velocity retracted 0 key origin dt ≤ 2 * t.velocity retracted q key origin dt) ∧
      (∀ d e, d ≤ e → t.velocity retracted q key origin e ≤ t.velocity retracted q key origin d))

/-- LOAD_CAL, CAL_START and CAL_END: their refusals; when they are taken, the records of the keys they name, the
NOTE_OFF of each of those keys that was down, routed in ascending key order, then the change of the keyboard-clear
condition at the rail (`noteKeyboard`, stated in RailTimersEndTheWaitAndTheMove), the data of CAL_END's reply, every
other key, and the blocks they cannot reach. That the NOTE_OFFs come before that change is the model's reading
(notes/assumptions/11.md, DEDUCED, unsafe). -/
def Obligations.CalibrationCommandsReplaceRecords : Prop :=
  let closed : State → Byte → Byte → State := fun s lo hi =>
    ((List.finRange 88).filter fun k => lo.toNat ≤ k.val ∧ k.val ≤ hi.toNat ∧
      ((s.keys.get k).state = .struck ∨ (s.keys.get k).state = .rearmed ∨
        (s.keys.get k).state = .repDescent)).foldl
      (fun u k => routeEvent ⟨.live, s.clock.us, .noteOff k false⟩ u) s
  (∀ (s : State) (lo hi : Byte) (pairs : List CalPair), s.Ready →
    lo.toNat ≤ hi.toNat → hi.toNat ≤ 87 → pairs.length ≤ 14 → pairs.length = hi.toNat - lo.toNat + 1 →
    (∀ p ∈ pairs, p.rest.toNat ≤ 4095 ∧ p.bottom.toNat ≤ 4095 ∧ p.rest.toNat + 256 ≤ p.bottom.toNat) →
    (∀ k : Key, lo.toNat ≤ k.val → k.val ≤ hi.toNat → (s.keys.get k).state ≠ .capture) →
    ∃ t, exec (.loadCal lo hi pairs) s = .next t ∧ t.link.Answered 0x10#8 .ok [] ∧
      (∀ (k : Key) (p : CalPair), lo.toNat ≤ k.val → pairs[k.val - lo.toNat]? = some p →
        t.keys.get k = { s.keys.get k with
          rest := p.rest.toNat, bottom := p.bottom.toNat, calibrated := true, outCount := 0, inCount := 0
          state := .arming
          lastDepth := min 1023
            (((s.keys.get k).lastRaw - p.rest.toNat) * 1024 / (p.bottom.toNat - p.rest.toNat)) }) ∧
      (∀ k : Key, k.val < lo.toNat ∨ hi.toNat < k.val → t.keys.get k = s.keys.get k) ∧
      t.SameRouted (closed s lo hi) ∧
      (let moved := noteKeyboard (keyboardClear s) { closed s lo hi with keys := t.keys }
       t = { moved with link := moved.link.reply 0x10#8 .ok [] }) ∧
      t.touch = s.touch ∧ t.pedals = s.pedals ∧ t.output = s.output ∧ t.bulk = s.bulk ∧ t.edit = s.edit ∧
      t.flash = s.flash ∧ t.clock = s.clock) ∧
  (∀ (s : State) (lo hi : Byte) (pairs : List CalPair), s.Ready → 1 ≤ pairs.length → pairs.length ≤ 14 →
    (lo.toNat ≤ hi.toNat → hi.toNat ≤ 87 → pairs.length = hi.toNat - lo.toNat + 1) →
    let bad : Prop := 87 < hi.toNat ∨ hi.toNat < lo.toNat ∨
      ∃ p ∈ pairs, 4095 < p.rest.toNat ∨ 4095 < p.bottom.toNat ∨ p.bottom.toNat < p.rest.toNat + 256
    (bad → exec (.loadCal lo hi pairs) s = .next { s with link := s.link.reply 0x10#8 .badValue [] }) ∧
    (¬bad → (∃ k : Key, lo.toNat ≤ k.val ∧ k.val ≤ hi.toNat ∧ (s.keys.get k).state = .capture) →
      exec (.loadCal lo hi pairs) s = .next { s with link := s.link.reply 0x10#8 .badState [] })) ∧
  (∀ (s : State) (lo hi : Byte), s.Ready → (87 < hi.toNat ∨ hi.toNat < lo.toNat) →
    exec (.calStart lo hi) s = .next { s with link := s.link.reply 0x11#8 .badValue [] }) ∧
  (∀ (s : State) (lo hi : Byte), s.Ready → lo.toNat ≤ hi.toNat → hi.toNat ≤ 87 →
    ∃ t, exec (.calStart lo hi) s = .next t ∧ t.link.Answered 0x11#8 .ok [] ∧
      (∀ k : Key, t.keys.get k =
        if lo.toNat ≤ k.val ∧ k.val ≤ hi.toNat then
          { s.keys.get k with state := .capture, capMin := 4095, capMax := 0, outCount := 0, inCount := 0 }
        else s.keys.get k) ∧
      t.SameRouted (closed s lo hi) ∧
      (let moved := noteKeyboard (keyboardClear s) { closed s lo hi with keys := t.keys }
       t = { moved with link := moved.link.reply 0x11#8 .ok [] }) ∧
      t.touch = s.touch ∧ t.pedals = s.pedals ∧ t.output = s.output ∧ t.bulk = s.bulk ∧ t.edit = s.edit ∧
      t.flash = s.flash ∧ t.clock = s.clock) ∧
  (∀ s : State, s.Ready → (∃ k : Key, (s.keys.get k).state = .capture) →
    let good : Key → Prop := fun k =>
      let r := (s.keys.get k).capMax - (s.keys.get k).capMin
      256 ≤ r ∧ 256 ≤ r - 2 * (r / 64)
    ∃ t data, exec .calEnd s = .next t ∧ t.link.Answered 0x12#8 .ok data ∧ data.length = 13 ∧
      data[0]? = some (b8 ((List.finRange 88).countP fun k => (s.keys.get k).state = .capture ∧ good k)) ∧
      data[1]? = some (b8 ((List.finRange 88).countP fun k => (s.keys.get k).state = .capture ∧ ¬good k)) ∧
      (∀ k : Key, ((data.getD (2 + k.val / 8) 0#8).getLsbD (k.val % 8) = true ↔
        (s.keys.get k).state = .capture ∧ ¬good k)) ∧
      (∀ k : Key,
        let r := (s.keys.get k).capMax - (s.keys.get k).capMin
        t.keys.get k =
          if (s.keys.get k).state ≠ .capture then s.keys.get k
          else if 256 ≤ r ∧ 256 ≤ r - 2 * (r / 64) then
            { s.keys.get k with
              rest := (s.keys.get k).capMin + r / 64, bottom := (s.keys.get k).capMax - r / 64
              calibrated := true, state := .arming
              lastDepth := min 1023 (((s.keys.get k).lastRaw - ((s.keys.get k).capMin + r / 64)) * 1024 /
                ((s.keys.get k).capMax - r / 64 - ((s.keys.get k).capMin + r / 64))) }
          else { s.keys.get k with
            rest := 0, bottom := 0, calibrated := false, lastDepth := 0, state := .offline }) ∧
      (let moved := noteKeyboard (keyboardClear s) { s with keys := t.keys }
       t = { moved with link := moved.link.reply 0x12#8 .ok data }) ∧
      { t with keys := s.keys, rail := s.rail, link := s.link } = s) ∧
  (∀ s : State, s.Ready → (∀ k : Key, (s.keys.get k).state ≠ .capture) →
    exec .calEnd s = .next { s with link := s.link.reply 0x12#8 .badState [] })

/-- SET_TOUCH, SET_KEY_GAIN, SET_CURVE and SET_SOFT: refused whole, or the settings replaced together. SET_TOUCH is
admitted exactly by the conditions of R24, SET_CURVE exactly by those of R27; `touchOk` and `curveOk`, which other
statements assume of the settings in force, are those conditions. A new L_s1 may change the keyboard-clear condition,
which reaches the rail (`noteKeyboard`, stated in RailTimersEndTheWaitAndTheMove). -/
def Obligations.TouchCommandsReplaceSettings : Prop :=
  (∀ lRel lS1 lRep lS2 h tSilent : Nat, touchOk lRel lS1 lRep lS2 h tSilent = true ↔
    4 ≤ h ∧ h ≤ 64 ∧ lRel + h ≤ lS1 ∧ lS1 < lRep ∧ lRep < lS2 ∧ lS2 ≤ 1000 ∧ lRel + h < lRep ∧
      20000 ≤ tSilent ∧ tSilent ≤ 2000000) ∧
  (∀ c : Curve, curveOk c.toList = true ↔
    (∀ i : Fin 12, 1 ≤ (c.get i).1 ∧ (c.get i).1 ≤ 60000 ∧ 1 ≤ (c.get i).2 ∧ (c.get i).2 ≤ 127) ∧
      ∀ i : Fin 11, (c.get i.castSucc).1 < (c.get i.succ).1 ∧ (c.get i.castSucc).2 ≤ (c.get i.succ).2) ∧
  (∀ (s : State) (lRel lS1 lRep lS2 : W16) (h : Byte) (tSilent : W32), s.Ready →
    let admitted : Prop := 4 ≤ h.toNat ∧ h.toNat ≤ 64 ∧ lRel.toNat + h.toNat ≤ lS1.toNat ∧ lS1.toNat < lRep.toNat ∧
      lRep.toNat < lS2.toNat ∧ lS2.toNat ≤ 1000 ∧ lRel.toNat + h.toNat < lRep.toNat ∧ 20000 ≤ tSilent.toNat ∧
      tSilent.toNat ≤ 2000000
    (¬admitted →
      exec (.setTouch lRel lS1 lRep lS2 h tSilent) s =
        .next { s with link := s.link.reply 0x13#8 .badValue [] }) ∧
    (admitted →
      ∃ t, exec (.setTouch lRel lS1 lRep lS2 h tSilent) s = .next t ∧ t.link.Answered 0x13#8 .ok [] ∧
        t.touch = { s.touch with
          lRel := lRel.toNat, lS1 := lS1.toNat, lRep := lRep.toNat, lS2 := lS2.toNat, h := h.toNat
          tSilent := tSilent.toNat } ∧
        (let moved := noteKeyboard (keyboardClear s) { s with touch := t.touch }
         t = { moved with link := moved.link.reply 0x13#8 .ok [] }) ∧
        { t with touch := s.touch, rail := s.rail, link := s.link } = s)) ∧
  (∀ (s : State) (lo hi : Byte) (g : W16), s.Ready →
    ∃ t, exec (.setKeyGain lo hi g) s = .next t ∧
      if lo.toNat ≤ hi.toNat ∧ hi.toNat ≤ 87 ∧ 64 ≤ g.toNat ∧ g.toNat ≤ 448 then
        (∀ k : Key, t.touch.gain.get k =
          if lo.toNat ≤ k.val ∧ k.val ≤ hi.toNat then g.toNat else s.touch.gain.get k) ∧
        t = { s with touch := { s.touch with gain := t.touch.gain }, link := s.link.reply 0x14#8 .ok [] }
      else t = { s with link := s.link.reply 0x14#8 .badValue [] }) ∧
  (∀ (s : State) (set : Byte) (speeds : Vector W16 12) (vs : Vector Byte 12), s.Ready →
    let admitted : Prop :=
      (∀ i : Fin 12, 1 ≤ (speeds.get i).toNat ∧ (speeds.get i).toNat ≤ 60000 ∧ 1 ≤ (vs.get i).toNat ∧
        (vs.get i).toNat ≤ 127) ∧
      ∀ i : Fin 11, (speeds.get i.castSucc).toNat < (speeds.get i.succ).toNat ∧
        (vs.get i.castSucc).toNat ≤ (vs.get i.succ).toNat
    ∃ (t : State) (c : Curve), exec (.setCurve set speeds vs) s = .next t ∧
      (∀ i : Fin 12, c.get i = ((speeds.get i).toNat, (vs.get i).toNat)) ∧
      ((¬admitted ∨ 1 < set.toNat) → t = { s with link := s.link.reply 0x16#8 .badValue [] }) ∧
      (admitted → set = 0#8 →
        t = { s with touch := { s.touch with openCurve := c }, link := s.link.reply 0x16#8 .ok [] }) ∧
      (admitted → set = 1#8 →
        t = { s with touch := { s.touch with stoppedCurve := c }, link := s.link.reply 0x16#8 .ok [] })) ∧
  (∀ (s : State) (a : Byte), s.Ready →
    exec (.setSoft a) s = .next (
      if a.toNat ≤ 128 then
        { s with touch := { s.touch with soft := a.toNat }, link := s.link.reply 0x17#8 .ok [] }
      else { s with link := s.link.reply 0x17#8 .badValue [] }))

/-- GET_KEY reports a key's record and changes nothing. -/
def Obligations.GetKeyReports : Prop :=
  ∀ (s : State) (key : Byte), s.Ready →
    (87 < key.toNat → exec (.getKey key) s = .next { s with link := s.link.reply 0x15#8 .badValue [] }) ∧
    (∀ k : Key, k.val = key.toNat →
      exec (.getKey key) s = .next { s with
        link := s.link.reply 0x15#8 .ok
          (b8 (s.keys.get k).state.code ::
            (le16 (BitVec.ofNat 16 (s.keys.get k).lastRaw) ++ le16 (BitVec.ofNat 16 (s.keys.get k).lastDepth) ++
              le16 (BitVec.ofNat 16 (s.keys.get k).rest) ++ le16 (BitVec.ofNat 16 (s.keys.get k).bottom) ++
              [if (s.keys.get k).calibrated then 1#8 else 0#8] ++
              le16 (BitVec.ofNat 16 (s.keys.get k).capMin) ++ le16 (BitVec.ofNat 16 (s.keys.get k).capMax) ++
              le16 (BitVec.ofNat 16 (s.touch.gain.get k)))) })

/-! ### The Pedal Unit -/

/-- A pedal sample: the window, the average, the depth, the counts; in ACTIVE the value, what is reported of it and
the event that reports it, which is routed stamped with the sample; in FAULT the counting alone; and what it leaves
as it was. With the full record it leaves the pedal (`kept`), the event and PEDAL_FAULT at a 32nd or 64th sample, this
is the whole next state. That the time reaches the sample's stamp first is the model's reading
(notes/assumptions/2.md). -/
def Obligations.PedalSampleJudgesTheAverage : Prop :=
  ∀ (s : State) (p : Pedal) (raw : Raw) (stamp : W32), s.Steady → (s.pedals.get p).window.length ≤ 4 →
    ∃ t, exec (.pedalSample p raw stamp) s = .next t ∧
      (let r := s.pedals.get p
       let r' := t.pedals.get p
       let w := (if r.window.length = 4 then r.window.drop 1 else r.window) ++ [raw.val]
       let avg := w.sum / w.length
       let d := min 1023 ((avg - r.rest) * 1024 / (r.full - r.rest))
       let inside : Bool := decide (r.rest ≤ raw.val + 256 ∧ raw.val ≤ r.full + 256)
       let judged : Bool := inside || decide (r.outCount < 31)
       let low := if p = .damper then s.pedals.settings.damperLow else s.pedals.settings.softLow
       let high := if p = .damper then s.pedals.settings.damperHigh else s.pedals.settings.softHigh
       let v := if d ≤ low then 0 else if high ≤ d then 255 else (d - low) * 255 / (high - low)
       let reported : Bool := decide ((s.pedals.settings.w ≤ (v - r.lastEmitted) + (r.lastEmitted - v)) ∨
         ((v = 0 ∨ v = 255) ∧ v ≠ r.lastEmitted))
       let carries : Nat → EventKind := fun x => if p = .soft then .soft x else .damper x
       let formed : Option EventKind :=
         if r.state ≠ .active then none
         else if judged then
           if p = .sostenuto then
             if r.sost then (if d ≤ s.pedals.settings.sostOff then some .sostOff else none)
             else if s.pedals.settings.sostOn ≤ d then some .sostOn else none
           else if reported then some (carries v) else none
         else if p = .sostenuto then (if r.sost then some .sostOff else none)
         else if r.lastEmitted = 0 then none else some (carries 0)
       let sampled : State := { catchUp stamp s with pedals := t.pedals }
       (match formed with
         | none => t.SameRouted sampled
         | some kind => t.SameRouted (routeEvent ⟨.live, stamp, kind⟩ sampled)) ∧
       (let stored : PedalRecord := { r with
          window := w, lastRaw := raw.val, avg := avg, depth := if r.state = .uncalibrated then 0 else d }
        let kept : PedalRecord := match r.state with
          | .uncalibrated => stored
          | .active =>
            if judged then
              let counted := { stored with outCount := if inside then 0 else r.outCount + 1 }
              if p = .sostenuto then
                { counted with
                  sost := if r.sost then decide (s.pedals.settings.sostOff < d)
                    else decide (s.pedals.settings.sostOn ≤ d) }
              else { counted with value := v, lastEmitted := if reported then v else r.lastEmitted }
            else
              let failed := { stored with state := .fault, outCount := 32, inCount := 0 }
              if p = .sostenuto then { failed with sost := false } else { failed with value := 0, lastEmitted := 0 }
          | .fault =>
            if inside then
              if r.inCount < 63 then { stored with inCount := r.inCount + 1 }
              else { stored with state := .active, outCount := 0, inCount := 0 }
            else { stored with inCount := 0 }
        let base : State := { catchUp stamp s with pedals := s.pedals.put p kept }
        let told : State := match formed with
          | none => base
          | some kind => routeEvent ⟨.live, stamp, kind⟩ base
        let noticed : State :=
          if r.state = .active ∧ judged = false then
            { told with link := told.link.note (.pedalFault p false raw.val) told.clock.ms }
          else if r.state = .fault ∧ inside = true ∧ 63 ≤ r.inCount then
            { told with link := told.link.note (.pedalFault p true raw.val) told.clock.ms }
          else told
        r' = kept ∧ t = { noticed with link := noticed.link.transmit }) ∧
       r'.window = w ∧ r'.lastRaw = raw.val ∧ r'.avg = avg ∧ r'.rest = r.rest ∧ r'.full = r.full ∧
         (r.state = .uncalibrated → r'.state = .uncalibrated ∧ r'.depth = 0 ∧ r'.value = r.value ∧
           r'.lastEmitted = r.lastEmitted ∧ r'.sost = r.sost) ∧
         (r.state ≠ .uncalibrated → r'.depth = d) ∧
         (r.state = .active → judged = true →
           r'.state = .active ∧ r'.outCount = (if inside then 0 else r.outCount + 1) ∧
           (p ≠ .sostenuto →
             r'.value = v ∧ r'.lastEmitted = if reported then v else r.lastEmitted) ∧
           (p = .sostenuto →
             r'.sost = if r.sost then decide (s.pedals.settings.sostOff < d)
               else decide (s.pedals.settings.sostOn ≤ d))) ∧
         (r.state = .fault → (inside = false ∨ r.inCount < 63) →
           r'.state = .fault ∧ r'.outCount = r.outCount ∧ r'.inCount = (if inside then r.inCount + 1 else 0) ∧
             r'.value = r.value ∧ r'.lastEmitted = r.lastEmitted ∧ r'.sost = r.sost)) ∧
      (∀ q, q ≠ p → t.pedals.get q = s.pedals.get q) ∧ t.pedals.settings = s.pedals.settings ∧
      t.keys = s.keys ∧ t.touch = s.touch ∧ t.output = s.output ∧ t.bulk = s.bulk ∧ t.edit = s.edit ∧
      t.flash = s.flash ∧ t.router.routes = s.router.routes ∧ t.engine.map = s.engine.map ∧
      t.running = s.running ∧ t.pending = s.pending ∧ t.rail = (catchUp stamp s).rail ∧
      t.clock = (catchUp stamp s).clock

/-- The 32nd consecutive sample out of the window moves an ACTIVE pedal to FAULT with its value forced to 0 and the
sostenuto OFF, and the 64th in it returns a faulted pedal to ACTIVE; the rows of the table and PEDAL_SAMPLE agree. A
value or a sostenuto that had been reported is taken back by its event, routed before the PEDAL_FAULT notice. The
record, the event and the notice are the whole step, once the time has reached the sample's stamp
(notes/assumptions/2.md): the raw value joins the window, whose average and depth are stored, and the calibration is
kept. -/
def Obligations.PedalFaultEntryAndRecovery : Prop :=
  (∀ (s : State) (p : Pedal) (raw : Raw) (stamp : W32), s.Steady → (s.pedals.get p).state = .active →
    (s.pedals.get p).outCount = 31 →
    (raw.val + 256 < (s.pedals.get p).rest ∨ (s.pedals.get p).full + 256 < raw.val) →
    exec (.pedalFaultEntry p raw stamp) s = exec (.pedalSample p raw stamp) s ∧
    (∃ t, exec (.pedalFaultEntry p raw stamp) s = .next t ∧ (t.pedals.get p).state = .fault ∧
      (p ≠ .sostenuto → (t.pedals.get p).value = 0 ∧ (t.pedals.get p).lastEmitted = 0) ∧
      (p = .sostenuto → (t.pedals.get p).sost = false) ∧ (t.pedals.get p).outCount = 32 ∧
      (t.pedals.get p).inCount = 0 ∧ ∀ q, q ≠ p → t.pedals.get q = s.pedals.get q) ∧
    (let r := s.pedals.get p
     let w := (if 4 ≤ r.window.length then r.window.drop 1 else r.window) ++ [raw.val]
     let avg := w.sum / w.length
     let r' : PedalRecord := { r with
       state := .fault, outCount := 32, inCount := 0, window := w, lastRaw := raw.val, avg := avg
       depth := min 1023 ((avg - r.rest) * 1024 / (r.full - r.rest))
       value := if p = .sostenuto then r.value else 0
       lastEmitted := if p = .sostenuto then r.lastEmitted else 0
       sost := if p = .sostenuto then false else r.sost }
     let forced : Option EventKind := match p with
       | .damper => if r.lastEmitted = 0 then none else some (.damper 0)
       | .soft => if r.lastEmitted = 0 then none else some (.soft 0)
       | .sostenuto => if r.sost then some .sostOff else none
     let sampled : State := { catchUp stamp s with pedals := s.pedals.put p r' }
     let told : State := match forced with
       | none => sampled
       | some kind => routeEvent ⟨.live, stamp, kind⟩ sampled
     exec (.pedalFaultEntry p raw stamp) s =
       .next { told with link := told.link.notify (.pedalFault p false raw.val) told.clock.ms }) ∧
    ((s.pedals.get p).lastEmitted = 0 → (s.pedals.get p).sost = false →
      ∃ r', exec (.pedalFaultEntry p raw s.clock.us) s = .next { s with
        pedals := s.pedals.put p r', link := s.link.notify (.pedalFault p false raw.val) s.clock.ms }) ∧
    (∀ kind, (p = .damper ∧ (s.pedals.get p).lastEmitted ≠ 0 ∧ kind = .damper 0 ∨
        p = .soft ∧ (s.pedals.get p).lastEmitted ≠ 0 ∧ kind = .soft 0 ∨
        p = .sostenuto ∧ (s.pedals.get p).sost = true ∧ kind = .sostOff) →
      ∃ r', exec (.pedalFaultEntry p raw s.clock.us) s = .next (
        let u := routeEvent ⟨.live, s.clock.us, kind⟩ { s with pedals := s.pedals.put p r' }
        { u with link := u.link.notify (.pedalFault p false raw.val) s.clock.ms }))) ∧
  (∀ (s : State) (p : Pedal) (raw : Raw), s.Steady → (s.pedals.get p).state = .fault →
    (s.pedals.get p).inCount = 63 → (s.pedals.get p).rest ≤ raw.val + 256 →
    raw.val ≤ (s.pedals.get p).full + 256 →
    ∃ r', r'.state = .active ∧ r'.outCount = 0 ∧ r'.inCount = 0 ∧ r'.value = (s.pedals.get p).value ∧
      r'.lastEmitted = (s.pedals.get p).lastEmitted ∧ r'.sost = (s.pedals.get p).sost ∧
      exec (.pedalFaultRecovery p raw s.clock.us) s = .next { s with
        pedals := s.pedals.put p r', link := s.link.notify (.pedalFault p true raw.val) s.clock.ms }) ∧
  (∀ (s : State) (p : Pedal) (raw : Raw) (stamp : W32), s.Steady → (s.pedals.get p).state = .fault →
    (s.pedals.get p).inCount = 63 → (s.pedals.get p).rest ≤ raw.val + 256 →
    raw.val ≤ (s.pedals.get p).full + 256 →
    exec (.pedalFaultRecovery p raw stamp) s = exec (.pedalSample p raw stamp) s ∧
    (let r := s.pedals.get p
     let w := (if 4 ≤ r.window.length then r.window.drop 1 else r.window) ++ [raw.val]
     let avg := w.sum / w.length
     let r' : PedalRecord := { r with
       state := .active, outCount := 0, inCount := 0, window := w, lastRaw := raw.val, avg := avg
       depth := min 1023 ((avg - r.rest) * 1024 / (r.full - r.rest)) }
     let sampled : State := { catchUp stamp s with pedals := s.pedals.put p r' }
     exec (.pedalFaultRecovery p raw stamp) s =
       .next { sampled with link := sampled.link.notify (.pedalFault p true raw.val) sampled.clock.ms }))

/-- LOAD_PEDAL_CAL, SET_PEDAL and GET_PEDAL. -/
def Obligations.PedalCommandsReplaceAndReport : Prop :=
  (∀ (s : State) (b : Byte) (rest full : W16), s.Ready →
    ((2 < b.toNat ∨ 4095 < rest.toNat ∨ 4095 < full.toNat ∨ full.toNat < rest.toNat + 128) →
      exec (.loadPedalCal b rest full) s = .next { s with link := s.link.reply 0x18#8 .badValue [] }) ∧
    (∀ p, pedalOf b = some p → rest.toNat ≤ 4095 → full.toNat ≤ 4095 → rest.toNat + 128 ≤ full.toNat →
      exec (.loadPedalCal b rest full) s = .next { s with
        pedals := s.pedals.put p { s.pedals.get p with
          rest := rest.toNat, full := full.toNat, outCount := 0, inCount := 0, state := .active }
        link := s.link.reply 0x18#8 .ok [] })) ∧
  (∀ (s : State) (a b c d e f : W16) (w : Byte), s.Ready →
    exec (.setPedal a b c d e f w) s = .next (
      if a.toNat < b.toNat ∧ b.toNat ≤ 1023 ∧ c.toNat < d.toNat ∧ d.toNat ≤ 1023 ∧ f.toNat < e.toNat ∧
          e.toNat ≤ 1023 ∧ 1 ≤ w.toNat ∧ w.toNat ≤ 32 then
        { s with
          pedals := { s.pedals with
            settings := ⟨a.toNat, b.toNat, c.toNat, d.toNat, e.toNat, f.toNat, w.toNat⟩ }
          link := s.link.reply 0x19#8 .ok [] }
      else { s with link := s.link.reply 0x19#8 .badValue [] })) ∧
  (∀ (s : State) (b : Byte), s.Ready →
    (2 < b.toNat → exec (.getPedal b) s = .next { s with link := s.link.reply 0x1A#8 .badValue [] }) ∧
    (∀ p, pedalOf b = some p →
      exec (.getPedal b) s = .next { s with
        link := s.link.reply 0x1A#8 .ok
          (b8 (s.pedals.get p).state.code ::
            (le16 (BitVec.ofNat 16 (s.pedals.get p).lastRaw) ++ le16 (BitVec.ofNat 16 (s.pedals.get p).avg) ++
              le16 (BitVec.ofNat 16 (s.pedals.get p).depth) ++ le16 (BitVec.ofNat 16 (s.pedals.get p).rest) ++
              le16 (BitVec.ofNat 16 (s.pedals.get p).full) ++
              (if p = .sostenuto then
                [(if (s.pedals.get p).sost then 1#8 else 0#8), (if (s.pedals.get p).sost then 1#8 else 0#8)]
              else [b8 (s.pedals.get p).value, b8 (s.pedals.get p).lastEmitted]))) }))

/-! ### The Event Router and the Guide -/

/-- SET_ROUTE replaces one entry whole or is refused; GET_ROUTE reports one, with the source set, the kind set and the
destination set bit by bit as section 11.9 numbers them. -/
def Obligations.RouteCommandsReplaceAndReport : Prop :=
  (∀ (s : State) (r e ss k lo hi d : Byte), s.Ready →
    ((15 < r.toNat ∨ 1 < e.toNat ∨ 3 < ss.toNat ∨ 127 < k.toNat ∨ 87 < hi.toNat ∨ hi.toNat < lo.toNat ∨
        15 < d.toNat) →
      exec (.setRoute r e ss k lo hi d) s = .next { s with link := s.link.reply 0x20#8 .badValue [] }) ∧
    (∀ i : Fin 16, i.val = r.toNat → e.toNat ≤ 1 → ss.toNat ≤ 3 → k.toNat ≤ 127 → lo.toNat ≤ hi.toNat →
      hi.toNat ≤ 87 → d.toNat ≤ 15 →
      exec (.setRoute r e ss k lo hi d) s = .next { s with
        router := { s.router with
          routes := s.router.routes.set i.val
            { enabled := e.getLsbD 0, live := ss.getLsbD 0, playback := ss.getLsbD 1
              kinds := k.extractLsb' 0 7, keyLow := lo.toNat, keyHigh := hi.toNat
              dests := ⟨d.getLsbD 0, d.getLsbD 1, d.getLsbD 2, d.getLsbD 3⟩ } i.isLt }
        link := s.link.reply 0x20#8 .ok [] })) ∧
  (∀ (s : State) (r : Byte), s.Ready →
    (15 < r.toNat → exec (.getRoute r) s = .next { s with link := s.link.reply 0x21#8 .badValue [] }) ∧
    (∀ i : Fin 16, i.val = r.toNat →
      let x := s.router.routes.get i
      ∃ sources kinds dests : Byte,
        (∀ j : Fin 8, sources.getLsbD j = match j.val with
          | 0 => x.live | 1 => x.playback | _ => false) ∧
        (∀ j : Fin 8, kinds.getLsbD j = if j.val < 7 then x.kinds.getLsbD j else false) ∧
        (∀ j : Fin 8, dests.getLsbD j = match j.val with
          | 0 => x.dests.engine | 1 => x.dests.recorder | 2 => x.dests.notify | 3 => x.dests.guide
          | _ => false) ∧
        exec (.getRoute r) s = .next { s with
          link := s.link.reply 0x21#8 .ok
            [if x.enabled then 1#8 else 0#8, sources, kinds, BitVec.ofNat 8 x.keyLow, BitVec.ofNat 8 x.keyHigh,
              dests] }))

/-- The final destination set, member by member: the first matching entry's set or the default; GUIDE kept for a
PLAYBACK key event of a practice pass and removed otherwise, ENGINE in its place in a listening pass; a NOTE_OFF and a
SOST_OFF also to the block that holds what they release. And the delivery of an event: a LIVE NOTE_ON is offered to the
Guide first; each member of the final set takes the event once, on state of its own; a delivery to NOTIFY places one
notice. When more than one delivery places a notice their order is open (notes/assumptions/11.md), else it makes no
difference. -/
def Obligations.DestinationsFollowTheRoutes : Prop :=
  ∀ (s : State) (ev : Event),
    let code : Nat := match ev.kind with
      | .noteOn _ _ _ => 0 | .noteOff _ _ => 1 | .silentPress _ => 2 | .damper _ => 3 | .soft _ => 4
      | .sostOn => 5 | .sostOff => 6
    let key : Option Key := match ev.kind with
      | .noteOn k _ _ => some k | .noteOff k _ => some k | .silentPress k => some k
      | .damper _ | .soft _ | .sostOn | .sostOff => none
    let own : SourceState := match ev.source with
      | .live => s.engine.live
      | .playback => s.engine.playback
    let d := routedSet s.router.routes ev
    let guided : Bool := decide (ev.source = .playback) && key.isSome
    let heldByEngine : Bool := match ev.kind with
      | .noteOff k _ => own.down.mem k
      | .sostOff => own.sost
      | _ => false
    let heldByRecorder : Bool := match s.recorder, ev.kind with
      | some r, .noteOff k _ => r.ctx.openKeys.mem k
      | some r, .sostOff => r.ctx.sost
      | _, _ => false
    (∀ r : Route, r.covers ev = true ↔ r.enabled = true ∧ (ev.source = .live → r.live = true) ∧
      (ev.source = .playback → r.playback = true) ∧ r.kinds.getLsbD code = true ∧
      ∀ k, key = some k → r.keyLow ≤ k.val ∧ k.val ≤ r.keyHigh) ∧
    ((∀ i : Fin 16, (s.router.routes.get i).covers ev = false) →
      d = match ev.source with
        | .live => { engine := true, recorder := true, notify := false, guide := false }
        | .playback => { engine := true, recorder := false, notify := false, guide := false }) ∧
    (∀ i : Fin 16, (s.router.routes.get i).covers ev = true →
      (∀ j : Fin 16, j < i → (s.router.routes.get j).covers ev = false) →
      d = (s.router.routes.get i).dests) ∧
    finalSet s ev =
      { engine := d.engine || (guided && d.guide && decide (s.player.passKind = .listen)) || heldByEngine
        recorder := d.recorder || heldByRecorder
        notify := d.notify
        guide := d.guide && guided && decide (s.player.passKind = .practice) } ∧
    notifyEvent ev s = { s with
      link := s.link.note
        (if key.isSome then .keyEvent ev.kind ev.source ev.stamp else .pedalEvent ev.kind ev.source ev.stamp)
        s.clock.ms } ∧
    (let u := match ev.source, ev.kind with
       | .live, .noteOn k _ _ => guideOffer k s
       | _, _ => s
     let f := finalSet u ev
     let each : List (State → State) :=
       (if f.engine then [engineEvent ev] else []) ++ (if f.recorder then [recorderEvent ev] else []) ++
         (if f.notify then [notifyEvent ev] else []) ++ (if f.guide then [guideEvent ev] else [])
     let t := routeEvent ev s
     t.engine = (if f.engine then (engineEvent ev u).engine else u.engine) ∧
       t.recorder = (if f.recorder then (recorderEvent ev u).recorder else u.recorder) ∧
       t.store = (if f.recorder then (recorderEvent ev u).store else u.store) ∧
       t.router = (if f.guide then (guideEvent ev u).router else u.router) ∧
       t.guide = (if f.guide then (guideEvent ev u).guide else u.guide) ∧
       (∃ order : List (State → State), order.Perm each ∧ t.link = (order.foldl (fun x g => g x) u).link) ∧
       ((each.filter fun g => (g u).link ≠ u.link).length ≤ 1 →
         t.link = (each.foldl (fun x g => g x) u).link ∧ t.choices = u.choices) ∧
       { t with
         engine := u.engine, recorder := u.recorder, store := u.store, router := u.router, guide := u.guide
         link := u.link, choices := u.choices } = u)

/-- SET_GUIDE and GUIDE_SKIP: the settings, the expected set, and the wait they release. -/
def Obligations.GuideCommandsReleaseTheWait : Prop :=
  (∀ (s : State) (w : Byte) (g : W16), s.Ready →
    ((1 < w.toNat ∨ 500 < g.toNat) →
      exec (.setGuide w g) s = .next { s with link := s.link.reply 0x48#8 .badValue [] }) ∧
    (w = 1#8 → g.toNat ≤ 500 →
      exec (.setGuide w g) s = .next { s with
        guide := { s.guide with wait := true, grace := g.toNat }, link := s.link.reply 0x48#8 .ok [] }) ∧
    (w = 0#8 → g.toNat ≤ 500 →
      exec (.setGuide w g) s = .next (
        if s.player.state = .waiting then
          { s with
            guide := { wait := false, grace := g.toNat, expected := KeySet.none }
            player := { s.player with state := .playing }
            link := Link.reply
              (s.link.note (.playerState .playing s.player.take .continue (s.player.acc / 256) 0) s.clock.ms)
              0x48#8 .ok [] }
        else { s with
          guide := { wait := false, grace := g.toNat, expected := KeySet.none }
          link := s.link.reply 0x48#8 .ok [] }))) ∧
  (∀ s : State, s.Ready →
    exec .guideSkip s = .next (
      if s.player.state = .waiting then
        { s with
          guide := { s.guide with expected := KeySet.none }
          player := { s.player with state := .playing }
          link := Link.reply
            (s.link.note (.playerState .playing s.player.take .continue (s.player.acc / 256) 0) s.clock.ms)
            0x49#8 .ok [] }
      else { s with
        guide := { s.guide with expected := KeySet.none }, link := s.link.reply 0x49#8 .ok [] }))

/-- The consultation of the recent-press list: entries older than the grace go, the oldest entry of the key is
removed and credits it; a press joins at the newest end of at most 10. The offer of a LIVE NOTE_ON: an expected key is
removed, and with none left a waiting Player plays on; another press joins the list. And an event at the Guide: the
outcome of a NOTE_ON, the growth of the expected set, the indication OFF. -/
def Obligations.RecentPressesCreditTheOldest : Prop :=
  (∀ (now : W32) (grace : Nat) (k : Key) (l a b : List Press) (p : Press),
    (l.filter fun q => decide ((now - q.ms).toNat ≤ grace)) = a ++ p :: b → p.key = k →
    (∀ q ∈ a, q.key ≠ k) → consult now grace k l = (true, a ++ b)) ∧
  (∀ (now : W32) (grace : Nat) (k : Key) (l : List Press),
    (∀ q ∈ l, (now - q.ms).toNat ≤ grace → q.key ≠ k) →
    consult now grace k l = (false, l.filter fun q => decide ((now - q.ms).toNat ≤ grace))) ∧
  (∀ (p : Press) (l : List Press), l.length ≤ 10 →
    (appendPress p l).length ≤ 10 ∧ (appendPress p l).getLast? = some p ∧
      (l.length < 10 → appendPress p l = l ++ [p]) ∧ (l.length = 10 → appendPress p l = l.tail ++ [p])) ∧
  (∀ (s : State) (k : Key),
    (s.guide.expected.mem k = false →
      guideOffer k s = { s with
        router := { s.router with recent := appendPress ⟨k, s.clock.ms⟩ s.router.recent } }) ∧
    (s.guide.expected.mem k = true →
      let left := s.guide.expected.set k.val false k.isLt
      guideOffer k s =
        if s.player.state = .waiting ∧ ∀ j : Key, left.get j = false then
          { s with
            guide := { s.guide with expected := left }, player := { s.player with state := .playing }
            link := s.link.note (.playerState .playing s.player.take .continue (s.player.acc / 256) 0)
              s.clock.ms }
        else { s with guide := { s.guide with expected := left } })) ∧
  (∀ (s : State) (ev : Event),
    (∀ k v rep, ev.kind = .noteOn k v rep → s.guide.wait = false →
      guideEvent ev s = { s with link := s.link.note (.guide k (some .shown)) s.clock.ms }) ∧
    (∀ k v rep, ev.kind = .noteOn k v rep → s.guide.wait = true →
      let c := consult s.clock.ms s.guide.grace k s.router.recent
      let size := ((List.finRange 88).filter fun j => s.guide.expected.get j).length
      let grows : Bool := !c.1 && !s.guide.expected.get k && decide (size < 10)
      let outcome : GuideOutcome := if c.1 then .credited
        else if s.guide.expected.get k then .expected else if size < 10 then .expected else .full
      guideEvent ev s = { s with
        router := { s.router with recent := c.2 }
        guide := { s.guide with
          expected := if grows then s.guide.expected.set k.val true k.isLt else s.guide.expected }
        link := s.link.note (.guide k (some outcome)) s.clock.ms }) ∧
    (∀ k fault, ev.kind = .noteOff k fault →
      guideEvent ev s = { s with link := s.link.note (.guide k none) s.clock.ms }) ∧
    ((∀ k v rep, ev.kind ≠ .noteOn k v rep) → (∀ k fault, ev.kind ≠ .noteOff k fault) →
      guideEvent ev s = s))

/-! ### The Voice Engine and the Output Stage -/

/-- A NOTE_ON at the engine leaves the engine of `noteOn` and its notices placed in order, and changes nothing else
(R71, R91). What `noteOn` does with a key that has a map entry: it marks the key down for its source and changes no other table of either
source; its layer is the first whose upper velocity is at least the note's; it releases the key's earlier sound, keeps
the key within four, and starts on the lowest-numbered free voice, or waits for the voice it steals, or is dropped.
With no voice free, the voices and entries it finds are those the limit of four leaves; when every voice is in CUT
none is stolen. -/
def Obligations.NoteOnFindsAVoice : Prop :=
  (∀ (s : State) (src : Source) (stamp : W32) (k : Key) (v : Nat) (rep : Bool),
    let r := s.engine.noteOn src k v
    engineEvent ⟨src, stamp, .noteOn k v rep⟩ s =
      { s with engine := r.2, link := r.1.foldl (fun l body => l.note body s.clock.ms) s.link }) ∧
  ∀ (e : Engine) (src : Source) (k : Key) (v : Nat) (m : MapEntry), e.map.get k = some m →
    let r := e.noteOn src k v
    let old : Fin 96 → Voice := fun i =>
      let x := e.voices.get i
      if x.state = .held ∧ x.source = src ∧ x.key = k then { x with state := .released } else x
    let mark : PendingStart → PendingStart := fun p =>
      if p.source = src ∧ p.key = k then { p with released := true } else p
    let count := (e.voices.toList.filter fun x => (x.state = .held ∨ x.state = .released) ∧ x.key = k).length +
      (e.queue.filter fun p => p.key = k).length
    let started : Voice :=
      { state := .held, key := k, source := src, sound := m.sound (m.layerFor v), pos := 0
        level := v * v * 65535 / 16129, seq := e.nextSeq, cutPos := 0 }
    let oldest : Fin 96 → Prop := fun o =>
      ((old o).state = .held ∨ (old o).state = .released) ∧ (old o).key = k ∧
        ∀ j, j ≠ o → ((old j).state = .held ∨ (old j).state = .released) → (old j).key = k →
          ((old o).seq - e.nextSeq).toNat < ((old j).seq - e.nextSeq).toNat
    let noneFree : List NoticeBody → (Fin 96 → Voice) → List PendingStart → Prop := fun said voices queue =>
      r.2.nextSeq = e.nextSeq ∧
      (16 ≤ queue.length → r.1 = said ++ [.voiceDrop k src] ∧ r.2.queue = queue ∧
        ∀ j, r.2.voices.get j = voices j) ∧
      (queue.length < 16 → r.1 = said ∧
        r.2.queue = queue ++ [⟨k, src, v, m.layerFor v, false⟩] ∧
        (∀ o : Fin 96, (voices o).state = .released →
          (∀ j : Fin 96, (voices j).state = .released →
            (voices o).level < (voices j).level ∨ ((voices o).level = (voices j).level ∧ o ≤ j)) →
          r.2.voices.get o = { voices o with state := .cut, cutPos := 0 } ∧
          ∀ j, j ≠ o → r.2.voices.get j = voices j) ∧
        (∀ o : Fin 96, (∀ j : Fin 96, (voices j).state ≠ .released) → (voices o).state = .held →
          (∀ j : Fin 96, j ≠ o → (voices j).state = .held →
            ((voices o).seq - e.nextSeq).toNat < ((voices j).seq - e.nextSeq).toNat) →
          r.2.voices.get o = { voices o with state := .cut, cutPos := 0 } ∧
          ∀ j, j ≠ o → r.2.voices.get j = voices j) ∧
        ((∀ j : Fin 96, (voices j).state = .cut) → ∀ j, r.2.voices.get j = voices j))
    (r.2.source src).down.mem k = true ∧ r.2.map = e.map ∧
    (let x := e.source src
     let put : SourceState → Engine := fun y =>
       match src with
       | .live => { e with live := y }
       | .playback => { e with playback := y }
     r.2 = { put { x with down := x.down.set k.val true k.isLt } with
       voices := r.2.voices, nextSeq := r.2.nextSeq, queue := r.2.queue }) ∧
    (∀ (i : Nat) (l : Layer), m.layers[i]? = some l → v ≤ l.upper →
      (∀ (j : Nat) (l' : Layer), j < i → m.layers[j]? = some l' → l'.upper < v) →
      m.layerFor v = i ∧ m.sound (m.layerFor v) =
        some ⟨l.start, l.length, l.loopStart, l.loopLength, m.rHold, m.rDamp, m.pan⟩) ∧
    (∀ i : Fin 96, (e.voices.get i).state = .free → (∀ j : Fin 96, j < i → (e.voices.get j).state ≠ .free) →
      r.2.voices.get i = started ∧ r.2.nextSeq = e.nextSeq + 1#32 ∧
      (count < 4 → r.1 = [] ∧ r.2.queue = e.queue.map mark ∧ ∀ j, j ≠ i → r.2.voices.get j = old j) ∧
      (4 ≤ count → r.1 = [.voiceLimit k]) ∧
      (∀ a p b, 4 ≤ count → e.queue = a ++ p :: b → p.key = k → (∀ q ∈ a, q.key ≠ k) →
        r.2.queue = (a ++ b).map mark ∧ ∀ j, j ≠ i → r.2.voices.get j = old j) ∧
      (∀ o : Fin 96, 4 ≤ count → (∀ q ∈ e.queue, q.key ≠ k) → oldest o →
        r.2.queue = e.queue.map mark ∧ r.2.voices.get o = { old o with state := .cut, cutPos := 0 } ∧
        ∀ j, j ≠ i → j ≠ o → r.2.voices.get j = old j)) ∧
    ((∀ i : Fin 96, (e.voices.get i).state ≠ .free) →
      (count < 4 → noneFree [] old (e.queue.map mark)) ∧
      (∀ a p b, 4 ≤ count → e.queue = a ++ p :: b → p.key = k → (∀ q ∈ a, q.key ≠ k) →
        noneFree [.voiceLimit k] old ((a ++ b).map mark)) ∧
      (∀ o : Fin 96, 4 ≤ count → (∀ q ∈ e.queue, q.key ≠ k) → oldest o →
        noneFree [.voiceLimit k] (fun j => if j = o then { old o with state := .cut, cutPos := 0 } else old j)
          (e.queue.map mark)))

/-- The other events at the engine act on the tables of their own source alone; a NOTE_OFF releases that source's
held voices and waiting starts of the key; a NOTE_ON of a key without a map entry only marks it down. -/
def Obligations.EngineEventsActOnTheirSource : Prop :=
  ∀ (s : State) (src : Source) (stamp : W32) (k : Key) (v : Nat) (flag : Bool),
    let x := s.engine.source src
    let put : SourceState → Engine := fun y =>
      match src with
      | .live => { s.engine with live := y }
      | .playback => { s.engine with playback := y }
    let run : EventKind → State := fun kind => engineEvent ⟨src, stamp, kind⟩ s
    let mark : PendingStart → PendingStart := fun p =>
      if p.source = src ∧ p.key = k then { p with released := true } else p
    (s.engine.map.get k = none →
      run (.noteOn k v flag) = { s with engine := put { x with down := x.down.set k.val true k.isLt } }) ∧
    run (.silentPress k) = { s with engine := put { x with down := x.down.set k.val true k.isLt } } ∧
    (let t := run (.noteOff k flag)
     (∀ i : Fin 96, t.engine.voices.get i =
        let y := s.engine.voices.get i
        if y.state = .held ∧ y.source = src ∧ y.key = k then { y with state := .released } else y) ∧
       t = { s with
         engine := { put { x with down := x.down.set k.val false k.isLt } with
           voices := t.engine.voices, queue := s.engine.queue.map mark } }) ∧
    run (.damper v) = { s with engine := put { x with damper := v } } ∧
    run (.soft v) = s ∧
    run .sostOn = (if x.sost = true then s
      else { s with engine := put { x with latch := x.down, sost := true } }) ∧
    run .sostOff = { s with engine := put { x with latch := Vector.replicate 88 false, sost := false } }

/-- LOAD_MAP and SOUND_OFF: the checks of LOAD_MAP; the voices they cut, the waiting starts they remove, the map
entry that is installed or made absent. -/
def Obligations.MapAndSoundOffCutVoices : Prop :=
  (∀ (s : State) (key n : Byte) (rh rd : W16) (pan : Byte) (ls : List LayerArg), s.Ready →
    mapLengthOk n ls.length = true →
    let ok : Prop :=
      n = 0#8 ∨ (List.Pairwise (· < ·) (ls.map fun a => a.upper.toNat) ∧
        (ls.map fun a => a.upper.toNat).getLast? = some 127 ∧
        (∀ a ∈ ls, 1 ≤ a.upper.toNat ∧ a.start.toNat % 2 = 0 ∧ 1 ≤ a.length.toNat ∧
          a.length.toNat ≤ 4194304 ∧ a.loopStart.toNat + a.loopLength.toNat ≤ a.length.toNat ∧
          a.start.toNat + 2 * a.length.toNat ≤ 16777216) ∧
        rd.toNat ≤ rh.toNat ∧ pan.toNat ≤ 128)
    ((87 < key.toNat ∨ 4 < n.toNat ∨ ¬ok) →
      exec (.loadMap key n rh rd pan ls) s = .next { s with link := s.link.reply 0x24#8 .badValue [] }) ∧
    (∀ k : Key, k.val = key.toNat → n.toNat ≤ 4 → ok →
      ∃ t, exec (.loadMap key n rh rd pan ls) s = .next t ∧
        (∀ i : Fin 96, t.engine.voices.get i =
          let y := s.engine.voices.get i
          if y.key = k ∧ (y.state = .held ∨ y.state = .released) then { y with state := .cut, cutPos := 0 }
          else y) ∧
        (∀ j : Key, t.engine.map.get j =
          if j = k then
            if n = 0#8 then none
            else some
              ⟨ls.map fun a =>
                  ⟨a.upper.toNat, a.start.toNat, a.length.toNat, a.loopStart.toNat, a.loopLength.toNat⟩,
                rh.toNat, rd.toNat, pan.toNat⟩
          else s.engine.map.get j) ∧
        t = { s with
          engine := { s.engine with
            voices := t.engine.voices, map := t.engine.map
            queue := s.engine.queue.filter fun p => p.key ≠ k }
          link := s.link.reply 0x24#8 .ok [] })) ∧
  (∀ s : State, s.Ready →
    ∃ t, exec .soundOff s = .next t ∧
      (∀ i : Fin 96, t.engine.voices.get i =
        let y := s.engine.voices.get i
        if y.state = .held ∨ y.state = .released then { y with state := .cut, cutPos := 0 } else y) ∧
      t = { s with
        engine := { s.engine with voices := t.engine.voices, queue := [] }
        link := s.link.reply 0x26#8 .ok [] })

/-- A control block after the 48th output sample: each sounding voice's level falls by the factor its key's damper
gives it, below 16 it is free; freed voices start the waiting notes, the oldest first, one voice one note; which of
several freed voices is taken first is open (notes/assumptions/12.md). Before that the row changes nothing
(notes/assumptions/4.md). -/
def Obligations.ControlBlockDecaysVoices : Prop :=
  (∀ s : State, s.Steady → s.output.blockCount < 48 → exec .controlBlock s = .next s) ∧
  (∀ s : State, s.Steady → 48 ≤ s.output.blockCount →
    let after : Fin 96 → Voice := fun i =>
      let y := s.engine.voices.get i
      match y.sound with
      | none => y
      | some p =>
        if y.state = .held ∨ y.state = .released then
          let x := s.engine.source y.source
          let r := if y.state = .held ∨ x.down.mem y.key = true ∨ x.latch.mem y.key = true then p.rHold
            else p.rDamp + (p.rHold - p.rDamp) * x.damper / 255
          { y with
            level := y.level * r / 65536
            state := if y.level * r / 65536 < 16 then .free else y.state }
        else y
    (s.engine.queue = [] →
      ∃ t, exec .controlBlock s = .next t ∧ (∀ i, t.engine.voices.get i = after i) ∧
        t = { s with
          engine := { s.engine with voices := t.engine.voices }
          output := { s.output with blockCount := 0 } }) ∧
    (∀ (i : Fin 96) (p : PendingStart) (rest : List PendingStart), s.engine.queue = p :: rest →
      (s.engine.voices.get i).state ≠ .free → (after i).state = .free →
      (∀ j, j ≠ i → (after j).state = .free → (s.engine.voices.get j).state = .free) →
      ∃ t, exec .controlBlock s = .next t ∧ (∀ j, j ≠ i → t.engine.voices.get j = after j) ∧
        t.engine.voices.get i =
          { state := if p.released then .released else .held, key := p.key, source := p.source
            sound := (s.engine.map.get p.key).bind fun m => m.sound p.layer, pos := 0
            level := p.velocity * p.velocity * 65535 / 16129, seq := s.engine.nextSeq, cutPos := 0 } ∧
        t = { s with
          engine := { s.engine with
            voices := t.engine.voices, queue := rest, nextSeq := s.engine.nextSeq + 1#32 }
          output := { s.output with blockCount := 0 } }) ∧
    (∃ t, exec .controlBlock s = .next t ∧ s.engine.FreedTake t.engine after ∧
      t = { s with engine := t.engine, output := { s.output with blockCount := 0 }, choices := t.choices }))

/-- An output sample: a control block that is due is taken first (notes/assumptions/6.md); then the sums, the volume,
the saturation, the mute gain after its step, the audio frame, and each voice's advance; freed voices start the
waiting notes. Muted, the sample is 0. The frame clock and the data line in each of the 64 bit periods of the frame
(R103). SET_OUTPUT. And when the rail is physically retracted (R107), which the mute gain and a strike's curve read. -/
def Obligations.OutputSampleMixesVoices : Prop :=
  (∀ r : Rail, r.physicallyRetracted = true ↔
    r.state = .retracted ∨ (r.state = .waitClear ∧ r.origin = some .retracted)) ∧
  (∀ s : State, s.Steady → s.output.blockCount < 48 →
    let amp : Voice → Sound → Int := fun y p =>
      let a := (flashByte s.flash (p.start + 2 * y.pos + 1) ++
        flashByte s.flash (p.start + 2 * y.pos) : BitVec 16).toInt * (y.level : Int) / 65536
      if y.state = .cut then a * (64 - (y.cutPos : Int)) / 64 else a
    let left : Voice → Int := fun y =>
      match y.sound with
      | some p => if y.state = .free then 0 else amp y p * (128 - (p.pan : Int))
      | none => 0
    let right : Voice → Int := fun y =>
      match y.sound with
      | some p => if y.state = .free then 0 else amp y p * (p.pan : Int)
      | none => 0
    let m := if s.rail.physicallyRetracted = true ∧ s.output.layer = false then s.output.mute - 1
      else if s.output.mute < 480 then s.output.mute + 1 else s.output.mute
    let out : Int → Int := fun sum =>
      max (-8388607) (min 8388607 (sum * (s.output.vol : Int) / 128)) * (m : Int) / 480
    let l := out (s.engine.voices.toList.map left).sum
    let r := out (s.engine.voices.toList.map right).sum
    let after : Fin 96 → Voice := fun i =>
      let y := s.engine.voices.get i
      match y.sound with
      | none => y
      | some p =>
        let c := if y.state = .cut then y.cutPos + 1 else y.cutPos
        if y.state = .free then y
        else
          { y with
            pos := if p.loopLength ≠ 0 ∧ y.pos + 1 = p.loopStart + p.loopLength then p.loopStart else y.pos + 1
            cutPos := c
            state := if (p.loopLength = 0 ∧ y.pos + 1 = p.length) ∨ (y.state = .cut ∧ c = 64) then .free
              else y.state }
    ∃ t, exec .outputSample s = .next t ∧
      t.output = { s.output with
        mute := m, left := l, right := r, blockCount := s.output.blockCount + 1
        frame := (BitVec.ofInt 24 l ++ 0#8 : BitVec 32) ++ (BitVec.ofInt 24 r ++ 0#8 : BitVec 32) } ∧
      (m = 0 → t.output.left = 0 ∧ t.output.right = 0) ∧
      (s.engine.queue = [] → (∀ i, t.engine.voices.get i = after i) ∧
        t = { s with output := t.output, engine := { s.engine with voices := t.engine.voices } }) ∧
      s.engine.FreedTake t.engine after ∧
      t = { s with output := t.output, engine := t.engine, choices := t.choices } ∧
      (∀ period : Fin 64, frameClock period = decide (32 ≤ period.val) ∧
        dataLine t.output.frame period =
          if period.val < 24 then (BitVec.ofInt 24 l).getLsbD (23 - period.val)
          else if period.val < 32 then false
          else if period.val < 56 then (BitVec.ofInt 24 r).getLsbD (55 - period.val)
          else false)) ∧
  (∀ s : State, s.Steady → 48 ≤ s.output.blockCount →
    ∃ u, exec .controlBlock s = .next u ∧ u.output.blockCount < 48 ∧ u.Steady ∧
      exec .outputSample s = exec .outputSample u) ∧
  (∀ (s : State) (vol : W16) (layer : Byte), s.Ready →
    exec (.setOutput vol layer) s = .next (
      if vol.toNat ≤ 255 ∧ layer.toNat ≤ 1 then
        { s with
          output := { s.output with vol := vol.toNat, layer := layer.getLsbD 0 }
          link := s.link.reply 0x25#8 .ok [] }
      else { s with link := s.link.reply 0x25#8 .badValue [] }))

/-- The law of voices and the marking down of held voices and unreleased waiting notes are kept by every step. -/
def Obligations.StepsKeepTheVoiceLaws : Prop :=
  ∀ s t : State, step s = .next t →
    (VoiceLaw s.engine → VoiceLaw t.engine) ∧ (HeldLaw s.engine → HeldLaw t.engine)

/-! ### The Rail Controller -/

/-- RAIL in every state, RAIL_CLEAR and SET_RAIL: the reply, the rail record, the RAIL_STATE notices. That a reversal in
MOVING onto an end already reached alone raises REVERSED and then ARRIVED is the model's reading
(notes/assumptions/16.md, DEDUCED, unsafe). A return by cancellation to an end whose switch is not asserted goes on to
UNKNOWN; what its second notice carries is open (notes/assumptions/33.md). -/
def Obligations.RailCommandsMoveTheRail : Prop :=
  (∀ (s : State) (b : Byte), s.Ready → b ≠ 1#8 → b ≠ 2#8 →
    exec (.rail b) s = .next { s with link := s.link.reply 0x28#8 .badValue [] }) ∧
  (∀ (s : State) (b : Byte) (e : RailEnd), s.Ready → (b = 1#8 ∧ e = .retracted ∨ b = 2#8 ∧ e = .engaged) →
    let r := s.rail
    let way : Direction := if e = .engaged then .inward else .outward
    let own := if e = .engaged then r.eng else r.ret
    let other := if e = .engaged then r.ret else r.eng
    let turned : Rail := { r with target := some e, direction := some way }
    let said : RailState → Option RailEnd → RailCause → Nat → Link := fun st target cause run =>
      s.link.note (.railState st target r.origin cause .none run r.supply) s.clock.ms
    (r.state = .fault → exec (.rail b) s = .next { s with link := s.link.reply 0x28#8 .badState [] }) ∧
    ((r.state = e.state ∨ (r.state = .waitClear ∨ r.state = .moving ∨ r.state = .paused) ∧ r.target = some e) →
      exec (.rail b) s = .next { s with link := s.link.reply 0x28#8 .ok [] }) ∧
    (∀ og : RailOrigin, r.state = og.state → r.state ≠ e.state →
      exec (.rail b) s = .next { s with
        rail := { turned with
          state := .waitClear, origin := some og, waitUs := 0, runUs := 0
          settle := if keyboardClear s = true then some 0 else none }
        link := Link.reply
          (s.link.note (.railState .waitClear (some e) (some og) .wait .none 0 r.supply) s.clock.ms)
          0x28#8 .accepted [] }) ∧
    (r.state = .waitClear → r.target ≠ some e → r.origin = some e.origin → own = true →
      exec (.rail b) s = .next { s with
        rail := { r with
          state := e.state, target := none, origin := none, direction := none, runUs := 0, waitUs := 0
          settle := none, overCount := 0, reason := none, enable := false, driveIn := false
          driveOut := false }
        link := Link.reply (said e.state r.target .cancelled (r.runUs / 1000)) 0x28#8 .ok [] }) ∧
    (r.state = .waitClear → r.target ≠ some e → r.origin = some e.origin → own = false →
      ∃ shown : Option RailEnd × Option RailOrigin × Nat,
        (shown = (r.target, r.origin, r.runUs / 1000) ∨ shown = (none, none, 0)) ∧
        exec (.rail b) s = .next { s with
          rail := { r with
            state := .unknown, target := none, origin := none, direction := none, runUs := 0, waitUs := 0
            settle := none, overCount := 0, reason := none, enable := false, driveIn := false
            driveOut := false }
          link := Link.reply
            ((said e.state r.target .cancelled (r.runUs / 1000)).note
              (.railState .unknown shown.1 shown.2.1 .switchLost .none shown.2.2 r.supply) s.clock.ms)
            0x28#8 .ok []
          choices := s.choices + 1 }) ∧
    (r.state = .waitClear → r.target ≠ some e → r.origin ≠ some e.origin →
      exec (.rail b) s = .next { s with
        rail := turned
        link := Link.reply (said .waitClear (some e) .reversed (r.runUs / 1000)) 0x28#8 .accepted [] }) ∧
    (r.state = .paused → r.target ≠ some e →
      exec (.rail b) s = .next { s with
        rail := { turned with runUs := 0 }
        link := Link.reply (said .paused (some e) .reversed 0) 0x28#8 .accepted [] }) ∧
    (r.state = .moving → r.target ≠ some e → (own = false ∨ other = true) →
      exec (.rail b) s = .next { s with
        rail := { turned with
          runUs := 0, overCount := 0, enable := true, driveIn := decide (e = .engaged)
          driveOut := decide (e = .retracted) }
        link := Link.reply (said .moving (some e) .reversed 0) 0x28#8 .accepted [] }) ∧
    (r.state = .moving → r.target ≠ some e → own = true → other = false →
      exec (.rail b) s = .next { s with
        rail := { r with
          state := e.state, target := none, origin := none, direction := none, runUs := 0, waitUs := 0
          settle := none, overCount := 0, reason := none, enable := false, driveIn := false
          driveOut := false }
        link := Link.reply
          ((said .moving (some e) .reversed 0).note
            (.railState e.state (some e) r.origin .arrived .none 0 r.supply) s.clock.ms)
          0x28#8 .accepted [] })) ∧
  (∀ s : State, s.Ready →
    let r := s.rail
    let st : RailState :=
      if r.ret then (if r.eng then .fault else .retracted) else if r.eng then .engaged else .unknown
    exec .railClear s = .next (
      if r.state = .fault then
        { s with
          rail := { r with
            state := st, target := none, origin := none, direction := none, runUs := 0, waitUs := 0
            settle := none, overCount := 0, reason := if st = .fault then some .switch else none
            enable := false, driveIn := false, driveOut := false }
          link := Link.reply
            (s.link.note (.railState st r.target r.origin .cleared (if st = .fault then .switch else .none)
              (r.runUs / 1000) r.supply) s.clock.ms)
            0x29#8 .ok [] }
      else { s with link := s.link.reply 0x29#8 .badState [] })) ∧
  (∀ (s : State) (w m : W16) (c v : Byte), s.Ready →
    exec (.setRail w m c v) s = .next (
      if 500 ≤ w.toNat ∧ w.toNat ≤ 30000 ∧ 300 ≤ m.toNat ∧ m.toNat ≤ 4000 ∧ 2 ≤ c.toNat ∧ c.toNat ≤ 30 ∧
          90 ≤ v.toNat ∧ v.toNat ≤ 115 then
        { s with
          rail := { s.rail with
            waitLimit := w.toNat, runLimit := m.toNat, currentLimit := 100 * c.toNat
            supplyMin := 100 * v.toNat }
          link := s.link.reply 0x2A#8 .ok [] }
      else { s with link := s.link.reply 0x2A#8 .badValue [] }))

/-- The settle's completion, the clear-wait expiry and the run limit: what each does when it is due; when it is not,
the row changes nothing (notes/assumptions/4.md). A return to an origin whose switch was lost or found changes the
state twice; whether the second notice carries the target, the origin and the run time of the move, or those the first
change left, is open (notes/assumptions/33.md). And the keyboard at the rail: the keyboard-clear condition (R21), and what a change of it
since it was `was` does (R110, R114): in WAIT_CLEAR and PAUSED a change to clear starts the settle at 0 and a change to
not clear stops it; in MOVING a change to not clear turns the motor off and pauses the move, its target, origin,
direction and run time kept, with RAIL_STATE cause PAUSE; nothing else acts on the rail. -/
def Obligations.RailTimersEndTheWaitAndTheMove : Prop :=
  (∀ u : State, keyboardClear u = true ↔ ∀ k : Key,
    (u.keys.get k).state = .offline ∨ (u.keys.get k).state = .fault ∨ (u.keys.get k).state = .rest ∨
      ((u.keys.get k).state = .arming ∧ (u.keys.get k).lastDepth < u.touch.lS1)) ∧
  (∀ (u : State) (was : Bool),
    let r := u.rail
    (keyboardClear u = was → noteKeyboard was u = u) ∧
    (keyboardClear u ≠ was →
      ((r.state = .waitClear ∨ r.state = .paused) →
        noteKeyboard was u = { u with rail := { r with settle := if was = false then some 0 else none } }) ∧
      (r.state = .moving → was = false → noteKeyboard was u = u) ∧
      (r.state = .moving → was = true →
        noteKeyboard was u = { u with
          rail := { r with
            state := .paused, overCount := 0, settle := none, enable := false, driveIn := false
            driveOut := false }
          link := u.link.note
            (.railState .paused r.target r.origin .pause .none (r.runUs / 1000) r.supply) u.clock.ms }) ∧
      ((r.state = .unknown ∨ r.state = .retracted ∨ r.state = .engaged ∨ r.state = .fault) →
        noteKeyboard was u = u))) ∧
  ∀ s : State, s.Steady →
    let r := s.rail
    let rest : RailState → Option FaultReason → Rail := fun st why =>
      { r with
        state := st, target := none, origin := none, direction := none, runUs := 0, waitUs := 0
        settle := none, overCount := 0, reason := why, enable := false, driveIn := false
        driveOut := false }
    let told : RailState → RailCause → RailReason → Link := fun st cause why =>
      s.link.notify (.railState st r.target r.origin cause why (r.runUs / 1000) r.supply) s.clock.ms
    let twice : Option RailEnd × Option RailOrigin × Nat → Prop := fun shown =>
      shown = (r.target, r.origin, r.runUs / 1000) ∨ shown = (none, none, 0)
    (((r.state ≠ .waitClear ∧ r.state ≠ .paused) ∨ r.settle = none ∨ (∃ n, r.settle = some n ∧ n < 50000)) →
      exec .settleComplete s = .next s) ∧
    (∀ (n : Nat) (e : RailEnd), (r.state = .waitClear ∨ r.state = .paused) → r.settle = some n → 50000 ≤ n →
      r.target = some e →
      let own := if e = .engaged then r.eng else r.ret
      let other := if e = .engaged then r.ret else r.eng
      (r.supplyMin ≤ r.supply → own = true → other = false →
        exec .settleComplete s = .next { s with rail := rest e.state none, link := told e.state .arrived .none }) ∧
      (∀ d, r.supplyMin ≤ r.supply → (own = false ∨ other = true) → r.direction = some d →
        exec .settleComplete s = .next { s with
          rail := { r with
            state := .moving, settle := none, overCount := 0
            runUs := if r.state = .waitClear then 0 else r.runUs
            enable := true, driveIn := decide (d = .inward), driveOut := decide (d = .outward) }
          link := s.link.notify
            (.railState .moving r.target r.origin (if r.state = .waitClear then .start else .resume) .none
              (if r.state = .waitClear then 0 else r.runUs / 1000) r.supply) s.clock.ms }) ∧
      (∀ og, r.supply < r.supplyMin → r.origin = some og →
        (og = .retracted → r.ret = true) → (og = .engaged → r.eng = true) →
        (og = .unknown → r.ret = r.eng) →
        exec .settleComplete s = .next { s with
          rail := rest og.state none, link := told og.state .failed .lowSupply }) ∧
      (∀ og, r.supply < r.supplyMin → r.origin = some og →
        (og = .retracted ∧ r.ret = false ∨ og = .engaged ∧ r.eng = false) →
        ∃ shown, twice shown ∧ exec .settleComplete s = .next { s with
          rail := rest .unknown none
          link := Link.notify
            (s.link.note (.railState og.state r.target r.origin .failed .lowSupply (r.runUs / 1000) r.supply)
              s.clock.ms)
            (.railState .unknown shown.1 shown.2.1 .switchLost .none shown.2.2 r.supply) s.clock.ms
          choices := s.choices + 1 }) ∧
      (∀ e' : RailEnd, r.supply < r.supplyMin → r.origin = some .unknown →
        (if e' = .engaged then r.eng else r.ret) = true → (if e' = .engaged then r.ret else r.eng) = false →
        ∃ shown, twice shown ∧ exec .settleComplete s = .next { s with
          rail := rest e'.state none
          link := Link.notify
            (s.link.note (.railState .unknown r.target r.origin .failed .lowSupply (r.runUs / 1000) r.supply)
              s.clock.ms)
            (.railState e'.state shown.1 shown.2.1 .found .none shown.2.2 r.supply) s.clock.ms
          choices := s.choices + 1 })) ∧
    ((r.state ≠ .waitClear ∨ r.waitUs < r.waitLimit * 1000) → exec .clearWaitExpiry s = .next s) ∧
    (∀ og, r.state = .waitClear → r.waitLimit * 1000 ≤ r.waitUs → r.origin = some og →
      ((og = .retracted → r.ret = true) → (og = .engaged → r.eng = true) → (og = .unknown → r.ret = r.eng) →
        exec .clearWaitExpiry s = .next { s with
          rail := rest og.state none, link := told og.state .failed .blocked }) ∧
      ((og = .retracted ∧ r.ret = false ∨ og = .engaged ∧ r.eng = false) →
        ∃ shown, twice shown ∧ exec .clearWaitExpiry s = .next { s with
          rail := rest .unknown none
          link := Link.notify
            (s.link.note (.railState og.state r.target r.origin .failed .blocked (r.runUs / 1000) r.supply)
              s.clock.ms)
            (.railState .unknown shown.1 shown.2.1 .switchLost .none shown.2.2 r.supply) s.clock.ms
          choices := s.choices + 1 }) ∧
      (∀ e : RailEnd, og = .unknown → (if e = .engaged then r.eng else r.ret) = true →
        (if e = .engaged then r.ret else r.eng) = false →
        ∃ shown, twice shown ∧ exec .clearWaitExpiry s = .next { s with
          rail := rest e.state none
          link := Link.notify
            (s.link.note (.railState .unknown r.target r.origin .failed .blocked (r.runUs / 1000) r.supply)
              s.clock.ms)
            (.railState e.state shown.1 shown.2.1 .found .none shown.2.2 r.supply) s.clock.ms
          choices := s.choices + 1 })) ∧
    ((r.state ≠ .moving ∨ r.runUs < r.runLimit * 1000) → exec .runLimitExpiry s = .next s) ∧
    (r.state = .moving → r.runLimit * 1000 ≤ r.runUs →
      exec .runLimitExpiry s = .next { s with
        rail := rest .fault (some .stall), link := told .fault .fault .stall })

/-- A rail measurement keeps the readings and counts the reads of each switch and the currents above the limit; the
twentieth such current in MOVING is the overcurrent fault, in the general row and in its own; a third consecutive
read of the other level changes a filtered level, which is then judged as a switch event; a limit already passed
expires at the measurement. In every case, the result is that of what falls due, taken in some order, each finding the
state the ones before it leave; which order is open (notes/assumptions/13.md). There each thing due is taken with CTS
held deasserted, and the transmitter chooses at the end: the things due are one step. The order draws one open choice
fewer than there are things due. -/
def Obligations.RailMeasurementsCountReads : Prop :=
  ∀ (s : State) (current supply : Nat) (eng ret : Bool), s.Steady →
    let r := s.rail
    let read : Rail := { r with
      current := current, supply := supply
      engRun := if eng = r.eng then 0 else r.engRun + 1
      retRun := if ret = r.ret then 0 else r.retRun + 1 }
    ((eng = r.eng ∨ r.engRun < 2) → (ret = r.ret ∨ r.retRun < 2) →
      (r.state ≠ .moving → (r.state = .waitClear → r.waitUs < r.waitLimit * 1000) →
        exec (.railMeasurement current supply eng ret) s = .next { s with rail := read } ∧
        exec (.overcurrentFault current supply eng ret) s = .next s) ∧
      (r.state = .moving → r.runUs < r.runLimit * 1000 →
        (current ≤ r.currentLimit →
          exec (.railMeasurement current supply eng ret) s =
            .next { s with rail := { read with overCount := 0 } } ∧
          exec (.overcurrentFault current supply eng ret) s = .next s) ∧
        (r.currentLimit < current → r.overCount < 19 →
          exec (.railMeasurement current supply eng ret) s =
            .next { s with rail := { read with overCount := r.overCount + 1 } } ∧
          exec (.overcurrentFault current supply eng ret) s = .next s) ∧
        (r.currentLimit < current → r.overCount = 19 →
          exec (.railMeasurement current supply eng ret) s =
            exec (.overcurrentFault current supply eng ret) s ∧
          exec (.overcurrentFault current supply eng ret) s = .next { s with
            rail := { read with
              state := .fault, target := none, origin := none, direction := none, runUs := 0, waitUs := 0
              settle := none, overCount := 0, reason := some .overcurrent, enable := false
              driveIn := false, driveOut := false }
            link := s.link.notify
              (.railState .fault r.target r.origin .fault .overcurrent (r.runUs / 1000) supply)
              s.clock.ms }))) ∧
    (ret = true → r.ret = false → r.retRun = 2 → eng = false → r.eng = false → r.state = .unknown →
      exec (.railMeasurement current supply eng ret) s = .next { s with
        rail := { read with
          state := .retracted, ret := true, retRun := 0, target := none, origin := none, direction := none
          runUs := 0, waitUs := 0, settle := none, overCount := 0, reason := none, enable := false
          driveIn := false, driveOut := false }
        link := s.link.notify (.railState .retracted r.target r.origin .found .none (r.runUs / 1000) supply)
          s.clock.ms }) ∧
    (let changes : Bool → Nat → Bool → Bool := fun level run now => decide (now ≠ level ∧ 2 ≤ run)
     let engOut := if changes r.eng r.engRun eng then eng else r.eng
     let retOut := if changes r.ret r.retRun ret then ret else r.ret
     let counted : Rail := { r with
       current := current, supply := supply
       engRun := if eng = r.eng ∨ changes r.eng r.engRun eng = true then 0 else r.engRun + 1
       retRun := if ret = r.ret ∨ changes r.ret r.retRun ret = true then 0 else r.retRun + 1
       overCount := if r.state = .moving then (if r.currentLimit < current then r.overCount + 1 else 0)
         else r.overCount }
     (r.state = .moving → counted.overCount < 20) →
     ((engOut ≠ r.eng ∨ retOut ≠ r.ret) → (r.state = .waitClear → r.waitUs < r.waitLimit * 1000) →
       (r.state = .moving → r.runUs < r.runLimit * 1000) →
       ∃ u, exec (.switchEvent engOut retOut) { s with rail := counted } = .next u ∧
         exec (.railMeasurement current supply eng ret) s = .next { u with
           rail := { u.rail with engRun := counted.engRun, retRun := counted.retRun } }) ∧
     (engOut = r.eng → retOut = r.ret →
       (r.state = .waitClear → r.waitLimit * 1000 ≤ r.waitUs →
         exec (.railMeasurement current supply eng ret) s = exec .clearWaitExpiry { s with rail := counted }) ∧
       (r.state = .moving → r.runLimit * 1000 ≤ r.runUs →
         exec (.railMeasurement current supply eng ret) s = exec .runLimitExpiry { s with rail := counted }))) ∧
    (let changes : Bool → Nat → Bool → Bool := fun level run now => decide (now ≠ level ∧ 2 ≤ run)
     let engOut := if changes r.eng r.engRun eng then eng else r.eng
     let retOut := if changes r.ret r.retRun ret then ret else r.ret
     let counted : Rail := { r with
       current := current, supply := supply
       engRun := if eng = r.eng ∨ changes r.eng r.engRun eng = true then 0 else r.engRun + 1
       retRun := if ret = r.ret ∨ changes r.ret r.retRun ret = true then 0 else r.retRun + 1
       overCount := if r.state = .moving then (if r.currentLimit < current then r.overCount + 1 else 0)
         else r.overCount }
     let overcurrent : State → State → Prop := fun u v =>
       v = if u.rail.state = .moving ∧ 20 ≤ u.rail.overCount then
         { u with
           rail := { u.rail with
             state := .fault, target := none, origin := none, direction := none, runUs := 0, waitUs := 0
             settle := none, overCount := 0, reason := some .overcurrent, enable := false, driveIn := false
             driveOut := false }
           link := u.link.note (.railState .fault u.rail.target u.rail.origin .fault .overcurrent
             (u.rail.runUs / 1000) u.rail.supply) u.clock.ms }
       else u
     let switches : State → State → Prop := fun u v => ∃ x, exec (.switchEvent engOut retOut) u = .next x ∧
       v = { x with rail := { x.rail with engRun := u.rail.engRun, retRun := u.rail.retRun } }
     let clearWait : State → State → Prop := fun u v => exec .clearWaitExpiry u = .next v
     let runLimit : State → State → Prop := fun u v => exec .runLimitExpiry u = .next v
     let due : List (State → State → Prop) :=
       (if r.state = .moving ∧ 20 ≤ counted.overCount then [overcurrent] else []) ++
         (if engOut ≠ r.eng ∨ retOut ≠ r.ret then [switches] else []) ++
         (if r.state = .waitClear ∧ r.waitLimit * 1000 ≤ r.waitUs then [clearWait] else []) ++
         (if r.state = .moving ∧ r.runLimit * 1000 ≤ r.runUs then [runLimit] else [])
     let inTurn : List (State → State → Prop) → State → State → Prop := fun es =>
       es.foldr (fun first others u v => ∃ x, first u x ∧ others x v) (fun u v => v = u)
     (∃ (order : List (State → State → Prop)) (v : State), order.Perm due ∧
       inTurn order
         { s with rail := counted, link := { s.link with cts := false }, choices := s.choices + (due.length - 1) } v ∧
       exec (.railMeasurement current supply eng ret) s = .next { v with
         link := Link.transmit { v.link with cts := s.link.cts } }) ∧
     exec (.overcurrentFault current supply eng ret) s =
       if r.state = .moving ∧ 20 ≤ counted.overCount then exec (.railMeasurement current supply eng ret) s
       else .next s)

/-- A change of the filtered switch levels in each state of the rail, with the levels it leaves. When one switch
deasserts and the other asserts at once, it is the deassertion and then the assertion. Both deasserting at once
outside FAULT is judged with both levels low (notes/assumptions/17.md, the model's reading). -/
def Obligations.SwitchEventsJudgeTheLevels : Prop :=
  ∀ (s : State) (eng ret : Bool), s.Steady →
    let r := s.rail
    let seen : Rail := { r with eng := eng, ret := ret, engRun := 0, retRun := 0 }
    let rest : RailState → Option FaultReason → Rail := fun st why =>
      { seen with
        state := st, target := none, origin := none, direction := none, runUs := 0, waitUs := 0
        settle := none, overCount := 0, reason := why, enable := false, driveIn := false
        driveOut := false }
    let told : RailState → RailCause → RailReason → Link := fun st cause why =>
      s.link.notify (.railState st r.target r.origin cause why (r.runUs / 1000) r.supply) s.clock.ms
    let run := exec (.switchEvent eng ret) s
    (eng = r.eng → ret = r.ret → run = .next s) ∧
    ((eng ≠ r.eng ∨ ret ≠ r.ret) →
      (r.state = .fault → run = .next { s with rail := seen }) ∧
      (r.state ≠ .fault → eng = true → ret = true →
        run = .next { s with rail := rest .fault (some .switch), link := told .fault .fault .switch }) ∧
      (r.state = .retracted → r.ret = true → ret = false → eng = r.eng →
        run = .next { s with rail := rest .unknown none, link := told .unknown .switchLost .none }) ∧
      (r.state = .engaged → r.eng = true → eng = false → ret = r.ret →
        run = .next { s with rail := rest .unknown none, link := told .unknown .switchLost .none }) ∧
      (∀ e : RailEnd, eng = decide (e = .engaged) → ret = decide (e = .retracted) →
        r.eng = false → r.ret = false →
        (r.state = .unknown →
          run = .next { s with rail := rest e.state none, link := told e.state .found .none }) ∧
        ((r.state = .moving ∨ r.state = .paused ∨ r.state = .waitClear ∧ r.origin = some .unknown) →
          r.target = some e →
          run = .next { s with rail := rest e.state none, link := told e.state .arrived .none }) ∧
        ((r.state = .moving ∨ r.state = .paused) → r.target ≠ some e → run = .next { s with rail := seen }) ∧
        (r.state = .waitClear → r.origin = some .unknown → r.target ≠ some e →
          run = .next { s with
            rail := { seen with origin := some e.origin }
            link := s.link.notify
              (.railState .waitClear r.target (some e.origin) .found .none (r.runUs / 1000) r.supply)
              s.clock.ms }) ∧
        (r.state = .waitClear → r.origin ≠ some .unknown → run = .next { s with rail := seen })) ∧
      (∀ e : RailEnd, r.eng = decide (e = .engaged) → r.ret = decide (e = .retracted) →
        eng = false → ret = false →
        ((r.state = .moving ∨ r.state = .paused ∨ r.state = .unknown) → run = .next { s with rail := seen }) ∧
        (r.state = .waitClear → r.origin = some e.origin →
          run = .next { s with
            rail := { seen with origin := some .unknown }
            link := s.link.notify
              (.railState .waitClear r.target (some .unknown) .switchLost .none (r.runUs / 1000) r.supply)
              s.clock.ms }) ∧
        (r.state = .waitClear → r.origin ≠ some e.origin → run = .next { s with rail := seen })) ∧
      (eng ≠ r.eng → ret ≠ r.ret → eng ≠ ret →
        ∃ u, exec (.switchEvent false false) s = .next u ∧ run = exec (.switchEvent eng ret) u) ∧
      (r.eng = true → r.ret = true → eng = false → ret = false → r.state ≠ .fault →
        run = .next (
          if r.state = .retracted ∨ r.state = .engaged then
            { s with rail := rest .unknown none, link := told .unknown .switchLost .none }
          else if r.state = .waitClear ∧ (r.origin = some .retracted ∨ r.origin = some .engaged) then
            { s with
              rail := { seen with origin := some .unknown }
              link := s.link.notify
                (.railState .waitClear r.target (some .unknown) .switchLost .none (r.runUs / 1000) r.supply)
                s.clock.ms }
          else { s with rail := seen })))

/-- The law of the rail (section 7.1) is kept by every step; and a step that enters MOVING does so from a settle that
has run for 50 ms in WAIT_CLEAR or PAUSED, with the keyboard clear (R104). -/
def Obligations.StepsKeepTheRailLaw : Prop :=
  ∀ s t : State, RailLaw s → step s = .next t →
    RailLaw t ∧
      (s.rail.state ≠ .moving → t.rail.state = .moving →
        (s.rail.state = .waitClear ∨ s.rail.state = .paused) ∧ keyboardClear s = true ∧
          ∃ n, s.rail.settle = some n ∧ 50000 ≤ n)

/-! ### Take memory, the Recorder and the bulk writer -/

/-- RECORD_START, the writing of a delivered event, the gap timer and RECORD_STOP, with room and without; an event or
a stop that finds gap expiries overdue takes those first (notes/assumptions/6.md). Beneath it the writing context: the
record an event is written as, or that it is discarded (R132); what a written record does to the context (R127); the
closing reserve and a take's free slots (R128, R124); the closing sequence, its first record with the delta to the
closing time and the others with 0 (R129), which, given its reserve of free slots, adds exactly its records. What
`append` does is stated in BulkWriterFillsATake. -/
def Obligations.RecordingStartsWritesAndStops : Prop :=
  (∀ (c : WriteCtx) (kind : EventKind), c.bodyOf kind = match kind with
    | .noteOn k v rep => some (.noteOn k v rep)
    | .noteOff k _ => if c.openKeys.get k = true then some (.noteOff k) else none
    | .silentPress k => some (.silentPress k)
    | .damper v => some (.damper v)
    | .soft v => some (.soft v)
    | .sostOn => if c.sost = true then none else some .sostOn
    | .sostOff => if c.sost = true then some .sostOff else none) ∧
  (∀ (c : WriteCtx) (time : Nat) (b : Body), c.write time b = match b with
    | .noteOn k _ _ | .silentPress k =>
      { c with last := time, openKeys := c.openKeys.set k.val true k.isLt }
    | .noteOff k => { c with last := time, openKeys := c.openKeys.set k.val false k.isLt }
    | .damper v => { c with last := time, damper := v }
    | .soft v => { c with last := time, soft := v }
    | .sostOn => { c with last := time, sost := true }
    | .sostOff => { c with last := time, sost := false }
    | .gap => { c with last := time }) ∧
  (∀ c : WriteCtx, c.reserve =
    ((List.finRange 88).filter fun k => c.openKeys.get k).length + (if c.damper = 0 then 0 else 1) +
      (if c.soft = 0 then 0 else 1) + (if c.sost = true then 1 else 0)) ∧
  (∀ (st : Store) (t : TakeId), st.takeFree t =
    (if (st.entry t).tail = none then 0 else 64 - (st.entry t).fill) + 64 * st.free.length) ∧
  (∀ (t : TakeId) (time : Nat) (st : Store) (c : WriteCtx),
    let closing : List Body :=
      (((List.finRange 88).filter fun k => c.openKeys.get k).map fun k => .noteOff k) ++
        (if c.damper ≠ 0 then [.damper 0] else []) ++ (if c.soft ≠ 0 then [.soft 0] else []) ++
        (if c.sost then [.sostOff] else [])
    closeTake t time st c = match closing with
      | [] => st
      | b :: bs => bs.foldl (fun u x => u.append t ⟨0, x⟩) (st.append t ⟨time - c.last, b⟩)) ∧
  (∀ (s : State) (b mode : Byte), s.Ready → (15 < b.toNat ∨ 1 < mode.toNat) →
    exec (.recordStart b mode) s = .next { s with link := s.link.reply 0x30#8 .badValue [] }) ∧
  (∀ (s : State) (b mode : Byte) (t : TakeId), s.Ready → t.val = b.toNat → mode.toNat ≤ 1 →
    let e := s.store.entry t
    let free := s.recorder = none ∧ s.bulk = none ∧ e.played = false ∧ e.read = false ∧
      e.state ≠ .recording ∧ e.state ≠ .writing ∧ e.state ≠ .editing
    let off := if mode = 0#8 then 0 else e.duration
    (¬free → exec (.recordStart b mode) s = .next { s with link := s.link.reply 0x30#8 .takeBusy [] }) ∧
    (free → e.state ≠ (if mode = 0#8 then .empty else .ready) →
      exec (.recordStart b mode) s = .next { s with link := s.link.reply 0x30#8 .badState [] }) ∧
    (free → e.state = (if mode = 0#8 then .empty else .ready) →
      exec (.recordStart b mode) s = .next { s with
        store := s.store.withEntry t { e with state := .recording }
        recorder := some ⟨t, 0, off, ⟨KeySet.none, 0, 0, false, off⟩⟩
        link := s.link.reply 0x30#8 .ok [] })) ∧
  (∀ (s : State) (ev : Event) (r : Recording), s.recorder = some r →
    let time := max ((r.clock - (s.clock.us - ev.stamp).toNat) / 1000 + r.offset) r.ctx.last
    (r.ctx.bodyOf ev.kind = none → recorderEvent ev s = s) ∧
    (∀ b, r.ctx.bodyOf ev.kind = some b → time ≤ r.ctx.last + 65535 →
      1 + (r.ctx.write time b).reserve ≤ s.store.takeFree r.take →
      recorderEvent ev s = { s with
        store := s.store.append r.take ⟨time - r.ctx.last, b⟩
        recorder := some { r with ctx := r.ctx.write time b } }) ∧
    (∀ b, r.ctx.bodyOf ev.kind = some b → time ≤ r.ctx.last + 65535 →
      s.store.takeFree r.take < 1 + (r.ctx.write time b).reserve →
      recorderEvent ev s =
        let st := (closeTake r.take time s.store r.ctx).setState r.take .ready
        { s with
          store := st, recorder := none
          link := s.link.note
            (.recordEnd r.take .full (st.entry r.take).count (st.entry r.take).duration) s.clock.ms }) ∧
    (∀ b, r.ctx.bodyOf ev.kind = some b → r.ctx.last + 65535 < time →
      (1 + r.ctx.reserve ≤ s.store.takeFree r.take →
        recorderEvent ev s = recorderEvent ev { s with
          store := s.store.append r.take ⟨65535, .gap⟩
          recorder := some { r with ctx := { r.ctx with last := r.ctx.last + 65535 } } }) ∧
      (s.store.takeFree r.take < 1 + r.ctx.reserve →
        recorderEvent ev s =
          let st := (closeTake r.take (r.ctx.last + 65535) s.store r.ctx).setState r.take .ready
          { s with
            store := st, recorder := none
            link := s.link.note
              (.recordEnd r.take .full (st.entry r.take).count (st.entry r.take).duration) s.clock.ms }))) ∧
  (∀ s : State, s.recorder = none → ∀ ev, recorderEvent ev s = s) ∧
  (∀ s : State, s.Steady → (∀ r, s.recorder = some r → r.clock / 1000 + r.offset < r.ctx.last + 65535) →
    exec .gapTimerExpiry s = .next s) ∧
  (∀ (s : State) (r : Recording), s.Steady → s.recorder = some r →
    r.ctx.last + 65535 ≤ r.clock / 1000 + r.offset →
    (1 + r.ctx.reserve ≤ s.store.takeFree r.take →
      exec .gapTimerExpiry s = .next { s with
        store := s.store.append r.take ⟨65535, .gap⟩
        recorder := some { r with ctx := { r.ctx with last := r.ctx.last + 65535 } } }) ∧
    (s.store.takeFree r.take < 1 + r.ctx.reserve →
      let st := (closeTake r.take (r.ctx.last + 65535) s.store r.ctx).setState r.take .ready
      exec .gapTimerExpiry s = .next { s with
        store := st, recorder := none
        link := s.link.notify
          (.recordEnd r.take .full (st.entry r.take).count (st.entry r.take).duration) s.clock.ms })) ∧
  (∀ s : State, s.Ready → s.recorder = none →
    exec .recordStop s = .next { s with link := s.link.reply 0x31#8 .badState [] }) ∧
  (∀ (s : State) (r : Recording), s.Ready → s.recorder = some r →
    r.clock / 1000 + r.offset ≤ r.ctx.last + 65535 →
    let st := (closeTake r.take (r.clock / 1000 + r.offset) s.store r.ctx).setState r.take .ready
    exec .recordStop s = .next { s with
      store := st, recorder := none
      link := Link.reply (s.link.note
        (.recordEnd r.take .stopped (st.entry r.take).count (st.entry r.take).duration) s.clock.ms)
        0x31#8 .ok [] }) ∧
  (∀ (s : State) (r : Recording), s.Ready → s.recorder = some r →
    r.ctx.last + 65535 < r.clock / 1000 + r.offset →
    (1 + r.ctx.reserve ≤ s.store.takeFree r.take →
      exec .recordStop s = exec .recordStop { s with
        store := s.store.append r.take ⟨65535, .gap⟩
        recorder := some { r with ctx := { r.ctx with last := r.ctx.last + 65535 } } }) ∧
    (s.store.takeFree r.take < 1 + r.ctx.reserve →
      let st := (closeTake r.take (r.ctx.last + 65535) s.store r.ctx).setState r.take .ready
      exec .recordStop s = .next { s with
        store := st, recorder := none
        link := Link.reply (s.link.note
          (.recordEnd r.take .full (st.entry r.take).count (st.entry r.take).duration) s.clock.ms)
          0x31#8 .badState [] })) ∧
  (∀ (t : TakeId) (time : Nat) (st : Store) (c : WriteCtx), (st.entry t).fill ≤ 64 →
    c.reserve ≤ st.takeFree t →
    let st' := closeTake t time st c
    (st'.entry t).count = (st.entry t).count + c.reserve ∧
      (st'.entry t).duration = (st.entry t).duration + (if c.reserve = 0 then 0 else time - c.last) ∧
      st'.takeFree t + c.reserve = st.takeFree t ∧ ∀ u, u ≠ t → st'.entry u = st.entry u)

/-- TAKE_OPEN, TAKE_WRITE and TAKE_CLOSE. The records of a TAKE_WRITE are judged in order, each against the context the
ones before it leave: which are invalid (R137, R192), by their bytes and by that context, and what the others hold. The
closing sequence of TAKE_CLOSE stands at the last time, every delta 0 (R138). And what `append` does to a store that
keeps the law of blocks and has room (R123, R124): the take reads as before with the new record at its end, in a block
from the head of the free list when it has no tail block or a full one; no other take changes. Each record TAKE_READ
can carry is admitted by TAKE_WRITE as the same record. -/
def Obligations.BulkWriterFillsATake : Prop :=
  (∀ c : WriteCtx, checkRecords c [] = some ([], c)) ∧
  (∀ (c : WriteCtx) (raw : RawRecord) (rs : List RawRecord),
    let head := raw.head.toNat
    let key : Option Key := if h : raw.third.toNat < 88 then some ⟨raw.third.toNat, h⟩ else none
    let held : Bool := match key with
      | some k => c.openKeys.get k
      | none => false
    let velocity := raw.fourth.toNat
    let delta := raw.delta.toNat
    let valid : Option Body :=
      if head / 16 % 8 ≠ 0 then none
      else if head % 16 ≠ 0 ∧ 128 ≤ head then none
      else match head % 16 with
        | 0 => if 1 ≤ velocity ∧ velocity ≤ 127 then key.map fun k => .noteOn k velocity (decide (128 ≤ head))
          else none
        | 1 => if held = true then key.map fun k => .noteOff k else none
        | 2 => key.map fun k => .silentPress k
        | 3 => some (.damper raw.third.toNat)
        | 4 => some (.soft raw.third.toNat)
        | 5 => if c.sost = true then none else some .sostOn
        | 6 => if c.sost = true then some .sostOff else none
        | 7 => if delta = 65535 then some .gap else none
        | _ => none
    (valid = none → checkRecords c (raw :: rs) = none) ∧
    (∀ b, valid = some b → checkRecords c (raw :: rs) =
      (checkRecords (c.write (c.last + delta) b) rs).map fun x => (⟨delta, b⟩ :: x.1, x.2))) ∧
  (∀ (t : TakeId) (st : Store) (c : WriteCtx),
    let closing : List Body :=
      (((List.finRange 88).filter fun k => c.openKeys.get k).map fun k => .noteOff k) ++
        (if c.damper ≠ 0 then [.damper 0] else []) ++ (if c.soft ≠ 0 then [.soft 0] else []) ++
        (if c.sost then [.sostOff] else [])
    closeTake t c.last st c = closing.foldl (fun u x => u.append t ⟨0, x⟩) st) ∧
  (∀ (st : Store) (t : TakeId) (r : Record), st.BlockLaw → 1 ≤ st.takeFree t →
    let e := st.entry t
    let u := st.append t r
    let grows : Prop := e.tail = none ∨ e.fill = 64
    u.record t e.count = r ∧ (∀ i, i < e.count → u.record t i = st.record t i) ∧
    (∀ o, o ≠ t → u.entry o = st.entry o ∧ u.chain o = st.chain o ∧ ∀ i, u.record o i = st.record o i) ∧
    (¬grows → u.chain t = st.chain t ∧ u.free = st.free ∧ u.links = st.links ∧
      u.entry t = { e with count := e.count + 1, duration := e.duration + r.delta, fill := e.fill + 1 }) ∧
    (grows → ∃ b, st.free = b :: u.free ∧ u.chain t = st.chain t ++ [b] ∧
      (∀ j : Fin 512, u.links.get j =
        if e.tail = some j.val then some b else if j.val = b then none else st.links.get j) ∧
      u.entry t = { e with
        count := e.count + 1, duration := e.duration + r.delta, head := some (e.head.getD b), tail := some b
        fill := 1 })) ∧
  (∀ (s : State) (b : Byte), s.Ready → 15 < b.toNat →
    exec (.takeOpen b) s = .next { s with link := s.link.reply 0x34#8 .badValue [] }) ∧
  (∀ (s : State) (b : Byte) (t : TakeId), s.Ready → t.val = b.toNat →
    exec (.takeOpen b) s = .next (
      if s.recorder.isSome = true ∨ s.bulk.isSome = true then
        { s with link := s.link.reply 0x34#8 .takeBusy [] }
      else if (s.store.entry t).state = .empty then
        { s with
          store := s.store.withEntry t { s.store.entry t with state := .writing }
          bulk := some ⟨t, 0, ⟨KeySet.none, 0, 0, false, 0⟩⟩, link := s.link.reply 0x34#8 .ok [] }
      else { s with link := s.link.reply 0x34#8 .badState [] })) ∧
  (∀ (s : State) (b n : Byte) (rs : List RawRecord), s.Ready → rs.length = n.toNat → 1 ≤ n.toNat →
    n.toNat ≤ 10 →
    ((∀ w, s.bulk = some w → w.take.val ≠ b.toNat) →
      exec (.takeWrite b n rs) s = .next { s with link := s.link.reply 0x35#8 .badState [] }) ∧
    (∀ w, s.bulk = some w → w.take.val = b.toNat →
      (checkRecords w.ctx rs = none →
        exec (.takeWrite b n rs) s = .next { s with link := s.link.reply 0x35#8 .badValue [] }) ∧
      (∀ recs ctx, checkRecords w.ctx rs = some (recs, ctx) →
        exec (.takeWrite b n rs) s = .next (
          if n.toNat + ctx.reserve ≤ s.store.takeFree w.take then
            { s with
              store := recs.foldl (fun st r => st.append w.take r) s.store
              bulk := some { w with cursor := w.cursor + n.toNat, ctx := ctx }
              link := s.link.reply 0x35#8 .ok [] }
          else { s with link := s.link.reply 0x35#8 .noRoom [] })))) ∧
  (∀ (s : State) (b : Byte), s.Ready →
    ((∀ w, s.bulk = some w → w.take.val ≠ b.toNat) →
      exec (.takeClose b) s = .next { s with link := s.link.reply 0x36#8 .badState [] }) ∧
    (∀ w, s.bulk = some w → w.take.val = b.toNat →
      exec (.takeClose b) s = .next { s with
        store := (closeTake w.take w.ctx.last s.store w.ctx).setState w.take .ready
        bulk := none, link := s.link.reply 0x36#8 .ok [] })) ∧
  (∀ r : Record, r.delta ≤ 65535 →
    (match r.body with
      | .noteOn _ v _ => 1 ≤ v ∧ v ≤ 127
      | .damper v | .soft v => v ≤ 255
      | .gap => r.delta = 65535
      | _ => True) →
    ∃ raw, raw.bytes = r.bytes ∧ parseRecord raw = some r)

/-- TAKE_READ, TAKE_INFO and TAKE_ERASE; and the five bytes of a record on the link (R192). -/
def Obligations.TakeCommandsReadReportAndErase : Prop :=
  (∀ r : Record, r.bytes =
    let all : Nat → Nat → Nat → List Byte := fun head third fourth =>
      [BitVec.ofNat 8 head, BitVec.ofNat 8 r.delta, BitVec.ofNat 8 (r.delta / 256), BitVec.ofNat 8 third,
        BitVec.ofNat 8 fourth]
    match r.body with
    | .noteOn k v rep => all (if rep then 128 else 0) k.val v
    | .noteOff k => all 1 k.val 0
    | .silentPress k => all 2 k.val 0
    | .damper v => all 3 v 0
    | .soft v => all 4 v 0
    | .sostOn => all 5 0 0
    | .sostOff => all 6 0 0
    | .gap => all 7 0 0) ∧
  (∀ (s : State) (b : Byte) (start : W16) (n : Byte), s.Ready →
    ((15 < b.toNat ∨ n = 0#8 ∨ 10 < n.toNat) →
      exec (.takeRead b start n) s = .next { s with link := s.link.reply 0x37#8 .badValue [] }) ∧
    (∀ t : TakeId, t.val = b.toNat → 1 ≤ n.toNat → n.toNat ≤ 10 →
      exec (.takeRead b start n) s = .next { s with
        link :=
          if (s.store.entry t).state ≠ .ready then s.link.reply 0x37#8 .badState []
          else if (s.store.entry t).count ≤ start.toNat then s.link.reply 0x37#8 .badValue []
          else
            let m := min n.toNat ((s.store.entry t).count - start.toNat)
            s.link.reply 0x37#8 .ok
              (BitVec.ofNat 8 m ::
                (le32 (BitVec.ofNat 32
                    (((List.range (start.toNat + 1)).map fun i => (s.store.record t i).delta).sum)) ++
                  (List.range m).flatMap fun j => (s.store.record t (start.toNat + j)).bytes)) })) ∧
  (∀ (s : State) (b : Byte), s.Ready →
    (15 < b.toNat → exec (.takeInfo b) s = .next { s with link := s.link.reply 0x32#8 .badValue [] } ∧
      exec (.takeErase b) s = .next { s with link := s.link.reply 0x33#8 .badValue [] }) ∧
    (∀ t : TakeId, t.val = b.toNat →
      let e := s.store.entry t
      let reserve := match e.state with
        | .recording => ((s.recorder.filter fun r => r.take = t).map fun r => r.ctx.reserve).getD 0
        | .writing => ((s.bulk.filter fun w => w.take = t).map fun w => w.ctx.reserve).getD 0
        | _ => 0
      let block : Option Nat → List Byte := fun o => le16 (BitVec.ofNat 16 (o.getD 0xFFFF))
      exec (.takeInfo b) s = .next { s with
        link := s.link.reply 0x32#8 .ok
          (b8 e.state.code :: (le16 (BitVec.ofNat 16 e.count) ++ le32 (BitVec.ofNat 32 e.duration) ++
            block e.head ++ block e.tail ++
            [b8 e.fill, b8 ((if e.played then 1 else 0) + (if e.read then 2 else 0))] ++
            le16 (BitVec.ofNat 16 (s.store.chain t).length) ++
            le16 (BitVec.ofNat 16 ((if e.tail.isSome then 64 - e.fill else 0) + 64 * s.store.free.length)) ++
            [b8 reserve])) } ∧
      ((e.played = true ∨ e.read = true ∨ e.state = .recording ∨ e.state = .writing ∨ e.state = .editing) →
        exec (.takeErase b) s = .next { s with link := s.link.reply 0x33#8 .takeBusy [] }) ∧
      (e.played = false → e.read = false → e.state = .empty →
        exec (.takeErase b) s = .next { s with link := s.link.reply 0x33#8 .ok [] }) ∧
      (e.played = false → e.read = false → e.state = .ready →
        ∃ u, exec (.takeErase b) s = .next u ∧
          u.store.entry t = ⟨.empty, 0, 0, none, none, 0, false, false⟩ ∧
          (∀ o, o ≠ t → u.store.entry o = s.store.entry o) ∧
          u.store.free = s.store.free ++ s.store.chain t ∧
          (∀ i : Fin 512, u.store.links.get i =
            if i.val ∈ s.store.chain t then none else s.store.links.get i) ∧
          u = { s with
            store := { s.store with free := u.store.free, links := u.store.links, takes := u.store.takes }
            link := s.link.reply 0x33#8 .ok [] })))

/-- The law of take use (R125), with what keeps it, is kept by every step; and with it the law of blocks (R123), which
a running copy's rollback restores (R171), and the law of balanced takes (R127), with the closing reserve that always
fits (R128). -/
def Obligations.StepsKeepTheLawOfTakeUse : Prop :=
  ∀ s t : State, TakeLaw s → step s = .next t →
    TakeLaw t ∧
    (s.store.BlockLaw → SavedLaw s →
      t.store.BlockLaw ∧ SavedLaw t ∧ (BalanceLaw s → BalanceLaw t))

/-! ### The Player -/

/-- PLAY, STOP, PAUSE, RESUME and LOCATE: when each is refused, and else the player context it leaves, the expected
set, the recent presses, the flags of the takes, the engine's PLAYBACK damper and keys. And, as the whole next state,
the events each hands the Router in order (the chase, the closing events, the reposition), of source PLAYBACK and
stamped with the time of the step; the MARKER notices of a position set while PLAYING; the PLAYER_STATE notice; the
reply. Beneath them what a take holds at a time (R126, R143, R144): a record's take time, the first record at a time or
later, the pedal state the records before a time leave. -/
def Obligations.PlayerCommandsMoveThePlayer : Prop :=
  let route : EventKind → State → State := fun kind s => routeEvent ⟨.playback, s.clock.us, kind⟩ s
  let routeAll : List EventKind → State → State := fun ks s => ks.foldl (fun u k => route k u) s
  let told : State → NoticeBody → State := fun s n => { s with link := s.link.note n s.clock.ms }
  let owed : State → Nat := fun s => ((List.finRange 88).filter fun k => s.guide.expected.get k).length
  let markersAt : Nat → State → State → Prop := fun time s t =>
    ∃ ms : List (Fin 4), ms.Pairwise (fun x y => x < y) ∧
      (∀ i, i ∈ ms ↔ s.player.markers.get i = some time) ∧
      t = ms.foldl (fun u i => told u (.marker i.val time)) s
  let offs : State → List EventKind := fun s =>
    ((List.finRange 88).filter fun k => s.player.openKeys.get k).map fun k => .noteOff k false
  let closing : State → List EventKind := fun s =>
    offs s ++ (if s.player.emitted.damper ≠ 0 then [.damper 0] else []) ++
      (if s.player.emitted.soft ≠ 0 then [.soft 0] else []) ++ (if s.player.emitted.sost then [.sostOff] else [])
  let chase : Pedals3 → List EventKind := fun p =>
    (if p.damper ≠ 0 then [.damper p.damper] else []) ++ (if p.soft ≠ 0 then [.soft p.soft] else []) ++
      (if p.sost then [.sostOn] else [])
  let bring : Pedals3 → Pedals3 → List EventKind := fun old now =>
    (if old.damper ≠ now.damper then [.damper now.damper] else []) ++
      (if old.soft ≠ now.soft then [.soft now.soft] else []) ++
      (if old.sost then [.sostOff] else []) ++ (if now.sost then [.sostOn] else [])
  let silenced : State → State := fun s =>
    let u := routeAll (closing s) { s with player := { s.player with
      openKeys := Vector.replicate 88 false, emitted := ⟨0, 0, false⟩ } }
    { u with
      engine := { u.engine with playback := { u.engine.playback with damper := 0 } }
      guide := { u.guide with expected := Vector.replicate 88 false } }
  let replied : State → Byte → State := fun s code => { s with link := s.link.reply code .ok [] }
  (∀ (st : Store) (t : TakeId) (T : Nat),
    let time : Nat → Nat := fun i => ((List.range (i + 1)).map fun j => (st.record t j).delta).sum
    st.timed t = (List.range (st.entry t).count).map (fun i => (time i, st.record t i)) ∧
    st.indexAt t T ≤ (st.entry t).count ∧ (∀ i, i < st.indexAt t T → time i < T) ∧
    (st.indexAt t T < (st.entry t).count → T ≤ time (st.indexAt t T)) ∧
    st.scan t T = ((st.timed t).filter fun x => decide (x.1 < T)).foldl
      (fun p x => match x.2.body with
        | .damper v => { p with damper := v }
        | .soft v => { p with soft := v }
        | .sostOn => { p with sost := true }
        | .sostOff => { p with sost := false }
        | .noteOn .. | .noteOff _ | .silentPress _ | .gap => p) ⟨0, 0, false⟩) ∧
  (∀ (s : State) (b : Byte) (ms : W32) (tk : TakeId), s.Ready → tk.val = b.toNat → s.player.state = .stopped →
    (s.store.entry tk).state = .ready → ms.toNat ≤ (s.store.entry tk).duration →
    (∀ l, s.player.loop = some l → l.2 ≤ (s.store.entry tk).duration) →
    let pedals := s.store.scan tk ms.toNat
    let started : State := { s with
      store := s.store.withEntry tk { s.store.entry tk with played := true }
      player := { s.player with
        state := .playing, take := some tk, acc := ms.toNat * 256
        cursor := s.store.indexAt tk ms.toNat, openKeys := Vector.replicate 88 false
        takePedals := pedals, emitted := pedals
        passIndex := 0, passNumber := 1
        passKind := if 0 < s.player.listen then .listen else .practice
        snapshot := match s.player.loop with
          | some l => s.store.scan tk l.1
          | none => s.player.snapshot
        armed := match s.player.loop with
          | some l => decide (ms.toNat < l.2)
          | none => false } }
    ∃ u, markersAt ms.toNat (routeAll (chase pedals) started) u ∧
      exec (.play b ms) s =
        .next (replied (told u (.playerState .playing (some tk) .play ms.toNat (owed u))) 0x40#8)) ∧
  (∀ (s : State) (tk : TakeId), s.Ready → s.player.take = some tk →
    (s.player.state ≠ .stopped →
      let u := silenced s
      exec .stop s = .next (replied (told { u with
          router := { u.router with recent := [] }
          store := u.store.withEntry tk { u.store.entry tk with played := false }
          player := { u.player with take := none, state := .stopped } }
        (.playerState .stopped (some tk) .stop (s.player.acc / 256) 0)) 0x41#8)) ∧
    ((s.player.state = .playing ∨ s.player.state = .waiting) →
      let u := silenced s
      exec .pause s = .next (replied (told { u with player := { u.player with state := .paused } }
        (.playerState .paused (some tk) .pause (s.player.acc / 256) 0)) 0x42#8)) ∧
    (s.player.state = .paused →
      let u := routeAll (chase s.player.takePedals)
        { s with player := { s.player with emitted := s.player.takePedals } }
      exec .resume s = .next (replied (told { u with player := { u.player with state := .playing } }
        (.playerState .playing (some tk) .resume (s.player.acc / 256) (owed s))) 0x43#8)) ∧
    (∀ T : W32, T.toNat ≤ (s.store.entry tk).duration →
      (s.player.state = .playing ∨ s.player.state = .waiting) →
      let pedals := s.store.scan tk T.toNat
      let moved := routeAll (offs s ++ bring s.player.emitted pedals) { s with player := { s.player with
        openKeys := Vector.replicate 88 false, acc := T.toNat * 256, cursor := s.store.indexAt tk T.toNat
        takePedals := pedals, emitted := pedals } }
      ∃ u, markersAt T.toNat { moved with
          guide := { moved.guide with expected := Vector.replicate 88 false }
          player := { moved.player with
            state := .playing
            armed := match s.player.loop with
              | some l => decide (T.toNat < l.2)
              | none => false } } u ∧
        exec (.locate T) s =
          .next (replied (told u (.playerState .playing (some tk) .locate T.toNat 0)) 0x44#8))) ∧
  (∀ (s : State) (b : Byte) (ms : W32), s.Ready →
    (15 < b.toNat → exec (.play b ms) s = .next { s with link := s.link.reply 0x40#8 .badValue [] }) ∧
    (∀ tk : TakeId, tk.val = b.toNat →
      let e := s.store.entry tk
      let writing := e.state = .recording ∨ e.state = .writing ∨ e.state = .editing
      let fits := ms.toNat ≤ e.duration ∧ ∀ l, s.player.loop = some l → l.2 ≤ e.duration
      (s.player.state ≠ .stopped →
        exec (.play b ms) s = .next { s with link := s.link.reply 0x40#8 .badState [] }) ∧
      (s.player.state = .stopped → writing →
        exec (.play b ms) s = .next { s with link := s.link.reply 0x40#8 .takeBusy [] }) ∧
      (s.player.state = .stopped → e.state = .empty →
        exec (.play b ms) s = .next { s with link := s.link.reply 0x40#8 .badState [] }) ∧
      (s.player.state = .stopped → e.state = .ready → ¬fits →
        exec (.play b ms) s = .next { s with link := s.link.reply 0x40#8 .badValue [] }) ∧
      (s.player.state = .stopped → e.state = .ready → fits →
        ∃ t, exec (.play b ms) s = .next t ∧ t.link.Answered 0x40#8 .ok [] ∧
          t.player = { s.player with
            state := .playing, take := some tk, acc := ms.toNat * 256
            cursor := s.store.indexAt tk ms.toNat, openKeys := KeySet.none
            takePedals := s.store.scan tk ms.toNat, emitted := s.store.scan tk ms.toNat
            passIndex := 0, passNumber := 1
            passKind := if 0 < s.player.listen then .listen else .practice
            snapshot := match s.player.loop with
              | some l => s.store.scan tk l.1
              | none => s.player.snapshot
            armed := match s.player.loop with
              | some l => decide (ms.toNat < l.2)
              | none => false } ∧
          ((∀ r, s.recorder = some r → r.take ≠ tk) → t.store.entry tk = { e with played := true }) ∧
          (∀ u, u ≠ tk → (∀ r, s.recorder = some r → r.take ≠ u) → t.store.entry u = s.store.entry u) ∧
          t.guide = s.guide ∧ t.router = s.router ∧ s.OutsidePlayer t))) ∧
  (∀ s : State, s.Ready →
    (s.player.state = .stopped →
      exec .stop s = .next { s with link := s.link.reply 0x41#8 .badState [] } ∧
      exec .pause s = .next { s with link := s.link.reply 0x42#8 .badState [] } ∧
      ∀ T, exec (.locate T) s = .next { s with link := s.link.reply 0x44#8 .badState [] }) ∧
    (s.player.state ≠ .stopped →
      ∃ t, exec .stop s = .next t ∧ t.link.Answered 0x41#8 .ok [] ∧
        t.player = { s.player with
          state := .stopped, take := none, openKeys := KeySet.none, emitted := ⟨0, 0, false⟩ } ∧
        t.guide.expected = KeySet.none ∧ t.router.recent = [] ∧
        (∀ tk, s.player.take = some tk → (t.store.entry tk).played = false) ∧
        t.engine.playback.damper = 0 ∧
        (∀ k, t.engine.playback.down.mem k = true →
          s.engine.playback.down.mem k = true ∧ s.player.openKeys.mem k = false) ∧
        s.OutsidePlayer t) ∧
    (s.player.state = .paused → exec .pause s = .next { s with link := s.link.reply 0x42#8 .ok [] }) ∧
    ((s.player.state = .playing ∨ s.player.state = .waiting) →
      ∃ t, exec .pause s = .next t ∧ t.link.Answered 0x42#8 .ok [] ∧
        t.player = { s.player with state := .paused, openKeys := KeySet.none, emitted := ⟨0, 0, false⟩ } ∧
        t.guide.expected = KeySet.none ∧ t.router = s.router ∧ t.engine.playback.damper = 0 ∧
        (∀ k, t.engine.playback.down.mem k = true →
          s.engine.playback.down.mem k = true ∧ s.player.openKeys.mem k = false) ∧
        s.OutsidePlayer t) ∧
    (s.player.state ≠ .paused →
      exec .resume s = .next { s with link := s.link.reply 0x43#8 .badState [] }) ∧
    (s.player.state = .paused →
      ∃ t, exec .resume s = .next t ∧ t.link.Answered 0x43#8 .ok [] ∧
        t.player = { s.player with state := .playing, emitted := s.player.takePedals } ∧
        t.guide = s.guide ∧ t.router = s.router ∧ s.OutsidePlayer t)) ∧
  (∀ (s : State) (T : W32) (tk : TakeId), s.Ready → s.player.take = some tk → s.player.state ≠ .stopped →
    let moved : Player := { s.player with
      acc := T.toNat * 256, cursor := s.store.indexAt tk T.toNat, takePedals := s.store.scan tk T.toNat
      armed := match s.player.loop with
        | some l => decide (T.toNat < l.2)
        | none => false }
    ((s.store.entry tk).duration < T.toNat →
      exec (.locate T) s = .next { s with link := s.link.reply 0x44#8 .badValue [] }) ∧
    (T.toNat ≤ (s.store.entry tk).duration → s.player.state = .paused →
      exec (.locate T) s = .next { s with
        player := moved, guide := { s.guide with expected := KeySet.none }
        link := Link.reply (s.link.note (.playerState .paused (some tk) .locate T.toNat 0) s.clock.ms)
          0x44#8 .ok [] }) ∧
    (T.toNat ≤ (s.store.entry tk).duration → s.player.state ≠ .paused →
      ∃ t, exec (.locate T) s = .next t ∧ t.link.Answered 0x44#8 .ok [] ∧
        t.player = { moved with
          state := .playing, openKeys := KeySet.none, emitted := s.store.scan tk T.toNat } ∧
        t.guide.expected = KeySet.none ∧ t.router = s.router ∧
        (∀ k, t.engine.playback.down.mem k = true →
          s.engine.playback.down.mem k = true ∧ s.player.openKeys.mem k = false) ∧
        s.OutsidePlayer t))

/-- SET_TEMPO, SET_LOOP, SET_PASSES and SET_MARKERS. -/
def Obligations.PlayerSettingsAreReplaced : Prop :=
  (∀ (s : State) (q : W16), s.Ready →
    exec (.setTempo q) s = .next (
      if 64 ≤ q.toNat ∧ q.toNat ≤ 512 then
        { s with player := { s.player with tempo := q.toNat }, link := s.link.reply 0x45#8 .ok [] }
      else { s with link := s.link.reply 0x45#8 .badValue [] })) ∧
  (∀ (s : State) (a b : W32), s.Ready →
    (a = 0#32 → b = 0#32 →
      exec (.setLoop a b) s = .next { s with
        player := { s.player with loop := none, snapshot := ⟨0, 0, false⟩, armed := false }
        link := s.link.reply 0x46#8 .ok [] }) ∧
    ((a ≠ 0#32 ∨ b ≠ 0#32) → b.toNat < a.toNat + 100 →
      exec (.setLoop a b) s = .next { s with link := s.link.reply 0x46#8 .badValue [] }) ∧
    (a.toNat + 100 ≤ b.toNat → s.player.state = .stopped →
      exec (.setLoop a b) s = .next { s with
        player := { s.player with loop := some (a.toNat, b.toNat) }, link := s.link.reply 0x46#8 .ok [] }) ∧
    (∀ tk, a.toNat + 100 ≤ b.toNat → s.player.state ≠ .stopped → s.player.take = some tk →
      exec (.setLoop a b) s = .next (
        if (s.store.entry tk).duration < b.toNat then { s with link := s.link.reply 0x46#8 .badValue [] }
        else { s with
          player := { s.player with
            loop := some (a.toNat, b.toNat), snapshot := s.store.scan tk a.toNat
            armed := decide (s.player.acc < b.toNat * 256) }
          link := s.link.reply 0x46#8 .ok [] }))) ∧
  (∀ (s : State) (l p : Byte), s.Ready →
    exec (.setPasses l p) s = .next (
      if l.toNat ≤ 15 ∧ p.toNat ≤ 15 ∧ 0 < l.toNat + p.toNat then
        { s with
          player := { s.player with listen := l.toNat, practice := p.toNat }
          link := s.link.reply 0x47#8 .ok [] }
      else { s with link := s.link.reply 0x47#8 .badValue [] })) ∧
  (∀ (s : State) (m0 m1 m2 m3 : W32), s.Ready →
    let slot : W32 → Option Nat := fun m => if m = 0xFFFFFFFF#32 then none else some m.toNat
    exec (.setMarkers m0 m1 m2 m3) s = .next { s with
      player := { s.player with markers := #v[slot m0, slot m1, slot m2, slot m3] }
      link := s.link.reply 0x4A#8 .ok [] })

/-- A tick. Outside PLAYING it does nothing. In PLAYING it adds the tempo to the accumulator, reports the markers
reached (R148; that the tick that reaches B is the one whose addition crosses it is notes/assumptions/18.md), and emits
the due records in groups. Each record read advances the cursor and, by its kind, hands the Router an event of source
PLAYBACK stamped with the time of the step; after a group that leaves a key expected the Player is WAITING. Then the
loop jump, or the end of the take, or nothing more. `emitDue`, on the records from the cursor on, is given by its
three equations. Each of the rows LOOP_JUMP and TAKE_END is the tick when its part is due, and else does nothing
(notes/assumptions/5.md). -/
def Obligations.PlayerTicksEmitJumpAndEnd : Prop :=
  let formed : State → Body → Option EventKind := fun s b =>
    match b with
    | .noteOn k v rep => some (.noteOn k v rep)
    | .noteOff k => if s.player.openKeys.get k then some (.noteOff k false) else none
    | .silentPress k => some (.silentPress k)
    | .damper v => some (.damper v)
    | .soft v => some (.soft v)
    | .sostOn => some .sostOn
    | .sostOff => some .sostOff
    | .gap => none
  let follow : Pedals3 → Body → Pedals3 := fun p b =>
    match b with
    | .damper v => { p with damper := v }
    | .soft v => { p with soft := v }
    | .sostOn => { p with sost := true }
    | .sostOff => { p with sost := false }
    | _ => p
  let readPast : State → Body → State := fun s b => { s with player := { s.player with
    cursor := s.player.cursor + 1
    openKeys := match b with
      | .noteOn k _ _ | .silentPress k => s.player.openKeys.set k.val true k.isLt
      | .noteOff k => s.player.openKeys.set k.val false k.isLt
      | _ => s.player.openKeys
    takePedals := follow s.player.takePedals b, emitted := follow s.player.emitted b } }
  let route : EventKind → State → State := fun kind s => routeEvent ⟨.playback, s.clock.us, kind⟩ s
  let emit : Body → State → State := fun b s =>
    match formed s b with
    | some kind => route kind (readPast s b)
    | none => readPast s b
  let told : State → NoticeBody → State := fun s n => { s with link := s.link.note n s.clock.ms }
  let waiting : State → State := fun s =>
    told { s with player := { s.player with state := .waiting } }
      (.playerState .waiting s.player.take .wait (s.player.acc / 256)
        ((List.finRange 88).filter fun k => s.guide.expected.get k).length)
  let markers : (Nat → Prop) → State → State → Prop := fun reached s t =>
    ∃ ms : List (Fin 4 × Nat), ms.Pairwise (fun x y => x.1 < y.1) ∧
      (∀ i m, (i, m) ∈ ms ↔ s.player.markers.get i = some m ∧ reached m) ∧
      t = ms.foldl (fun u x => told u (.marker x.1.val x.2)) s
  let ahead : State → TakeId → List (Nat × Record) := fun s tk => (s.store.timed tk).drop s.player.cursor
  let offs : State → List EventKind := fun s =>
    ((List.finRange 88).filter fun k => s.player.openKeys.get k).map fun k => .noteOff k false
  let routeAll : List EventKind → State → State := fun ks s => ks.foldl (fun u k => route k u) s
  let jumped : Nat → TakeId → State → State → Prop := fun a tk s t =>
    let old := s.player.emitted
    let now := s.player.snapshot
    let bring : List EventKind :=
      (if old.damper ≠ now.damper then [.damper now.damper] else []) ++
        (if old.soft ≠ now.soft then [.soft now.soft] else []) ++
        (if old.sost then [.sostOff] else []) ++ (if now.sost then [.sostOn] else [])
    let moved := routeAll (offs s ++ bring) { s with player := { s.player with
      openKeys := Vector.replicate 88 false, acc := a * 256, cursor := s.store.indexAt tk a
      takePedals := now, emitted := now } }
    let index := (s.player.passIndex + 1) % (s.player.listen + s.player.practice)
    let kind : PassKind := if index < s.player.listen then .listen else .practice
    let number := if s.player.passNumber < 65535 then s.player.passNumber + 1 else 65535
    let passed := told { moved with player := { moved.player with
      passIndex := index, passKind := kind, passNumber := number } } (.pass (some tk) number kind)
    ∃ u, markers (fun m => m = a)
        { passed with guide := { passed.guide with expected := Vector.replicate 88 false } } u ∧
      t = emitDue (fun time => decide (time ≤ a)) (ahead u tk) u
  let ended : TakeId → State → State := fun tk s =>
    let closing := offs s ++ (if s.player.emitted.damper ≠ 0 then [.damper 0] else []) ++
      (if s.player.emitted.soft ≠ 0 then [.soft 0] else []) ++ (if s.player.emitted.sost then [.sostOff] else [])
    let u := routeAll closing { s with player := { s.player with
      openKeys := Vector.replicate 88 false, emitted := ⟨0, 0, false⟩ } }
    told { u with
        engine := { u.engine with playback := { u.engine.playback with damper := 0 } }
        guide := { u.guide with expected := Vector.replicate 88 false }
        router := { u.router with recent := [] }
        store := u.store.withEntry tk { u.store.entry tk with played := false }
        player := { u.player with take := none, state := .stopped } }
      (.playerState .stopped (some tk) .ended (s.player.acc / 256) 0)
  (∀ (due : Nat → Bool) (s : State), emitDue due [] s = s ∧
    ∀ time r rest, emitDue due ((time, r) :: rest) s =
      if due time then
        let u := emit r.body s
        let last : Bool := match rest with
          | [] => true
          | x :: _ => decide (x.1 ≠ time)
        if last = true ∧ ∃ k : Key, u.guide.expected.get k = true then waiting u
        else emitDue due rest u
      else s) ∧
  (∀ s : State, s.Steady → s.player.state ≠ .playing →
    exec .playerTick s = .next s ∧ exec .loopJump s = .next s ∧ exec .takeEnd s = .next s) ∧
  (∀ (s : State) (tk : TakeId), s.Steady → s.player.state = .playing → s.player.take = some tk →
    let acc := s.player.acc + s.player.tempo
    let armedAt : Nat → Prop := fun b => s.player.armed = true ∧ ∃ a, s.player.loop = some (a, b)
    let reached : Nat → Prop := fun m => s.player.acc < m * 256 ∧ m * 256 ≤ acc ∧
      ∀ b, armedAt b → s.player.acc < b * 256 → b * 256 ≤ acc → m < b
    ∃ u, markers reached { s with player := { s.player with acc := acc } } u ∧
      (∀ due : Nat → Bool,
        (∀ time, due time = true ↔ time * 256 ≤ acc ∧ ∀ b, armedAt b → time < b) →
        let v := emitDue due (ahead u tk) u
        let jump : Nat → Prop := fun a => v.player.state = .playing ∧ s.player.armed = true ∧
          ∃ b, s.player.loop = some (a, b) ∧ b * 256 ≤ acc
        let ending : Prop := v.player.state = .playing ∧ (¬∃ a, jump a) ∧
          (v.store.entry tk).count ≤ v.player.cursor
        (∀ a, jump a →
          ∃ t, jumped a tk v t ∧
            exec .playerTick s = .next { t with link := t.link.transmit } ∧
            exec .loopJump s = .next { t with link := t.link.transmit } ∧
            exec .takeEnd s = .next s) ∧
        (ending →
          exec .playerTick s = .next { ended tk v with link := (ended tk v).link.transmit } ∧
          exec .takeEnd s = .next { ended tk v with link := (ended tk v).link.transmit } ∧
          exec .loopJump s = .next s) ∧
        ((¬∃ a, jump a) → ¬ending →
          exec .playerTick s = .next { v with link := v.link.transmit } ∧
          exec .loopJump s = .next s ∧ exec .takeEnd s = .next s))) ∧
  (∀ (s : State) (tk : TakeId), s.Steady → s.player.state = .playing → s.player.take = some tk →
    (∀ (i : Fin 4) (m : Nat), s.player.markers.get i = some m →
      m * 256 ≤ s.player.acc ∨ s.player.acc + s.player.tempo < m * 256) →
    let acc := s.player.acc + s.player.tempo
    let ticked : Player := { s.player with acc := acc }
    let left := (s.store.timed tk).drop s.player.cursor
    (∀ x rest, left = x :: rest → acc < x.1 * 256 →
      (s.player.armed = true → ∀ l, s.player.loop = some l → acc < l.2 * 256) →
      s.player.cursor < (s.store.entry tk).count →
      exec .playerTick s = .next { s with player := ticked } ∧
      exec .loopJump s = .next s ∧ exec .takeEnd s = .next s) ∧
    (∀ x y rest, left = x :: y :: rest → x.1 * 256 ≤ acc → acc < y.1 * 256 → s.player.armed = false →
      s.guide.wait = false → s.guide.expected = KeySet.none →
      s.player.cursor + 1 < (s.store.entry tk).count →
      let t := emit x.2.body { s with player := ticked }
      exec .playerTick s = .next { t with link := t.link.transmit } ∧
      exec .loopJump s = .next s ∧ exec .takeEnd s = .next s ∧
      t.player = (readPast { s with player := ticked } x.2.body).player ∧
      t.router = s.router ∧ t.guide = s.guide ∧ s.OutsidePlayer t) ∧
    (∀ a b, s.player.armed = true → s.player.loop = some (a, b) → b * 256 ≤ acc →
      (∀ x rest, left = x :: rest → b ≤ x.1) → 0 < s.player.listen + s.player.practice →
      exec .loopJump s = exec .playerTick s ∧ exec .takeEnd s = .next s ∧
      ∃ t, exec .loopJump s = .next t ∧ t.player.acc = a * 256 ∧ t.player.take = some tk ∧
        t.player.passIndex = (s.player.passIndex + 1) % (s.player.listen + s.player.practice) ∧
        t.player.passKind = (if t.player.passIndex < s.player.listen then .listen else .practice) ∧
        t.player.passNumber = min 65535 (s.player.passNumber + 1) ∧ t.player.armed = true ∧
        t.player.loop = some (a, b) ∧ (t.player.state = .playing ∨ t.player.state = .waiting) ∧
        (s.guide.wait = false → t.player.state = .playing ∧ t.guide.expected = KeySet.none) ∧
        s.OutsidePlayer t) ∧
    (s.player.armed = false → (s.store.entry tk).count ≤ s.player.cursor → left = [] →
      exec .takeEnd s = exec .playerTick s ∧ exec .loopJump s = .next s ∧
      ∃ t, exec .takeEnd s = .next t ∧
        t.player = { ticked with
          state := .stopped, take := none, openKeys := KeySet.none, emitted := ⟨0, 0, false⟩ } ∧
        t.guide.expected = KeySet.none ∧ t.router.recent = [] ∧ (t.store.entry tk).played = false ∧
        t.engine.playback.damper = 0 ∧
        (∀ k, t.engine.playback.down.mem k = true →
          s.engine.playback.down.mem k = true ∧ s.player.openKeys.mem k = false) ∧
        s.OutsidePlayer t))

/-- The law of a stopped player (R74) and the law of the expected set (R161) are kept by every step. -/
def Obligations.StepsKeepThePlayerLaws : Prop :=
  ∀ s t : State, step s = .next t → (StoppedLaw s → StoppedLaw t) ∧ (ExpectedLaw s → ExpectedLaw t)

/-! ### The Edit Unit -/

/-- TAKE_COPY, TAKE_SEARCH, TAKE_SCALE and EDIT_ABORT: the checks in their order, what an accepted command sets, and
how an abort ends the running command. That a search that cannot match (an empty kind set, or a start past the take)
still runs after its command, until its first step, is the model's reading of R172's "at once" (notes/assumptions/19.md,
DEDUCED, unsafe). -/
def Obligations.EditCommandsStartAndAbort : Prop :=
  (∀ (s : State) (a b mode : Byte) (f u : W32), s.Ready →
    ((15 < a.toNat ∨ 15 < b.toNat ∨ a = b ∨ 1 < mode.toNat ∨ u.toNat ≤ f.toNat) →
      exec (.takeCopy a f u b mode) s = .next { s with link := s.link.reply 0x50#8 .badValue [] }) ∧
    (∀ src dst : TakeId, src.val = a.toNat → dst.val = b.toNat → src ≠ dst → mode.toNat ≤ 1 →
      f.toNat < u.toNat →
      let x := s.store.entry src
      let y := s.store.entry dst
      let base := if mode = 0#8 then 0 else y.duration
      let status : Option Status :=
        if s.edit ≠ .idle then some .busy
        else if x.state = .recording ∨ x.state = .writing ∨ x.state = .editing then some .takeBusy
        else if x.state = .empty then some .badState
        else if min u.toNat x.duration ≤ f.toNat then some .badValue
        else if y.played = true ∨ y.state = .recording ∨ y.state = .writing ∨ y.state = .editing then
          some .takeBusy
        else if y.state ≠ (if mode = 0#8 then .empty else .ready) then some .badState
        else none
      exec (.takeCopy a f u b mode) s = .next (
        match status with
        | some st => { s with link := s.link.reply 0x50#8 st [] }
        | none => { s with
            store := (s.store.withEntry src { x with read := true }).withEntry dst { y with state := .editing }
            edit := .copy
              { src := src, dst := dst, fromMs := f.toNat, toArg := u.toNat, toMs := min u.toNat x.duration
                append := decide (mode = 1#8), base := base, started := false, index := 0
                time := (s.store.record src 0).delta, ctx := ⟨KeySet.none, 0, 0, false, base⟩, saved := y
                written := 0 }
            link := s.link.reply 0x50#8 .accepted [] }))) ∧
  (∀ (s : State) (a : Byte) (start : W16) (k lo hi vl vh : Byte), s.Ready →
    ((15 < a.toNat ∨ 127 < k.toNat ∨ 87 < hi.toNat ∨ hi.toNat < lo.toNat ∨ vh.toNat < vl.toNat) →
      exec (.takeSearch a start k lo hi vl vh) s =
        .next { s with link := s.link.reply 0x51#8 .badValue [] }) ∧
    (∀ tk : TakeId, tk.val = a.toNat → k.toNat ≤ 127 → hi.toNat ≤ 87 → lo.toNat ≤ hi.toNat →
      vl.toNat ≤ vh.toNat →
      let x := s.store.entry tk
      exec (.takeSearch a start k lo hi vl vh) s = .next (
        if s.edit ≠ .idle then { s with link := s.link.reply 0x51#8 .busy [] }
        else if x.state = .recording ∨ x.state = .writing ∨ x.state = .editing then
          { s with link := s.link.reply 0x51#8 .takeBusy [] }
        else if x.state = .empty then { s with link := s.link.reply 0x51#8 .badState [] }
        else { s with
          store := s.store.withEntry tk { x with read := true }
          edit := .search ⟨tk, start.toNat, k.extractLsb' 0 7, lo.toNat, hi.toNat, vl.toNat, vh.toNat, 0,
            (s.store.record tk 0).delta⟩
          link := s.link.reply 0x51#8 .accepted [] }))) ∧
  (∀ (s : State) (a : Byte) (f u : W32) (lo hi : Byte) (q : W16) (o : Byte), s.Ready →
    ((15 < a.toNat ∨ u.toNat ≤ f.toNat ∨ 87 < hi.toNat ∨ hi.toNat < lo.toNat ∨ 512 < q.toNat ∨ o = 0x80#8) →
      exec (.takeScale a f u lo hi q o) s = .next { s with link := s.link.reply 0x52#8 .badValue [] }) ∧
    (∀ tk : TakeId, tk.val = a.toNat → f.toNat < u.toNat → hi.toNat ≤ 87 → lo.toNat ≤ hi.toNat →
      q.toNat ≤ 512 → o ≠ 0x80#8 →
      let x := s.store.entry tk
      exec (.takeScale a f u lo hi q o) s = .next (
        if s.edit ≠ .idle then { s with link := s.link.reply 0x52#8 .busy [] }
        else if x.played = true ∨ x.state = .recording ∨ x.state = .writing ∨ x.state = .editing then
          { s with link := s.link.reply 0x52#8 .takeBusy [] }
        else if x.state = .empty then { s with link := s.link.reply 0x52#8 .badState [] }
        else { s with
          store := s.store.withEntry tk { x with state := .editing }
          edit := .scale ⟨tk, f.toNat, u.toNat, lo.toNat, hi.toNat, q.toNat, o.toInt, 0,
            (s.store.record tk 0).delta, 0⟩
          link := s.link.reply 0x52#8 .accepted [] }))) ∧
  (∀ s : State, s.Ready →
    (s.edit = .idle → exec .editAbort s = .next { s with link := s.link.reply 0x53#8 .badState [] }) ∧
    (∀ j, s.edit = .search j →
      exec .editAbort s = .next { s with
        store := s.store.withEntry j.take { s.store.entry j.take with read := false }, edit := .idle
        link := Link.reply
          (s.link.note (.editDone .search .aborted j.take none j.index 0 0) s.clock.ms) 0x53#8 .ok [] }) ∧
    (∀ j, s.edit = .scale j →
      exec .editAbort s = .next { s with
        store := s.store.withEntry j.take { s.store.entry j.take with state := .ready }, edit := .idle
        link := Link.reply
          (s.link.note (.editDone .scale .aborted j.take none j.changes 0 0) s.clock.ms) 0x53#8 .ok [] }) ∧
    (∀ j, s.edit = .copy j → j.src ≠ j.dst →
      let e := s.store.entry j.dst
      let gone := match j.saved.tail with
        | none => s.store.chain j.dst
        | some b => ((s.store.chain j.dst).dropWhile fun x => x ≠ b).tail
      ∃ t, exec .editAbort s = .next t ∧
        t.store.entry j.dst = { j.saved with played := e.played, read := e.read } ∧
        t.store.entry j.src = { s.store.entry j.src with read := false } ∧
        (∀ o, o ≠ j.dst → o ≠ j.src → t.store.entry o = s.store.entry o) ∧
        t.store.free = s.store.free ++ gone ∧
        (∀ i : Fin 512, t.store.links.get i =
          if i.val ∈ gone ∨ j.saved.tail = some i.val then none else s.store.links.get i) ∧
        t = { s with
          store := { s.store with free := t.store.free, links := t.store.links, takes := t.store.takes }
          edit := .idle
          link := Link.reply
            (s.link.note (.editDone .copy .aborted j.src (some j.dst) 0 j.saved.count j.saved.duration)
              s.clock.ms) 0x53#8 .ok [] }))

/-- One step of each edit command: what it reads, what it writes while room remains, and how the last step ends the
command; the row of a command that does not run changes nothing (notes/assumptions/4.md). A copy writes the chase of
the source's pedals first, GAP records where a delta needs them, and the closing sequence of what is open last, each
record after its room check: room for it and the closing reserve, and room left for the reserve of a recording or a
bulk writing. Where a check fails the copy ends as FULL by rollback. `copies` is what R168 makes of a source record.
What `append` does is stated in BulkWriterFillsATake. -/
def Obligations.EditStepsReadOneRecord : Prop :=
  (∀ (c : WriteCtx) (b : Body), c.copies b = match b with
    | .noteOff k => if c.openKeys.get k = true then some (.noteOff k) else none
    | .sostOn => if c.sost = true then none else some .sostOn
    | .sostOff => if c.sost = true then some .sostOff else none
    | .gap => none
    | x => some x) ∧
  (∀ s : State, s.Steady →
    ((∀ j, s.edit ≠ .copy j) → exec .takeCopyStep s = .next s) ∧
    ((∀ j, s.edit ≠ .search j) → exec .takeSearchStep s = .next s) ∧
    ((∀ j, s.edit ≠ .scale j) → exec .takeScaleStep s = .next s)) ∧
  (∀ (s : State) (j : CopyJob), s.Steady → s.edit = .copy j →
    let more := j.index < (s.store.entry j.src).count ∧ j.time < j.toMs
    let rec' := s.store.record j.src j.index
    let after : CopyJob :=
      { j with index := j.index + 1, time := j.time + (s.store.record j.src (j.index + 1)).delta }
    (j.started = false → s.store.scan j.src j.fromMs = ⟨0, 0, false⟩ →
      ∃ n, exec .takeCopyStep s = .next { s with
        edit := .copy { j with started := true, index := s.store.indexAt j.src j.fromMs, time := n } } ∧
        ∀ x, (s.store.timed j.src)[s.store.indexAt j.src j.fromMs]? = some x → n = x.1) ∧
    (j.started = true → more → j.ctx.copies rec'.body = none →
      exec .takeCopyStep s = .next { s with edit := .copy after }) ∧
    (∀ b, j.started = true → more → j.ctx.copies rec'.body = some b → s.recorder = none → s.bulk = none →
      let time := j.time - j.fromMs + j.base
      time ≤ j.ctx.last + 65535 → 1 + (j.ctx.write time b).reserve ≤ s.store.takeFree j.dst →
      exec .takeCopyStep s = .next { s with
        store := s.store.append j.dst ⟨time - j.ctx.last, b⟩
        edit := .copy { after with ctx := j.ctx.write time b, written := j.written + 1 } }) ∧
    (j.started = true → ¬more → j.ctx.reserve = 0 → j.src ≠ j.dst →
      exec .takeCopyStep s = .next { s with
        store := (s.store.withEntry j.dst { s.store.entry j.dst with state := .ready }).withEntry j.src
          { s.store.entry j.src with read := false }
        edit := .idle
        link := s.link.notify
          (.editDone .copy .ok j.src (some j.dst) j.written (s.store.entry j.dst).count
            (s.store.entry j.dst).duration) s.clock.ms }) ∧
    (let write : Nat → Body → CopyWork → CopyResult := fun time b w =>
       let st := w.store.append j.dst ⟨time - w.ctx.last, b⟩
       let others : Bool :=
         (match s.recorder with | some r => decide (r.ctx.reserve ≤ st.takeFree r.take) | none => true) &&
           (match s.bulk with | some k => decide (k.ctx.reserve ≤ st.takeFree k.take) | none => true)
       if 1 + (w.ctx.write time b).reserve ≤ w.store.takeFree j.dst ∧ others = true then
         .ok ⟨st, w.ctx.write time b, w.written + 1⟩
       else .error w
     let start : CopyWork := ⟨s.store, j.ctx, j.written⟩
     let rolled : Store → State → Prop := fun st t =>
       let e := st.entry j.dst
       let gone := match j.saved.tail with
         | none => st.chain j.dst
         | some b => ((st.chain j.dst).dropWhile fun x => x ≠ b).tail
       t.store.entry j.dst = { j.saved with played := e.played, read := e.read } ∧
         t.store.entry j.src = { st.entry j.src with read := false } ∧
         (∀ o, o ≠ j.dst → o ≠ j.src → t.store.entry o = st.entry o) ∧
         t.store.free = st.free ++ gone ∧
         (∀ i : Fin 512, t.store.links.get i =
           if i.val ∈ gone ∨ j.saved.tail = some i.val then none else st.links.get i) ∧
         t = { s with
           store := { st with free := t.store.free, links := t.store.links, takes := t.store.takes }
           edit := .idle
           link := s.link.notify
             (.editDone .copy .full j.src (some j.dst) 0 j.saved.count j.saved.duration) s.clock.ms }
     let goes : CopyJob → CopyResult → State → Prop := fun j' result t =>
       match result with
       | .ok w => t = { s with
           store := w.store, edit := .copy { j' with ctx := w.ctx, written := w.written } }
       | .error w => rolled w.store t
     (∀ (time : Nat) (b : Body) (w : CopyWork),
       (time ≤ w.ctx.last + 65535 → copyRecord s j.dst time w b = write time b w) ∧
       (w.ctx.last + 65535 < time → copyRecord s j.dst time w b =
         match write (w.ctx.last + 65535) .gap w with
         | .ok w' => copyRecord s j.dst time w' b
         | .error w' => .error w')) ∧
     (∀ (time : Nat) (w : CopyWork), copyAll s j.dst time [] w = .ok w ∧
       ∀ b bs, copyAll s j.dst time (b :: bs) w =
         match copyRecord s j.dst time w b with
         | .ok w' => copyAll s j.dst time bs w'
         | .error w' => .error w') ∧
     (j.src ≠ j.dst →
       (j.started = false →
         let held := s.store.scan j.src j.fromMs
         let chase : List Body := (if held.damper ≠ 0 then [.damper held.damper] else []) ++
           (if held.soft ≠ 0 then [.soft held.soft] else []) ++ (if held.sost then [.sostOn] else [])
         ∃ n t, exec .takeCopyStep s = .next t ∧
           goes { j with started := true, index := s.store.indexAt j.src j.fromMs, time := n }
             (copyAll s j.dst j.base chase start) t ∧
           ∀ x, (s.store.timed j.src)[s.store.indexAt j.src j.fromMs]? = some x → n = x.1) ∧
       (∀ b, j.started = true → more → j.ctx.copies rec'.body = some b →
         ∃ t, exec .takeCopyStep s = .next t ∧
           goes after (copyRecord s j.dst (j.time - j.fromMs + j.base) start b) t) ∧
       (j.started = true → ¬more →
         let closing : List Body :=
           (((List.finRange 88).filter fun k => j.ctx.openKeys.get k).map fun k => .noteOff k) ++
             (if j.ctx.damper ≠ 0 then [.damper 0] else []) ++ (if j.ctx.soft ≠ 0 then [.soft 0] else []) ++
             (if j.ctx.sost then [.sostOff] else [])
         ∃ t, exec .takeCopyStep s = .next t ∧
           match copyAll s j.dst (j.base + (j.toMs - j.fromMs)) closing start with
           | .error w => rolled w.store t
           | .ok w => t = { s with
               store := (w.store.withEntry j.dst { w.store.entry j.dst with state := .ready }).withEntry j.src
                 { w.store.entry j.src with read := false }
               edit := .idle
               link := s.link.notify
                 (.editDone .copy .ok j.src (some j.dst) w.written (w.store.entry j.dst).count
                   (w.store.entry j.dst).duration) s.clock.ms })))) ∧
  (∀ (s : State) (j : SearchJob), s.Steady → s.edit = .search j →
    let count := (s.store.entry j.take).count
    let b := (s.store.record j.take j.index).body
    let hit := j.start ≤ j.index ∧
      (match b with
        | .noteOn k v _ => j.kinds.getLsbD 0 = true ∧ (j.keyLow ≤ k.val ∧ k.val ≤ j.keyHigh) ∧
            j.valueLow ≤ v ∧ v ≤ j.valueHigh
        | .noteOff k => j.kinds.getLsbD 1 = true ∧ j.keyLow ≤ k.val ∧ k.val ≤ j.keyHigh
        | .silentPress k => j.kinds.getLsbD 2 = true ∧ j.keyLow ≤ k.val ∧ k.val ≤ j.keyHigh
        | .damper v => j.kinds.getLsbD 3 = true ∧ j.valueLow ≤ v ∧ v ≤ j.valueHigh
        | .soft v => j.kinds.getLsbD 4 = true ∧ j.valueLow ≤ v ∧ v ≤ j.valueHigh
        | .sostOn => j.kinds.getLsbD 5 = true
        | .sostOff => j.kinds.getLsbD 6 = true
        | .gap => False)
    let ended : EditResult → Nat → Nat → State := fun result n time => { s with
      store := s.store.withEntry j.take { s.store.entry j.take with read := false }, edit := .idle
      link := s.link.notify (.editDone .search result j.take none n 0 time) s.clock.ms }
    ((count ≤ j.start ∨ j.kinds = 0#7) → exec .takeSearchStep s = .next (ended .notFound 0 0)) ∧
    (j.start < count → j.kinds ≠ 0#7 →
      (hit → exec .takeSearchStep s = .next (ended .ok j.index j.time)) ∧
      (¬hit → count ≤ j.index + 1 → exec .takeSearchStep s = .next (ended .notFound 0 0)) ∧
      (¬hit → j.index + 1 < count →
        exec .takeSearchStep s = .next { s with
          edit := .search { j with
            index := j.index + 1, time := j.time + (s.store.record j.take (j.index + 1)).delta } }))) ∧
  (∀ (s : State) (j : ScaleJob), s.Steady → s.edit = .scale j →
    let count := (s.store.entry j.take).count
    let r := s.store.record j.take j.index
    let next : ScaleJob :=
      { j with index := j.index + 1, time := j.time + (s.store.record j.take (j.index + 1)).delta }
    (count ≤ j.index ∨
        (j.index + 1 = count ∧ ∀ k v p, r.body = .noteOn k v p → j.time < j.fromMs ∨ j.toMs ≤ j.time ∨
          k.val < j.keyLow ∨ j.keyHigh < k.val) →
      exec .takeScaleStep s = .next { s with
        store := s.store.withEntry j.take { s.store.entry j.take with state := .ready }, edit := .idle
        link := s.link.notify (.editDone .scale .ok j.take none j.changes 0 0) s.clock.ms }) ∧
    (∀ k v p block, j.index + 1 = count → r.body = .noteOn k v p → j.fromMs ≤ j.time → j.time < j.toMs →
      j.keyLow ≤ k.val → k.val ≤ j.keyHigh → (s.store.chain j.take)[j.index / 64]? = some block →
      let w := (max 1 (min 127 (((v * j.factor / 256 : Nat) : Int) + j.offset))).toNat
      exec .takeScaleStep s = .next { s with
        store := Store.withEntry { s.store with
            slots := slotSet s.store.slots (64 * block + j.index % 64) ⟨r.delta, .noteOn k w p⟩ }
          j.take { s.store.entry j.take with state := .ready }
        edit := .idle
        link := s.link.notify
          (.editDone .scale .ok j.take none (if w = v then j.changes else j.changes + 1) 0 0) s.clock.ms }) ∧
    (j.index + 1 < count →
      ((∀ k v p, r.body = .noteOn k v p → j.time < j.fromMs ∨ j.toMs ≤ j.time ∨
          k.val < j.keyLow ∨ j.keyHigh < k.val) →
        exec .takeScaleStep s = .next { s with edit := .scale next }) ∧
      (∀ k v p block, r.body = .noteOn k v p → j.fromMs ≤ j.time → j.time < j.toMs → j.keyLow ≤ k.val →
        k.val ≤ j.keyHigh → (s.store.chain j.take)[j.index / 64]? = some block →
        let w := (max 1 (min 127 (((v * j.factor / 256 : Nat) : Int) + j.offset))).toNat
        exec .takeScaleStep s = .next { s with
          store := { s.store with
            slots := slotSet s.store.slots (64 * block + j.index % 64) ⟨r.delta, .noteOn k w p⟩ }
          edit := .scale { next with changes := if w = v then j.changes else j.changes + 1 } })))

end
end

