-- ==== Sys2Proof/Laws/State.lean ====
section
/-! SUPPORT. One lemma per field per update of State, and for the operations that touch the link alone:
what each leaves as it was. -/

namespace Sys2Proof.Machine

section
variable (s : State) (x : Clock)
@[simp] theorem State.withClock_running : (s.withClock x).running = s.running := rfl
@[simp] theorem State.withClock_cause : (s.withClock x).cause = s.cause := rfl
@[simp] theorem State.withClock_clock : (s.withClock x).clock = x := rfl
@[simp] theorem State.withClock_keys : (s.withClock x).keys = s.keys := rfl
@[simp] theorem State.withClock_touch : (s.withClock x).touch = s.touch := rfl
@[simp] theorem State.withClock_pedals : (s.withClock x).pedals = s.pedals := rfl
@[simp] theorem State.withClock_router : (s.withClock x).router = s.router := rfl
@[simp] theorem State.withClock_engine : (s.withClock x).engine = s.engine := rfl
@[simp] theorem State.withClock_output : (s.withClock x).output = s.output := rfl
@[simp] theorem State.withClock_rail : (s.withClock x).rail = s.rail := rfl
@[simp] theorem State.withClock_store : (s.withClock x).store = s.store := rfl
@[simp] theorem State.withClock_recorder : (s.withClock x).recorder = s.recorder := rfl
@[simp] theorem State.withClock_bulk : (s.withClock x).bulk = s.bulk := rfl
@[simp] theorem State.withClock_player : (s.withClock x).player = s.player := rfl
@[simp] theorem State.withClock_guide : (s.withClock x).guide = s.guide := rfl
@[simp] theorem State.withClock_edit : (s.withClock x).edit = s.edit := rfl
@[simp] theorem State.withClock_link : (s.withClock x).link = s.link := rfl
@[simp] theorem State.withClock_flash : (s.withClock x).flash = s.flash := rfl
@[simp] theorem State.withClock_choices : (s.withClock x).choices = s.choices := rfl
@[simp] theorem State.withClock_pending : (s.withClock x).pending = s.pending := rfl
end

section
variable (s : State) (x : Vector KeyRecord 88)
@[simp] theorem State.withKeys_running : (s.withKeys x).running = s.running := rfl
@[simp] theorem State.withKeys_cause : (s.withKeys x).cause = s.cause := rfl
@[simp] theorem State.withKeys_clock : (s.withKeys x).clock = s.clock := rfl
@[simp] theorem State.withKeys_keys : (s.withKeys x).keys = x := rfl
@[simp] theorem State.withKeys_touch : (s.withKeys x).touch = s.touch := rfl
@[simp] theorem State.withKeys_pedals : (s.withKeys x).pedals = s.pedals := rfl
@[simp] theorem State.withKeys_router : (s.withKeys x).router = s.router := rfl
@[simp] theorem State.withKeys_engine : (s.withKeys x).engine = s.engine := rfl
@[simp] theorem State.withKeys_output : (s.withKeys x).output = s.output := rfl
@[simp] theorem State.withKeys_rail : (s.withKeys x).rail = s.rail := rfl
@[simp] theorem State.withKeys_store : (s.withKeys x).store = s.store := rfl
@[simp] theorem State.withKeys_recorder : (s.withKeys x).recorder = s.recorder := rfl
@[simp] theorem State.withKeys_bulk : (s.withKeys x).bulk = s.bulk := rfl
@[simp] theorem State.withKeys_player : (s.withKeys x).player = s.player := rfl
@[simp] theorem State.withKeys_guide : (s.withKeys x).guide = s.guide := rfl
@[simp] theorem State.withKeys_edit : (s.withKeys x).edit = s.edit := rfl
@[simp] theorem State.withKeys_link : (s.withKeys x).link = s.link := rfl
@[simp] theorem State.withKeys_flash : (s.withKeys x).flash = s.flash := rfl
@[simp] theorem State.withKeys_choices : (s.withKeys x).choices = s.choices := rfl
@[simp] theorem State.withKeys_pending : (s.withKeys x).pending = s.pending := rfl
end

section
variable (s : State) (x : Touch)
@[simp] theorem State.withTouch_running : (s.withTouch x).running = s.running := rfl
@[simp] theorem State.withTouch_cause : (s.withTouch x).cause = s.cause := rfl
@[simp] theorem State.withTouch_clock : (s.withTouch x).clock = s.clock := rfl
@[simp] theorem State.withTouch_keys : (s.withTouch x).keys = s.keys := rfl
@[simp] theorem State.withTouch_touch : (s.withTouch x).touch = x := rfl
@[simp] theorem State.withTouch_pedals : (s.withTouch x).pedals = s.pedals := rfl
@[simp] theorem State.withTouch_router : (s.withTouch x).router = s.router := rfl
@[simp] theorem State.withTouch_engine : (s.withTouch x).engine = s.engine := rfl
@[simp] theorem State.withTouch_output : (s.withTouch x).output = s.output := rfl
@[simp] theorem State.withTouch_rail : (s.withTouch x).rail = s.rail := rfl
@[simp] theorem State.withTouch_store : (s.withTouch x).store = s.store := rfl
@[simp] theorem State.withTouch_recorder : (s.withTouch x).recorder = s.recorder := rfl
@[simp] theorem State.withTouch_bulk : (s.withTouch x).bulk = s.bulk := rfl
@[simp] theorem State.withTouch_player : (s.withTouch x).player = s.player := rfl
@[simp] theorem State.withTouch_guide : (s.withTouch x).guide = s.guide := rfl
@[simp] theorem State.withTouch_edit : (s.withTouch x).edit = s.edit := rfl
@[simp] theorem State.withTouch_link : (s.withTouch x).link = s.link := rfl
@[simp] theorem State.withTouch_flash : (s.withTouch x).flash = s.flash := rfl
@[simp] theorem State.withTouch_choices : (s.withTouch x).choices = s.choices := rfl
@[simp] theorem State.withTouch_pending : (s.withTouch x).pending = s.pending := rfl
end

section
variable (s : State) (x : PedalUnit)
@[simp] theorem State.withPedals_running : (s.withPedals x).running = s.running := rfl
@[simp] theorem State.withPedals_cause : (s.withPedals x).cause = s.cause := rfl
@[simp] theorem State.withPedals_clock : (s.withPedals x).clock = s.clock := rfl
@[simp] theorem State.withPedals_keys : (s.withPedals x).keys = s.keys := rfl
@[simp] theorem State.withPedals_touch : (s.withPedals x).touch = s.touch := rfl
@[simp] theorem State.withPedals_pedals : (s.withPedals x).pedals = x := rfl
@[simp] theorem State.withPedals_router : (s.withPedals x).router = s.router := rfl
@[simp] theorem State.withPedals_engine : (s.withPedals x).engine = s.engine := rfl
@[simp] theorem State.withPedals_output : (s.withPedals x).output = s.output := rfl
@[simp] theorem State.withPedals_rail : (s.withPedals x).rail = s.rail := rfl
@[simp] theorem State.withPedals_store : (s.withPedals x).store = s.store := rfl
@[simp] theorem State.withPedals_recorder : (s.withPedals x).recorder = s.recorder := rfl
@[simp] theorem State.withPedals_bulk : (s.withPedals x).bulk = s.bulk := rfl
@[simp] theorem State.withPedals_player : (s.withPedals x).player = s.player := rfl
@[simp] theorem State.withPedals_guide : (s.withPedals x).guide = s.guide := rfl
@[simp] theorem State.withPedals_edit : (s.withPedals x).edit = s.edit := rfl
@[simp] theorem State.withPedals_link : (s.withPedals x).link = s.link := rfl
@[simp] theorem State.withPedals_flash : (s.withPedals x).flash = s.flash := rfl
@[simp] theorem State.withPedals_choices : (s.withPedals x).choices = s.choices := rfl
@[simp] theorem State.withPedals_pending : (s.withPedals x).pending = s.pending := rfl
end

section
variable (s : State) (x : Router)
@[simp] theorem State.withRouter_running : (s.withRouter x).running = s.running := rfl
@[simp] theorem State.withRouter_cause : (s.withRouter x).cause = s.cause := rfl
@[simp] theorem State.withRouter_clock : (s.withRouter x).clock = s.clock := rfl
@[simp] theorem State.withRouter_keys : (s.withRouter x).keys = s.keys := rfl
@[simp] theorem State.withRouter_touch : (s.withRouter x).touch = s.touch := rfl
@[simp] theorem State.withRouter_pedals : (s.withRouter x).pedals = s.pedals := rfl
@[simp] theorem State.withRouter_router : (s.withRouter x).router = x := rfl
@[simp] theorem State.withRouter_engine : (s.withRouter x).engine = s.engine := rfl
@[simp] theorem State.withRouter_output : (s.withRouter x).output = s.output := rfl
@[simp] theorem State.withRouter_rail : (s.withRouter x).rail = s.rail := rfl
@[simp] theorem State.withRouter_store : (s.withRouter x).store = s.store := rfl
@[simp] theorem State.withRouter_recorder : (s.withRouter x).recorder = s.recorder := rfl
@[simp] theorem State.withRouter_bulk : (s.withRouter x).bulk = s.bulk := rfl
@[simp] theorem State.withRouter_player : (s.withRouter x).player = s.player := rfl
@[simp] theorem State.withRouter_guide : (s.withRouter x).guide = s.guide := rfl
@[simp] theorem State.withRouter_edit : (s.withRouter x).edit = s.edit := rfl
@[simp] theorem State.withRouter_link : (s.withRouter x).link = s.link := rfl
@[simp] theorem State.withRouter_flash : (s.withRouter x).flash = s.flash := rfl
@[simp] theorem State.withRouter_choices : (s.withRouter x).choices = s.choices := rfl
@[simp] theorem State.withRouter_pending : (s.withRouter x).pending = s.pending := rfl
end

section
variable (s : State) (x : Engine)
@[simp] theorem State.withEngine_running : (s.withEngine x).running = s.running := rfl
@[simp] theorem State.withEngine_cause : (s.withEngine x).cause = s.cause := rfl
@[simp] theorem State.withEngine_clock : (s.withEngine x).clock = s.clock := rfl
@[simp] theorem State.withEngine_keys : (s.withEngine x).keys = s.keys := rfl
@[simp] theorem State.withEngine_touch : (s.withEngine x).touch = s.touch := rfl
@[simp] theorem State.withEngine_pedals : (s.withEngine x).pedals = s.pedals := rfl
@[simp] theorem State.withEngine_router : (s.withEngine x).router = s.router := rfl
@[simp] theorem State.withEngine_engine : (s.withEngine x).engine = x := rfl
@[simp] theorem State.withEngine_output : (s.withEngine x).output = s.output := rfl
@[simp] theorem State.withEngine_rail : (s.withEngine x).rail = s.rail := rfl
@[simp] theorem State.withEngine_store : (s.withEngine x).store = s.store := rfl
@[simp] theorem State.withEngine_recorder : (s.withEngine x).recorder = s.recorder := rfl
@[simp] theorem State.withEngine_bulk : (s.withEngine x).bulk = s.bulk := rfl
@[simp] theorem State.withEngine_player : (s.withEngine x).player = s.player := rfl
@[simp] theorem State.withEngine_guide : (s.withEngine x).guide = s.guide := rfl
@[simp] theorem State.withEngine_edit : (s.withEngine x).edit = s.edit := rfl
@[simp] theorem State.withEngine_link : (s.withEngine x).link = s.link := rfl
@[simp] theorem State.withEngine_flash : (s.withEngine x).flash = s.flash := rfl
@[simp] theorem State.withEngine_choices : (s.withEngine x).choices = s.choices := rfl
@[simp] theorem State.withEngine_pending : (s.withEngine x).pending = s.pending := rfl
end

section
variable (s : State) (x : Output)
@[simp] theorem State.withOutput_running : (s.withOutput x).running = s.running := rfl
@[simp] theorem State.withOutput_cause : (s.withOutput x).cause = s.cause := rfl
@[simp] theorem State.withOutput_clock : (s.withOutput x).clock = s.clock := rfl
@[simp] theorem State.withOutput_keys : (s.withOutput x).keys = s.keys := rfl
@[simp] theorem State.withOutput_touch : (s.withOutput x).touch = s.touch := rfl
@[simp] theorem State.withOutput_pedals : (s.withOutput x).pedals = s.pedals := rfl
@[simp] theorem State.withOutput_router : (s.withOutput x).router = s.router := rfl
@[simp] theorem State.withOutput_engine : (s.withOutput x).engine = s.engine := rfl
@[simp] theorem State.withOutput_output : (s.withOutput x).output = x := rfl
@[simp] theorem State.withOutput_rail : (s.withOutput x).rail = s.rail := rfl
@[simp] theorem State.withOutput_store : (s.withOutput x).store = s.store := rfl
@[simp] theorem State.withOutput_recorder : (s.withOutput x).recorder = s.recorder := rfl
@[simp] theorem State.withOutput_bulk : (s.withOutput x).bulk = s.bulk := rfl
@[simp] theorem State.withOutput_player : (s.withOutput x).player = s.player := rfl
@[simp] theorem State.withOutput_guide : (s.withOutput x).guide = s.guide := rfl
@[simp] theorem State.withOutput_edit : (s.withOutput x).edit = s.edit := rfl
@[simp] theorem State.withOutput_link : (s.withOutput x).link = s.link := rfl
@[simp] theorem State.withOutput_flash : (s.withOutput x).flash = s.flash := rfl
@[simp] theorem State.withOutput_choices : (s.withOutput x).choices = s.choices := rfl
@[simp] theorem State.withOutput_pending : (s.withOutput x).pending = s.pending := rfl
end

section
variable (s : State) (x : Rail)
@[simp] theorem State.withRail_running : (s.withRail x).running = s.running := rfl
@[simp] theorem State.withRail_cause : (s.withRail x).cause = s.cause := rfl
@[simp] theorem State.withRail_clock : (s.withRail x).clock = s.clock := rfl
@[simp] theorem State.withRail_keys : (s.withRail x).keys = s.keys := rfl
@[simp] theorem State.withRail_touch : (s.withRail x).touch = s.touch := rfl
@[simp] theorem State.withRail_pedals : (s.withRail x).pedals = s.pedals := rfl
@[simp] theorem State.withRail_router : (s.withRail x).router = s.router := rfl
@[simp] theorem State.withRail_engine : (s.withRail x).engine = s.engine := rfl
@[simp] theorem State.withRail_output : (s.withRail x).output = s.output := rfl
@[simp] theorem State.withRail_rail : (s.withRail x).rail = x := rfl
@[simp] theorem State.withRail_store : (s.withRail x).store = s.store := rfl
@[simp] theorem State.withRail_recorder : (s.withRail x).recorder = s.recorder := rfl
@[simp] theorem State.withRail_bulk : (s.withRail x).bulk = s.bulk := rfl
@[simp] theorem State.withRail_player : (s.withRail x).player = s.player := rfl
@[simp] theorem State.withRail_guide : (s.withRail x).guide = s.guide := rfl
@[simp] theorem State.withRail_edit : (s.withRail x).edit = s.edit := rfl
@[simp] theorem State.withRail_link : (s.withRail x).link = s.link := rfl
@[simp] theorem State.withRail_flash : (s.withRail x).flash = s.flash := rfl
@[simp] theorem State.withRail_choices : (s.withRail x).choices = s.choices := rfl
@[simp] theorem State.withRail_pending : (s.withRail x).pending = s.pending := rfl
end

section
variable (s : State) (x : Store)
@[simp] theorem State.withStore_running : (s.withStore x).running = s.running := rfl
@[simp] theorem State.withStore_cause : (s.withStore x).cause = s.cause := rfl
@[simp] theorem State.withStore_clock : (s.withStore x).clock = s.clock := rfl
@[simp] theorem State.withStore_keys : (s.withStore x).keys = s.keys := rfl
@[simp] theorem State.withStore_touch : (s.withStore x).touch = s.touch := rfl
@[simp] theorem State.withStore_pedals : (s.withStore x).pedals = s.pedals := rfl
@[simp] theorem State.withStore_router : (s.withStore x).router = s.router := rfl
@[simp] theorem State.withStore_engine : (s.withStore x).engine = s.engine := rfl
@[simp] theorem State.withStore_output : (s.withStore x).output = s.output := rfl
@[simp] theorem State.withStore_rail : (s.withStore x).rail = s.rail := rfl
@[simp] theorem State.withStore_store : (s.withStore x).store = x := rfl
@[simp] theorem State.withStore_recorder : (s.withStore x).recorder = s.recorder := rfl
@[simp] theorem State.withStore_bulk : (s.withStore x).bulk = s.bulk := rfl
@[simp] theorem State.withStore_player : (s.withStore x).player = s.player := rfl
@[simp] theorem State.withStore_guide : (s.withStore x).guide = s.guide := rfl
@[simp] theorem State.withStore_edit : (s.withStore x).edit = s.edit := rfl
@[simp] theorem State.withStore_link : (s.withStore x).link = s.link := rfl
@[simp] theorem State.withStore_flash : (s.withStore x).flash = s.flash := rfl
@[simp] theorem State.withStore_choices : (s.withStore x).choices = s.choices := rfl
@[simp] theorem State.withStore_pending : (s.withStore x).pending = s.pending := rfl
end

section
variable (s : State) (x : Option Recording)
@[simp] theorem State.withRecorder_running : (s.withRecorder x).running = s.running := rfl
@[simp] theorem State.withRecorder_cause : (s.withRecorder x).cause = s.cause := rfl
@[simp] theorem State.withRecorder_clock : (s.withRecorder x).clock = s.clock := rfl
@[simp] theorem State.withRecorder_keys : (s.withRecorder x).keys = s.keys := rfl
@[simp] theorem State.withRecorder_touch : (s.withRecorder x).touch = s.touch := rfl
@[simp] theorem State.withRecorder_pedals : (s.withRecorder x).pedals = s.pedals := rfl
@[simp] theorem State.withRecorder_router : (s.withRecorder x).router = s.router := rfl
@[simp] theorem State.withRecorder_engine : (s.withRecorder x).engine = s.engine := rfl
@[simp] theorem State.withRecorder_output : (s.withRecorder x).output = s.output := rfl
@[simp] theorem State.withRecorder_rail : (s.withRecorder x).rail = s.rail := rfl
@[simp] theorem State.withRecorder_store : (s.withRecorder x).store = s.store := rfl
@[simp] theorem State.withRecorder_recorder : (s.withRecorder x).recorder = x := rfl
@[simp] theorem State.withRecorder_bulk : (s.withRecorder x).bulk = s.bulk := rfl
@[simp] theorem State.withRecorder_player : (s.withRecorder x).player = s.player := rfl
@[simp] theorem State.withRecorder_guide : (s.withRecorder x).guide = s.guide := rfl
@[simp] theorem State.withRecorder_edit : (s.withRecorder x).edit = s.edit := rfl
@[simp] theorem State.withRecorder_link : (s.withRecorder x).link = s.link := rfl
@[simp] theorem State.withRecorder_flash : (s.withRecorder x).flash = s.flash := rfl
@[simp] theorem State.withRecorder_choices : (s.withRecorder x).choices = s.choices := rfl
@[simp] theorem State.withRecorder_pending : (s.withRecorder x).pending = s.pending := rfl
end

section
variable (s : State) (x : Option BulkWriting)
@[simp] theorem State.withBulk_running : (s.withBulk x).running = s.running := rfl
@[simp] theorem State.withBulk_cause : (s.withBulk x).cause = s.cause := rfl
@[simp] theorem State.withBulk_clock : (s.withBulk x).clock = s.clock := rfl
@[simp] theorem State.withBulk_keys : (s.withBulk x).keys = s.keys := rfl
@[simp] theorem State.withBulk_touch : (s.withBulk x).touch = s.touch := rfl
@[simp] theorem State.withBulk_pedals : (s.withBulk x).pedals = s.pedals := rfl
@[simp] theorem State.withBulk_router : (s.withBulk x).router = s.router := rfl
@[simp] theorem State.withBulk_engine : (s.withBulk x).engine = s.engine := rfl
@[simp] theorem State.withBulk_output : (s.withBulk x).output = s.output := rfl
@[simp] theorem State.withBulk_rail : (s.withBulk x).rail = s.rail := rfl
@[simp] theorem State.withBulk_store : (s.withBulk x).store = s.store := rfl
@[simp] theorem State.withBulk_recorder : (s.withBulk x).recorder = s.recorder := rfl
@[simp] theorem State.withBulk_bulk : (s.withBulk x).bulk = x := rfl
@[simp] theorem State.withBulk_player : (s.withBulk x).player = s.player := rfl
@[simp] theorem State.withBulk_guide : (s.withBulk x).guide = s.guide := rfl
@[simp] theorem State.withBulk_edit : (s.withBulk x).edit = s.edit := rfl
@[simp] theorem State.withBulk_link : (s.withBulk x).link = s.link := rfl
@[simp] theorem State.withBulk_flash : (s.withBulk x).flash = s.flash := rfl
@[simp] theorem State.withBulk_choices : (s.withBulk x).choices = s.choices := rfl
@[simp] theorem State.withBulk_pending : (s.withBulk x).pending = s.pending := rfl
end

section
variable (s : State) (x : Player)
@[simp] theorem State.withPlayer_running : (s.withPlayer x).running = s.running := rfl
@[simp] theorem State.withPlayer_cause : (s.withPlayer x).cause = s.cause := rfl
@[simp] theorem State.withPlayer_clock : (s.withPlayer x).clock = s.clock := rfl
@[simp] theorem State.withPlayer_keys : (s.withPlayer x).keys = s.keys := rfl
@[simp] theorem State.withPlayer_touch : (s.withPlayer x).touch = s.touch := rfl
@[simp] theorem State.withPlayer_pedals : (s.withPlayer x).pedals = s.pedals := rfl
@[simp] theorem State.withPlayer_router : (s.withPlayer x).router = s.router := rfl
@[simp] theorem State.withPlayer_engine : (s.withPlayer x).engine = s.engine := rfl
@[simp] theorem State.withPlayer_output : (s.withPlayer x).output = s.output := rfl
@[simp] theorem State.withPlayer_rail : (s.withPlayer x).rail = s.rail := rfl
@[simp] theorem State.withPlayer_store : (s.withPlayer x).store = s.store := rfl
@[simp] theorem State.withPlayer_recorder : (s.withPlayer x).recorder = s.recorder := rfl
@[simp] theorem State.withPlayer_bulk : (s.withPlayer x).bulk = s.bulk := rfl
@[simp] theorem State.withPlayer_player : (s.withPlayer x).player = x := rfl
@[simp] theorem State.withPlayer_guide : (s.withPlayer x).guide = s.guide := rfl
@[simp] theorem State.withPlayer_edit : (s.withPlayer x).edit = s.edit := rfl
@[simp] theorem State.withPlayer_link : (s.withPlayer x).link = s.link := rfl
@[simp] theorem State.withPlayer_flash : (s.withPlayer x).flash = s.flash := rfl
@[simp] theorem State.withPlayer_choices : (s.withPlayer x).choices = s.choices := rfl
@[simp] theorem State.withPlayer_pending : (s.withPlayer x).pending = s.pending := rfl
end

section
variable (s : State) (x : Guide)
@[simp] theorem State.withGuide_running : (s.withGuide x).running = s.running := rfl
@[simp] theorem State.withGuide_cause : (s.withGuide x).cause = s.cause := rfl
@[simp] theorem State.withGuide_clock : (s.withGuide x).clock = s.clock := rfl
@[simp] theorem State.withGuide_keys : (s.withGuide x).keys = s.keys := rfl
@[simp] theorem State.withGuide_touch : (s.withGuide x).touch = s.touch := rfl
@[simp] theorem State.withGuide_pedals : (s.withGuide x).pedals = s.pedals := rfl
@[simp] theorem State.withGuide_router : (s.withGuide x).router = s.router := rfl
@[simp] theorem State.withGuide_engine : (s.withGuide x).engine = s.engine := rfl
@[simp] theorem State.withGuide_output : (s.withGuide x).output = s.output := rfl
@[simp] theorem State.withGuide_rail : (s.withGuide x).rail = s.rail := rfl
@[simp] theorem State.withGuide_store : (s.withGuide x).store = s.store := rfl
@[simp] theorem State.withGuide_recorder : (s.withGuide x).recorder = s.recorder := rfl
@[simp] theorem State.withGuide_bulk : (s.withGuide x).bulk = s.bulk := rfl
@[simp] theorem State.withGuide_player : (s.withGuide x).player = s.player := rfl
@[simp] theorem State.withGuide_guide : (s.withGuide x).guide = x := rfl
@[simp] theorem State.withGuide_edit : (s.withGuide x).edit = s.edit := rfl
@[simp] theorem State.withGuide_link : (s.withGuide x).link = s.link := rfl
@[simp] theorem State.withGuide_flash : (s.withGuide x).flash = s.flash := rfl
@[simp] theorem State.withGuide_choices : (s.withGuide x).choices = s.choices := rfl
@[simp] theorem State.withGuide_pending : (s.withGuide x).pending = s.pending := rfl
end

section
variable (s : State) (x : EditJob)
@[simp] theorem State.withEdit_running : (s.withEdit x).running = s.running := rfl
@[simp] theorem State.withEdit_cause : (s.withEdit x).cause = s.cause := rfl
@[simp] theorem State.withEdit_clock : (s.withEdit x).clock = s.clock := rfl
@[simp] theorem State.withEdit_keys : (s.withEdit x).keys = s.keys := rfl
@[simp] theorem State.withEdit_touch : (s.withEdit x).touch = s.touch := rfl
@[simp] theorem State.withEdit_pedals : (s.withEdit x).pedals = s.pedals := rfl
@[simp] theorem State.withEdit_router : (s.withEdit x).router = s.router := rfl
@[simp] theorem State.withEdit_engine : (s.withEdit x).engine = s.engine := rfl
@[simp] theorem State.withEdit_output : (s.withEdit x).output = s.output := rfl
@[simp] theorem State.withEdit_rail : (s.withEdit x).rail = s.rail := rfl
@[simp] theorem State.withEdit_store : (s.withEdit x).store = s.store := rfl
@[simp] theorem State.withEdit_recorder : (s.withEdit x).recorder = s.recorder := rfl
@[simp] theorem State.withEdit_bulk : (s.withEdit x).bulk = s.bulk := rfl
@[simp] theorem State.withEdit_player : (s.withEdit x).player = s.player := rfl
@[simp] theorem State.withEdit_guide : (s.withEdit x).guide = s.guide := rfl
@[simp] theorem State.withEdit_edit : (s.withEdit x).edit = x := rfl
@[simp] theorem State.withEdit_link : (s.withEdit x).link = s.link := rfl
@[simp] theorem State.withEdit_flash : (s.withEdit x).flash = s.flash := rfl
@[simp] theorem State.withEdit_choices : (s.withEdit x).choices = s.choices := rfl
@[simp] theorem State.withEdit_pending : (s.withEdit x).pending = s.pending := rfl
end

section
variable (s : State) (x : Link)
@[simp] theorem State.withLink_running : (s.withLink x).running = s.running := rfl
@[simp] theorem State.withLink_cause : (s.withLink x).cause = s.cause := rfl
@[simp] theorem State.withLink_clock : (s.withLink x).clock = s.clock := rfl
@[simp] theorem State.withLink_keys : (s.withLink x).keys = s.keys := rfl
@[simp] theorem State.withLink_touch : (s.withLink x).touch = s.touch := rfl
@[simp] theorem State.withLink_pedals : (s.withLink x).pedals = s.pedals := rfl
@[simp] theorem State.withLink_router : (s.withLink x).router = s.router := rfl
@[simp] theorem State.withLink_engine : (s.withLink x).engine = s.engine := rfl
@[simp] theorem State.withLink_output : (s.withLink x).output = s.output := rfl
@[simp] theorem State.withLink_rail : (s.withLink x).rail = s.rail := rfl
@[simp] theorem State.withLink_store : (s.withLink x).store = s.store := rfl
@[simp] theorem State.withLink_recorder : (s.withLink x).recorder = s.recorder := rfl
@[simp] theorem State.withLink_bulk : (s.withLink x).bulk = s.bulk := rfl
@[simp] theorem State.withLink_player : (s.withLink x).player = s.player := rfl
@[simp] theorem State.withLink_guide : (s.withLink x).guide = s.guide := rfl
@[simp] theorem State.withLink_edit : (s.withLink x).edit = s.edit := rfl
@[simp] theorem State.withLink_link : (s.withLink x).link = x := rfl
@[simp] theorem State.withLink_flash : (s.withLink x).flash = s.flash := rfl
@[simp] theorem State.withLink_choices : (s.withLink x).choices = s.choices := rfl
@[simp] theorem State.withLink_pending : (s.withLink x).pending = s.pending := rfl
end

section
variable (s : State) (x : Nat)
@[simp] theorem State.withChoices_running : (s.withChoices x).running = s.running := rfl
@[simp] theorem State.withChoices_cause : (s.withChoices x).cause = s.cause := rfl
@[simp] theorem State.withChoices_clock : (s.withChoices x).clock = s.clock := rfl
@[simp] theorem State.withChoices_keys : (s.withChoices x).keys = s.keys := rfl
@[simp] theorem State.withChoices_touch : (s.withChoices x).touch = s.touch := rfl
@[simp] theorem State.withChoices_pedals : (s.withChoices x).pedals = s.pedals := rfl
@[simp] theorem State.withChoices_router : (s.withChoices x).router = s.router := rfl
@[simp] theorem State.withChoices_engine : (s.withChoices x).engine = s.engine := rfl
@[simp] theorem State.withChoices_output : (s.withChoices x).output = s.output := rfl
@[simp] theorem State.withChoices_rail : (s.withChoices x).rail = s.rail := rfl
@[simp] theorem State.withChoices_store : (s.withChoices x).store = s.store := rfl
@[simp] theorem State.withChoices_recorder : (s.withChoices x).recorder = s.recorder := rfl
@[simp] theorem State.withChoices_bulk : (s.withChoices x).bulk = s.bulk := rfl
@[simp] theorem State.withChoices_player : (s.withChoices x).player = s.player := rfl
@[simp] theorem State.withChoices_guide : (s.withChoices x).guide = s.guide := rfl
@[simp] theorem State.withChoices_edit : (s.withChoices x).edit = s.edit := rfl
@[simp] theorem State.withChoices_link : (s.withChoices x).link = s.link := rfl
@[simp] theorem State.withChoices_flash : (s.withChoices x).flash = s.flash := rfl
@[simp] theorem State.withChoices_choices : (s.withChoices x).choices = x := rfl
@[simp] theorem State.withChoices_pending : (s.withChoices x).pending = s.pending := rfl
end

section
variable (b : NoticeBody) (s : State)
@[simp] theorem raise_running : (raise b s).running = s.running := rfl
@[simp] theorem raise_cause : (raise b s).cause = s.cause := rfl
@[simp] theorem raise_clock : (raise b s).clock = s.clock := rfl
@[simp] theorem raise_keys : (raise b s).keys = s.keys := rfl
@[simp] theorem raise_touch : (raise b s).touch = s.touch := rfl
@[simp] theorem raise_pedals : (raise b s).pedals = s.pedals := rfl
@[simp] theorem raise_router : (raise b s).router = s.router := rfl
@[simp] theorem raise_engine : (raise b s).engine = s.engine := rfl
@[simp] theorem raise_output : (raise b s).output = s.output := rfl
@[simp] theorem raise_rail : (raise b s).rail = s.rail := rfl
@[simp] theorem raise_store : (raise b s).store = s.store := rfl
@[simp] theorem raise_recorder : (raise b s).recorder = s.recorder := rfl
@[simp] theorem raise_bulk : (raise b s).bulk = s.bulk := rfl
@[simp] theorem raise_player : (raise b s).player = s.player := rfl
@[simp] theorem raise_guide : (raise b s).guide = s.guide := rfl
@[simp] theorem raise_edit : (raise b s).edit = s.edit := rfl
@[simp] theorem raise_flash : (raise b s).flash = s.flash := rfl
@[simp] theorem raise_choices : (raise b s).choices = s.choices := rfl
@[simp] theorem raise_pending : (raise b s).pending = s.pending := rfl
end

section
variable (r : Reply) (s : State)
@[simp] theorem placeReply_running : (placeReply r s).running = s.running := rfl
@[simp] theorem placeReply_cause : (placeReply r s).cause = s.cause := rfl
@[simp] theorem placeReply_clock : (placeReply r s).clock = s.clock := rfl
@[simp] theorem placeReply_keys : (placeReply r s).keys = s.keys := rfl
@[simp] theorem placeReply_touch : (placeReply r s).touch = s.touch := rfl
@[simp] theorem placeReply_pedals : (placeReply r s).pedals = s.pedals := rfl
@[simp] theorem placeReply_router : (placeReply r s).router = s.router := rfl
@[simp] theorem placeReply_engine : (placeReply r s).engine = s.engine := rfl
@[simp] theorem placeReply_output : (placeReply r s).output = s.output := rfl
@[simp] theorem placeReply_rail : (placeReply r s).rail = s.rail := rfl
@[simp] theorem placeReply_store : (placeReply r s).store = s.store := rfl
@[simp] theorem placeReply_recorder : (placeReply r s).recorder = s.recorder := rfl
@[simp] theorem placeReply_bulk : (placeReply r s).bulk = s.bulk := rfl
@[simp] theorem placeReply_player : (placeReply r s).player = s.player := rfl
@[simp] theorem placeReply_guide : (placeReply r s).guide = s.guide := rfl
@[simp] theorem placeReply_edit : (placeReply r s).edit = s.edit := rfl
@[simp] theorem placeReply_flash : (placeReply r s).flash = s.flash := rfl
@[simp] theorem placeReply_choices : (placeReply r s).choices = s.choices := rfl
@[simp] theorem placeReply_pending : (placeReply r s).pending = s.pending := rfl
end

section
variable (c : Byte) (st : Status) (s : State)
@[simp] theorem answer_running : (answer c st s).running = s.running := rfl
@[simp] theorem answer_cause : (answer c st s).cause = s.cause := rfl
@[simp] theorem answer_clock : (answer c st s).clock = s.clock := rfl
@[simp] theorem answer_keys : (answer c st s).keys = s.keys := rfl
@[simp] theorem answer_touch : (answer c st s).touch = s.touch := rfl
@[simp] theorem answer_pedals : (answer c st s).pedals = s.pedals := rfl
@[simp] theorem answer_router : (answer c st s).router = s.router := rfl
@[simp] theorem answer_engine : (answer c st s).engine = s.engine := rfl
@[simp] theorem answer_output : (answer c st s).output = s.output := rfl
@[simp] theorem answer_rail : (answer c st s).rail = s.rail := rfl
@[simp] theorem answer_store : (answer c st s).store = s.store := rfl
@[simp] theorem answer_recorder : (answer c st s).recorder = s.recorder := rfl
@[simp] theorem answer_bulk : (answer c st s).bulk = s.bulk := rfl
@[simp] theorem answer_player : (answer c st s).player = s.player := rfl
@[simp] theorem answer_guide : (answer c st s).guide = s.guide := rfl
@[simp] theorem answer_edit : (answer c st s).edit = s.edit := rfl
@[simp] theorem answer_flash : (answer c st s).flash = s.flash := rfl
@[simp] theorem answer_choices : (answer c st s).choices = s.choices := rfl
@[simp] theorem answer_pending : (answer c st s).pending = s.pending := rfl
end

section
variable (c : Byte) (d : List Byte) (s : State)
@[simp] theorem answerData_running : (answerData c d s).running = s.running := rfl
@[simp] theorem answerData_cause : (answerData c d s).cause = s.cause := rfl
@[simp] theorem answerData_clock : (answerData c d s).clock = s.clock := rfl
@[simp] theorem answerData_keys : (answerData c d s).keys = s.keys := rfl
@[simp] theorem answerData_touch : (answerData c d s).touch = s.touch := rfl
@[simp] theorem answerData_pedals : (answerData c d s).pedals = s.pedals := rfl
@[simp] theorem answerData_router : (answerData c d s).router = s.router := rfl
@[simp] theorem answerData_engine : (answerData c d s).engine = s.engine := rfl
@[simp] theorem answerData_output : (answerData c d s).output = s.output := rfl
@[simp] theorem answerData_rail : (answerData c d s).rail = s.rail := rfl
@[simp] theorem answerData_store : (answerData c d s).store = s.store := rfl
@[simp] theorem answerData_recorder : (answerData c d s).recorder = s.recorder := rfl
@[simp] theorem answerData_bulk : (answerData c d s).bulk = s.bulk := rfl
@[simp] theorem answerData_player : (answerData c d s).player = s.player := rfl
@[simp] theorem answerData_guide : (answerData c d s).guide = s.guide := rfl
@[simp] theorem answerData_edit : (answerData c d s).edit = s.edit := rfl
@[simp] theorem answerData_flash : (answerData c d s).flash = s.flash := rfl
@[simp] theorem answerData_choices : (answerData c d s).choices = s.choices := rfl
@[simp] theorem answerData_pending : (answerData c d s).pending = s.pending := rfl
end

section
variable  (s : State)
@[simp] theorem chooseTx_running : (chooseTx s).running = s.running := rfl
@[simp] theorem chooseTx_cause : (chooseTx s).cause = s.cause := rfl
@[simp] theorem chooseTx_clock : (chooseTx s).clock = s.clock := rfl
@[simp] theorem chooseTx_keys : (chooseTx s).keys = s.keys := rfl
@[simp] theorem chooseTx_touch : (chooseTx s).touch = s.touch := rfl
@[simp] theorem chooseTx_pedals : (chooseTx s).pedals = s.pedals := rfl
@[simp] theorem chooseTx_router : (chooseTx s).router = s.router := rfl
@[simp] theorem chooseTx_engine : (chooseTx s).engine = s.engine := rfl
@[simp] theorem chooseTx_output : (chooseTx s).output = s.output := rfl
@[simp] theorem chooseTx_rail : (chooseTx s).rail = s.rail := rfl
@[simp] theorem chooseTx_store : (chooseTx s).store = s.store := rfl
@[simp] theorem chooseTx_recorder : (chooseTx s).recorder = s.recorder := rfl
@[simp] theorem chooseTx_bulk : (chooseTx s).bulk = s.bulk := rfl
@[simp] theorem chooseTx_player : (chooseTx s).player = s.player := rfl
@[simp] theorem chooseTx_guide : (chooseTx s).guide = s.guide := rfl
@[simp] theorem chooseTx_edit : (chooseTx s).edit = s.edit := rfl
@[simp] theorem chooseTx_flash : (chooseTx s).flash = s.flash := rfl
@[simp] theorem chooseTx_choices : (chooseTx s).choices = s.choices := rfl
@[simp] theorem chooseTx_pending : (chooseTx s).pending = s.pending := rfl
end

@[simp] theorem chooseTx_link (s : State) : (chooseTx s).link = s.link.transmit := rfl

@[simp] theorem placeReply_link (r : Reply) (s : State) :
    (placeReply r s).link = { s.link with slot := some r } := rfl

@[simp] theorem raise_link (b : NoticeBody) (s : State) :
    (raise b s).link = s.link.note b s.clock.ms := rfl

end Sys2Proof.Machine
end

