-- ==== Sys2Proof/Laws/Link.lean ====
section
/-! SUPPORT. What the shared operations of the Serial Link can do: placing and taking notices, the
transmitter's choice, the decoder, and the link's work at the end of a step. -/

namespace Sys2Proof.Machine

/-! ### Placing a notice (R186) -/

theorem lowestClass_isSome {q : List Notice} (h : q ≠ []) : ∃ c, lowestClass q = some c := by
  cases q with
  | nil => exact absurd rfl h
  | cons n ns =>
    simp only [lowestClass]
    split <;> exact ⟨_, rfl⟩

/-- The lowest class of a queue is the class of one of its notices and no notice has a lower one. -/
theorem lowestClass_spec {q : List Notice} {c : Nat} (h : lowestClass q = some c) :
    (∃ n ∈ q, n.cls = c) ∧ ∀ n ∈ q, c ≤ n.cls := by
  induction q generalizing c with
  | nil => simp [lowestClass] at h
  | cons m ms ih =>
    simp only [lowestClass] at h
    split at h
    · rename_i hn
      cases h
      cases ms with
      | nil => simp
      | cons x xs => obtain ⟨d, hd⟩ := lowestClass_isSome (q := x :: xs) (by simp); simp [hd] at hn
    · rename_i d hd
      cases h
      obtain ⟨⟨n, hn, hc⟩, hall⟩ := ih hd
      refine ⟨?_, ?_⟩
      · by_cases hlt : m.cls ≤ d
        · exact ⟨m, by simp, by omega⟩
        · exact ⟨n, by simp [hn], by omega⟩
      · intro n hn
        rcases List.mem_cons.1 hn with rfl | hn
        · omega
        · have := hall n hn; omega

/-- Removing the newest notice of a class that is present removes one notice. -/
theorem removeNewest_length {c : Nat} {q : List Notice} (h : ∃ n ∈ q, n.cls = c) :
    (removeNewest c q).length + 1 = q.length := by
  obtain ⟨n, hn, hc⟩ := h
  have := List.length_eraseP_of_mem (p := fun n : Notice => n.cls == c) (l := q.reverse) (a := n)
    (by simpa using hn) (by simp [hc])
  have hpos : 0 < q.length := List.length_pos_of_mem hn
  simp only [removeNewest, List.length_reverse] at this ⊢
  omega

/-- The notices left by removing the newest of a class were there before. -/
theorem mem_of_mem_removeNewest {c : Nat} {q : List Notice} {n : Notice} (h : n ∈ removeNewest c q) :
    n ∈ q := by
  have h' : n ∈ q.reverse.eraseP fun n => n.cls == c := by simpa [removeNewest] using h
  simpa using List.mem_of_mem_eraseP h'

/-- Placing a notice keeps the bound of the queue (R185). -/
theorem Link.place_bound (l : Link) (n : Notice) (h : l.notices.length ≤ 64) :
    (l.place n).notices.length ≤ 64 := by
  unfold Link.place
  split
  · simp; omega
  · split
    · exact h
    · rename_i hc
      split
      · have := removeNewest_length (lowestClass_spec hc).1
        simp; omega
      · exact h

section
variable (l : Link) (n : Notice)

@[simp] theorem Link.place_framer : (l.place n).framer = l.framer := by
  unfold Link.place; repeat' split
  all_goals rfl
@[simp] theorem Link.place_gapUs : (l.place n).gapUs = l.gapUs := by
  unfold Link.place; repeat' split
  all_goals rfl
@[simp] theorem Link.place_held : (l.place n).held = l.held := by
  unfold Link.place; repeat' split
  all_goals rfl
@[simp] theorem Link.place_ignoring : (l.place n).ignoring = l.ignoring := by
  unfold Link.place; repeat' split
  all_goals rfl
@[simp] theorem Link.place_intake : (l.place n).intake = l.intake := by
  unfold Link.place; repeat' split
  all_goals rfl
@[simp] theorem Link.place_slot : (l.place n).slot = l.slot := by
  unfold Link.place; repeat' split
  all_goals rfl
@[simp] theorem Link.place_resetAwait : (l.place n).resetAwait = l.resetAwait := by
  unfold Link.place; repeat' split
  all_goals rfl
@[simp] theorem Link.place_tx : (l.place n).tx = l.tx := by
  unfold Link.place; repeat' split
  all_goals rfl
@[simp] theorem Link.place_classes : (l.place n).classes = l.classes := by
  unfold Link.place; repeat' split
  all_goals rfl
@[simp] theorem Link.place_cts : (l.place n).cts = l.cts := by
  unfold Link.place; repeat' split
  all_goals rfl
@[simp] theorem Link.place_core : (l.place n).core = l.core := by
  unfold Link.place; repeat' split
  all_goals rfl
end

section
variable (l : Link) (b : NoticeBody) (ms : W32)

@[simp] theorem Link.note_framer : (l.note b ms).framer = l.framer := Link.place_framer _ _
@[simp] theorem Link.note_gapUs : (l.note b ms).gapUs = l.gapUs := Link.place_gapUs _ _
@[simp] theorem Link.note_held : (l.note b ms).held = l.held := Link.place_held _ _
@[simp] theorem Link.note_ignoring : (l.note b ms).ignoring = l.ignoring := Link.place_ignoring _ _
@[simp] theorem Link.note_intake : (l.note b ms).intake = l.intake := Link.place_intake _ _
@[simp] theorem Link.note_slot : (l.note b ms).slot = l.slot := Link.place_slot _ _
@[simp] theorem Link.note_resetAwait : (l.note b ms).resetAwait = l.resetAwait :=
  Link.place_resetAwait _ _
@[simp] theorem Link.note_tx : (l.note b ms).tx = l.tx := Link.place_tx _ _
@[simp] theorem Link.note_classes : (l.note b ms).classes = l.classes := Link.place_classes _ _
@[simp] theorem Link.note_cts : (l.note b ms).cts = l.cts := Link.place_cts _ _
@[simp] theorem Link.note_core : (l.note b ms).core = l.core := Link.place_core _ _

theorem Link.note_bound (h : l.notices.length ≤ 64) : (l.note b ms).notices.length ≤ 64 :=
  l.place_bound _ h
end

/-! ### The transmitter's choice (R184, R185) -/

section
variable (l : Link)

/-- The transmitter keeps what it has, takes the reply in the slot, or takes a notice. -/
theorem Link.transmit_cases :
    l.transmit = l ∨
    (l.tx = none ∧ l.cts = true ∧
      ∃ r, l.slot = some r ∧ l.transmit = { l with slot := none, tx := some (.reply r) }) ∨
    (l.tx = none ∧ l.cts = true ∧ l.slot = none ∧
      ∃ n rest, takeOldest l.notices = some (n, rest) ∧
        l.transmit = { l with notices := rest, lost := false, tx := some (.notice n l.lost) }) := by
  unfold Link.transmit
  split
  · exact .inl rfl
  · rename_i h
    simp only [Bool.or_eq_true, Bool.not_eq_true', not_or, Bool.not_eq_false, Bool.not_eq_true] at h
    have htx : l.tx = none := by simpa using h.1
    split
    · exact .inr (.inl ⟨htx, h.2, _, by assumption, rfl⟩)
    · split
      · exact .inr (.inr ⟨htx, h.2, by assumption, _, _, by assumption, rfl⟩)
      · exact .inl rfl

@[simp] theorem Link.transmit_framer : l.transmit.framer = l.framer := by
  obtain h | ⟨-, -, r, -, h⟩ | ⟨-, -, -, n, q, -, h⟩ := l.transmit_cases <;> rw [h]
@[simp] theorem Link.transmit_gapUs : l.transmit.gapUs = l.gapUs := by
  obtain h | ⟨-, -, r, -, h⟩ | ⟨-, -, -, n, q, -, h⟩ := l.transmit_cases <;> rw [h]
@[simp] theorem Link.transmit_held : l.transmit.held = l.held := by
  obtain h | ⟨-, -, r, -, h⟩ | ⟨-, -, -, n, q, -, h⟩ := l.transmit_cases <;> rw [h]
@[simp] theorem Link.transmit_ignoring : l.transmit.ignoring = l.ignoring := by
  obtain h | ⟨-, -, r, -, h⟩ | ⟨-, -, -, n, q, -, h⟩ := l.transmit_cases <;> rw [h]
@[simp] theorem Link.transmit_intake : l.transmit.intake = l.intake := by
  obtain h | ⟨-, -, r, -, h⟩ | ⟨-, -, -, n, q, -, h⟩ := l.transmit_cases <;> rw [h]
@[simp] theorem Link.transmit_resetAwait : l.transmit.resetAwait = l.resetAwait := by
  obtain h | ⟨-, -, r, -, h⟩ | ⟨-, -, -, n, q, -, h⟩ := l.transmit_cases <;> rw [h]
@[simp] theorem Link.transmit_classes : l.transmit.classes = l.classes := by
  obtain h | ⟨-, -, r, -, h⟩ | ⟨-, -, -, n, q, -, h⟩ := l.transmit_cases <;> rw [h]
@[simp] theorem Link.transmit_cts : l.transmit.cts = l.cts := by
  obtain h | ⟨-, -, r, -, h⟩ | ⟨-, -, -, n, q, -, h⟩ := l.transmit_cases <;> rw [h]

/-- A transmitter that is busy or held by CTS keeps its frame and the slot. -/
theorem Link.transmit_of_held (h : l.tx.isSome = true ∨ l.cts = false) : l.transmit = l := by
  unfold Link.transmit
  rcases h with h | h <;> simp [h]

/-- The transmitter of a link with nothing to send stays idle. -/
theorem Link.transmit_of_empty (hs : l.slot = none) (hq : l.notices = []) : l.transmit = l := by
  unfold Link.transmit
  simp [hs, hq, takeOldest]

end

/-- The highest class of a queue is the class of one of its notices, and no notice has a higher one. -/
theorem highestClass_spec {q : List Notice} (h : q ≠ []) :
    (∃ n ∈ q, n.cls = highestClass q) ∧ ∀ n ∈ q, n.cls ≤ highestClass q := by
  induction q with
  | nil => exact absurd rfl h
  | cons m ms ih =>
    have hc : highestClass (m :: ms) = max m.cls (highestClass ms) := rfl
    rw [hc]
    cases ms with
    | nil => simp [highestClass]
    | cons x xs =>
      obtain ⟨⟨n, hn, he⟩, hall⟩ := ih (by simp)
      refine ⟨?_, ?_⟩
      · by_cases hlt : highestClass (x :: xs) ≤ m.cls
        · exact ⟨m, by simp, by omega⟩
        · exact ⟨n, by simp [hn], by omega⟩
      · intro y hy
        rcases List.mem_cons.1 hy with rfl | hy
        · omega
        · have := hall y hy; omega

/-- The transmitter finds a notice in every queue that is not empty (R185). -/
theorem takeOldest_isSome {q : List Notice} (h : q ≠ []) : ∃ n rest, takeOldest q = some (n, rest) := by
  obtain ⟨⟨n, hn, hc⟩, -⟩ := highestClass_spec h
  unfold takeOldest
  cases hf : q.find? fun n => n.cls == highestClass q with
  | some m => exact ⟨_, _, rfl⟩
  | none =>
    have := List.find?_eq_none.1 hf n hn
    simp [hc] at this

/-- Taking a notice shortens the queue. -/
theorem takeOldest_length {q rest : List Notice} {n : Notice} (h : takeOldest q = some (n, rest)) :
    rest.length + 1 = q.length := by
  unfold takeOldest at h
  split at h
  · rename_i m hm
    cases h
    have hmem := List.mem_of_find?_eq_some hm
    have hp := List.find?_some hm
    have := List.length_eraseP_of_mem (p := fun x : Notice => x.cls == highestClass q) hmem hp
    have : 0 < q.length := List.length_pos_of_mem hmem
    omega
  · cases h

/-- After the transmitter's choice it is busy, or CTS is deasserted, or nothing waits. -/
theorem Link.transmit_settles (l : Link) :
    l.transmit.tx.isSome = true ∨ l.cts = false ∨ (l.transmit.slot = none ∧ l.transmit.notices = []) := by
  unfold Link.transmit
  split
  · rename_i h
    simp only [Bool.or_eq_true, Bool.not_eq_true'] at h
    rcases h with h | h
    · exact .inl h
    · exact .inr (.inl h)
  · split
    · exact .inl rfl
    · split
      · exact .inl rfl
      · rename_i hs _ hn
        refine .inr (.inr ⟨hs, ?_⟩)
        by_contra hne
        obtain ⟨n, rest, h⟩ := takeOldest_isSome hne
        rw [hn] at h
        cases h

@[simp] theorem Link.transmit_transmit (l : Link) : l.transmit.transmit = l.transmit := by
  rcases l.transmit_settles with h | h | ⟨hs, hn⟩
  · exact Link.transmit_of_held _ (.inl h)
  · exact Link.transmit_of_held _ (.inr (by simpa using h))
  · exact Link.transmit_of_empty _ hs hn

/-! ### The end of a step -/

@[simp] theorem chooseTx_chooseTx (s : State) : chooseTx (chooseTx s) = chooseTx s := by
  show s.withLink (s.link.transmit.transmit) = _
  rw [Link.transmit_transmit]
  rfl

theorem takeCommand_of_nil {s : State} (h : s.link.intake = []) : takeCommand s = s := by
  unfold takeCommand
  simp [h]

theorem takeCommand_of_closed {s : State} (h : s.link.decoderOpen = false) : takeCommand s = s := by
  unfold takeCommand
  simp [h]

/-- With no frame waiting, the end of a step is the transmitter's choice. -/
theorem pump_of_nil {s : State} (hr : s.running = true) (h : s.link.intake = []) :
    pump s = chooseTx s := by
  unfold pump
  rw [if_pos hr, takeCommand_of_nil (s := chooseTx s) (by simpa using h), chooseTx_chooseTx,
    takeCommand_of_nil (by simpa using h)]

/-- A part that initializes sends and takes nothing at the end of a step. -/
theorem pump_of_not_running {s : State} (hr : s.running = false) : pump s = s := by
  unfold pump
  simp [hr]

/-- No frame can be taken before the transmitter frees the slot: none waits, or RESET_PART awaits its reset, or
the slot holds a reply that cannot be sent yet. -/
def Link.Closed (l : Link) : Prop :=
  l.intake = [] ∨ l.resetAwait = true ∨
    (l.slot.isSome = true ∧ (l.tx.isSome = true ∨ l.cts = false))

/-- Where no frame can be taken, the end of the step is the transmitter's choice. -/
theorem pump_of_closed {s : State} (hr : s.running = true) (h : s.link.Closed) : pump s = chooseTx s := by
  rcases h with h | h | ⟨hs, h⟩
  · exact pump_of_nil hr h
  · have hc : (chooseTx s).link.decoderOpen = false := by simp [Link.decoderOpen, h]
    unfold pump
    rw [if_pos hr, takeCommand_of_closed hc, chooseTx_chooseTx, takeCommand_of_closed hc]
  · have ht : chooseTx s = s := by
      show s.withLink s.link.transmit = s
      rw [Link.transmit_of_held _ h]
      rfl
    have hc : s.link.decoderOpen = false := by
      cases hsl : s.link.slot with
      | none => simp [hsl] at hs
      | some r => simp [Link.decoderOpen, hsl]
    unfold pump
    rw [if_pos hr, ht, takeCommand_of_closed hc, ht, takeCommand_of_closed hc]

/-- A link with nothing left to do is closed. -/
theorem Link.Settled.closed {l : Link} (h : l.Settled) : l.Closed := by
  obtain ⟨h1, h2⟩ := h
  rcases h1 with h1 | h1 | h1
  · exact .inl h1
  · rcases h2 with h2 | h2 | ⟨h2, -⟩
    · exact .inr (.inr ⟨h1, .inl h2⟩)
    · exact .inr (.inr ⟨h1, .inr h2⟩)
    · simp [h2] at h1
  · exact .inr (.inl h1)

/-- The link's record without notices decides what waits. -/
theorem Link.Closed.of_core {l m : Link} (h : m.core = l.core) (hl : l.Closed) : m.Closed := by
  have h1 : m.intake = l.intake := (congrArg Link.intake h :)
  have h2 : m.resetAwait = l.resetAwait := (congrArg Link.resetAwait h :)
  have h3 : m.slot = l.slot := (congrArg Link.slot h :)
  have h4 : m.tx = l.tx := (congrArg Link.tx h :)
  have h5 : m.cts = l.cts := (congrArg Link.cts h :)
  unfold Link.Closed
  rw [h1, h2, h3, h4, h5]
  exact hl

/-- A notice leaves a closed link closed. -/
theorem Link.Closed.note {l : Link} (h : l.Closed) (b : NoticeBody) (ms : W32) : (l.note b ms).Closed :=
  h.of_core (Link.note_core ..)

/-- The end of an event's step: the step found the part steady and changed the link by notices and the GAP
timer alone. -/
theorem pump_of_steady {s t : State} (h : s.Steady) (hr : t.running = s.running)
    (hc : t.link.core = s.link.core) : pump t = chooseTx t :=
  pump_of_closed (hr.trans h.1) (h.2.closed.of_core hc)

/-- A link with nothing left to do stays as it is. -/
theorem Link.transmit_of_settled {l : Link} (h : l.Settled) : l.transmit = l := by
  rcases h.2 with h | h | ⟨hs, hn⟩
  · exact Link.transmit_of_held _ (.inl h)
  · exact Link.transmit_of_held _ (.inr h)
  · exact Link.transmit_of_empty _ hs hn

theorem chooseTx_of_settled {s : State} (h : s.link.Settled) : chooseTx s = s := by
  show s.withLink s.link.transmit = s
  rw [Link.transmit_of_settled h]
  rfl

/-- The end of a step that changed nothing changes nothing. -/
theorem pump_steady {s : State} (h : s.Steady) : pump s = s := by
  rw [pump_of_steady h rfl rfl, chooseTx_of_settled h.2]

/-- An event row of a steady part that changes the link by notices and the GAP timer alone. -/
theorem endStep_event {f : State → State} {s : State} (h : s.Steady)
    (hr : (f s).running = s.running) (hc : (f s).link.core = s.link.core) :
    endStep (whenRunning f s) = .next (chooseTx (f s)) := by
  unfold endStep whenRunning
  rw [if_pos h.1, pump_of_steady h hr hc]

/-- An event row of a running part that leaves the link closed. -/
theorem endStep_closed {f : State → State} {s t : State} (h : s.running = true) (hf : f s = t)
    (hr : t.running = true) (hc : t.link.Closed) :
    endStep (whenRunning f s) = .next (chooseTx t) := by
  unfold endStep whenRunning
  rw [if_pos h, hf, pump_of_closed hr hc]

/-- An event row that finds nothing to do. -/
theorem endStep_idle {f : State → State} {s : State} (h : s.Steady) (hf : f s = s) :
    endStep (whenRunning f s) = .next s := by
  rw [endStep_event h (by rw [hf]) (by rw [hf]), hf, chooseTx_of_settled h.2]

/-! ### A host command that is heard and taken at once (R181) -/

/-- The frame of a host command, when the part is ready for it. -/
theorem hostCommand_of_ready {i : Instr} {take : State → State} {s : State} {f : Frame} (h : s.Ready)
    (hf : frameOf i = some f) (hl : f.payload.length ≤ 60) : hostCommand i take s = take s := by
  obtain ⟨h1, h2, h3, h4⟩ := h
  unfold hostCommand
  rw [hf]
  simp [h1, h2, h3, h4, Config.maxPayload, Nat.not_lt.2 hl]

/-- A host command's step, when the part is ready for it and the command leaves the intake alone. -/
theorem endStep_hostCommand {i : Instr} {take : State → State} {s : State} {f : Frame} (h : s.Ready)
    (hf : frameOf i = some f) (hl : f.payload.length ≤ 60) (hr : (take s).running = true)
    (hi : (take s).link.intake = []) :
    endStep (hostCommand i take s) = .next (chooseTx (take s)) := by
  rw [hostCommand_of_ready h hf hl]
  exact congrArg Host.Outcome.next (pump_of_nil hr hi)

/-- The step of a command that answers with a status and leaves the link otherwise as it was. -/
theorem chooseTx_answer (code : Byte) (st : Status) (s : State) :
    chooseTx (answer code st s) = s.withLink (s.link.reply code st []) := rfl

/-- The step of a command that answers OK with data and leaves the link otherwise as it was. -/
theorem chooseTx_answerData (code : Byte) (data : List Byte) (s : State) :
    chooseTx (answerData code data s) = s.withLink (s.link.reply code .ok data) := rfl

/-! ### What notices and replies leave on the link -/

@[simp] theorem answer_link (code : Byte) (st : Status) (s : State) :
    (answer code st s).link = { s.link with slot := some ⟨replyType code, st, [], false⟩ } := rfl
@[simp] theorem answerData_link (code : Byte) (data : List Byte) (s : State) :
    (answerData code data s).link = { s.link with slot := some ⟨replyType code, .ok, data, false⟩ } := rfl

/-- Placing a notice and placing a reply do not read each other's place. -/
theorem Link.note_withSlot (l : Link) (x : Option Reply) (b : NoticeBody) (ms : W32) :
    Link.note { l with slot := x } b ms = { l.note b ms with slot := x } := by
  unfold Link.note Link.place
  simp only
  repeat' split
  all_goals rfl

/-- After its reply a command stands answered. -/
theorem Link.reply_answered (l : Link) (code : Byte) (st : Status) (data : List Byte) :
    (l.reply code st data).Answered code st data := by
  unfold Link.reply Link.transmit Link.Answered
  split
  · exact .inl rfl
  · exact .inr ⟨rfl, rfl⟩

end Sys2Proof.Machine
end

