-- ==== Sys2Proof/Laws/Frame.lean ====
section
/-! SUPPORT. What routing an event, a change of the rail and the passing of time leave as they were: one
frame for each, one lemma for each shared operation. -/

namespace Sys2Proof.Machine

/-! ### Routing an event -/

/-- What one routed event leaves as it was: every block it cannot reach, the link but for notices, and in the
blocks it reaches their settings. Of the Player it can change the state alone. -/
structure EventFrame (s t : State) : Prop where
  running : t.running = s.running
  cause : t.cause = s.cause
  clock : t.clock = s.clock
  keys : t.keys = s.keys
  touch : t.touch = s.touch
  pedals : t.pedals = s.pedals
  output : t.output = s.output
  rail : t.rail = s.rail
  bulk : t.bulk = s.bulk
  edit : t.edit = s.edit
  flash : t.flash = s.flash
  pending : t.pending = s.pending
  core : t.link.core = s.link.core
  routes : t.router.routes = s.router.routes
  map : t.engine.map = s.engine.map
  wait : t.guide.wait = s.guide.wait
  grace : t.guide.grace = s.guide.grace
  player : { t.player with state := s.player.state } = s.player

theorem EventFrame.refl (s : State) : EventFrame s s := by constructor <;> rfl

theorem EventFrame.trans {s t u : State} (h : EventFrame s t) (k : EventFrame t u) : EventFrame s u := by
  constructor
  case player =>
    rw [← h.player]
    exact congrArg (fun p : Player => { p with state := s.player.state }) k.player
  all_goals first
    | exact k.running.trans h.running
    | exact k.cause.trans h.cause
    | exact k.clock.trans h.clock
    | exact k.keys.trans h.keys
    | exact k.touch.trans h.touch
    | exact k.pedals.trans h.pedals
    | exact k.output.trans h.output
    | exact k.rail.trans h.rail
    | exact k.bulk.trans h.bulk
    | exact k.edit.trans h.edit
    | exact k.flash.trans h.flash
    | exact k.pending.trans h.pending
    | exact k.core.trans h.core
    | exact k.routes.trans h.routes
    | exact k.map.trans h.map
    | exact k.wait.trans h.wait
    | exact k.grace.trans h.grace

/-- A fold of steps that each keep the frame keeps it. -/
theorem EventFrame.foldl {α : Type} {f : State → α → State} (hf : ∀ s a, EventFrame s (f s a))
    (l : List α) (s : State) : EventFrame s (l.foldl f s) := by
  induction l generalizing s with
  | nil => exact EventFrame.refl s
  | cons a l ih => exact (hf s a).trans (ih (f s a))

theorem raise_frame (b : NoticeBody) (s : State) : EventFrame s (raise b s) := by
  constructor <;> simp

theorem withEngine_frame {s : State} {e : Engine} (h : e.map = s.engine.map) :
    EventFrame s (s.withEngine e) := by
  constructor <;> simp [h]

theorem withRouter_frame {s : State} {r : Router} (h : r.routes = s.router.routes) :
    EventFrame s (s.withRouter r) := by
  constructor <;> simp [h]

theorem withGuide_frame {s : State} {g : Guide} (hw : g.wait = s.guide.wait)
    (hg : g.grace = s.guide.grace) : EventFrame s (s.withGuide g) := by
  constructor <;> simp [hw, hg]

theorem withStore_frame (s : State) (st : Store) : EventFrame s (s.withStore st) := by
  constructor <;> simp

theorem withRecorder_frame (s : State) (r : Option Recording) : EventFrame s (s.withRecorder r) := by
  constructor <;> simp

theorem playerState_frame (s : State) (st : PlayState) :
    EventFrame s (s.withPlayer { s.player with state := st }) := by
  constructor <;> simp

theorem drawChoice_frame (n : Nat) (s : State) : EventFrame s (drawChoice n s).2 := by
  constructor <;> simp [drawChoice]

/-! The Voice Engine. -/

section
variable (e : Engine)

@[simp] theorem Engine.withSource_map (src : Source) (x : SourceState) : (e.withSource src x).map = e.map := by
  cases src <;> rfl

@[simp] theorem Engine.withSource_voices (src : Source) (x : SourceState) :
    (e.withSource src x).voices = e.voices := by cases src <;> rfl

@[simp] theorem Engine.withSource_queue (src : Source) (x : SourceState) :
    (e.withSource src x).queue = e.queue := by cases src <;> rfl

@[simp] theorem Engine.withSource_nextSeq (src : Source) (x : SourceState) :
    (e.withSource src x).nextSeq = e.nextSeq := by cases src <;> rfl

@[simp] theorem Engine.source_withSource (src : Source) (x : SourceState) :
    (e.withSource src x).source src = x := by cases src <;> rfl

theorem Engine.limitKey_map (k : Key) : (e.limitKey k).2.map = e.map := by
  unfold Engine.limitKey
  repeat' split
  all_goals rfl

theorem Engine.allocate_map (k : Key) (src : Source) (v layer : Nat) :
    (e.allocate k src v layer).2.map = e.map := by
  unfold Engine.allocate
  repeat' split
  all_goals rfl

theorem Engine.noteOn_map (src : Source) (k : Key) (v : Nat) : (e.noteOn src k v).2.map = e.map := by
  unfold Engine.noteOn
  dsimp only
  split
  · simp [Engine.markDown]
  · simp [Engine.allocate_map, Engine.limitKey_map, Engine.releaseKey, Engine.markDown]

theorem Engine.sostOn_map (src : Source) : (e.sostOn src).map = e.map := by
  unfold Engine.sostOn
  dsimp only
  split
  · rfl
  · simp
end

theorem engineEvent_frame (ev : Event) (s : State) : EventFrame s (engineEvent ev s) := by
  unfold engineEvent
  cases ev.kind with
  | noteOn k v r =>
    exact (withEngine_frame (Engine.noteOn_map ..)).trans (EventFrame.foldl (fun s n => raise_frame n s) _ _)
  | noteOff k f => exact withEngine_frame (by simp [Engine.noteOff, Engine.releaseKey])
  | silentPress k => exact withEngine_frame (by simp [Engine.markDown])
  | damper v => exact withEngine_frame (by simp [Engine.damper])
  | soft v => exact EventFrame.refl s
  | sostOn => exact withEngine_frame (Engine.sostOn_map ..)
  | sostOff => exact withEngine_frame (by simp [Engine.sostOff])

/-! The Recorder. -/

theorem endRecording_frame (r : Recording) (c : RecordEndCause) (time : Nat) (s : State) :
    EventFrame s (endRecording r c time s) :=
  (withStore_frame s _).trans ((withRecorder_frame _ _).trans (raise_frame _ _))

theorem recordBody_frame (r : Recording) (time : Nat) (b : Body) (s : State) :
    EventFrame s (recordBody r time b s) := by
  unfold recordBody
  split
  · exact (withStore_frame s _).trans (withRecorder_frame _ _)
  · exact endRecording_frame ..

theorem recordGap_frame (s : State) : EventFrame s (recordGap s) := by
  unfold recordGap
  split
  · exact EventFrame.refl s
  · exact recordBody_frame ..

theorem recordGaps_frame (n : Nat) (s : State) : EventFrame s (recordGaps n s) := by
  induction n generalizing s with
  | zero => exact EventFrame.refl s
  | succ n ih => exact (recordGap_frame s).trans (ih _)

theorem recordOverdueGaps_frame (time : Nat) (s : State) : EventFrame s (recordOverdueGaps time s) := by
  unfold recordOverdueGaps
  split
  · exact EventFrame.refl s
  · exact recordGaps_frame ..

theorem recorderEvent_frame (ev : Event) (s : State) : EventFrame s (recorderEvent ev s) := by
  unfold recorderEvent
  split
  · exact EventFrame.refl s
  · split
    · exact EventFrame.refl s
    · dsimp only
      split
      · exact recordOverdueGaps_frame ..
      · split
        · exact recordOverdueGaps_frame ..
        · exact (recordOverdueGaps_frame ..).trans (recordBody_frame ..)

theorem takeGapExpiry_frame (s : State) : EventFrame s (takeGapExpiry s) := by
  unfold takeGapExpiry
  split
  · exact EventFrame.refl s
  · split
    · exact recordGap_frame s
    · exact EventFrame.refl s

/-! The Guide and the router. -/

theorem notifyEvent_frame (ev : Event) (s : State) : EventFrame s (notifyEvent ev s) := by
  unfold notifyEvent
  split <;> exact raise_frame ..

theorem playerNotice_frame (t : Option TakeId) (c : PlayCause) (s : State) :
    EventFrame s (playerNotice t c s) := raise_frame ..

theorem releaseWait_frame (s : State) : EventFrame s (releaseWait s) := by
  unfold releaseWait
  split
  · exact (playerState_frame s _).trans (playerNotice_frame ..)
  · exact EventFrame.refl s

theorem setExpected_frame (ks : KeySet) (s : State) : EventFrame s (setExpected ks s) :=
  withGuide_frame rfl rfl

theorem clearExpected_frame (s : State) : EventFrame s (clearExpected s) := setExpected_frame ..

theorem setRecent_frame (l : List Press) (s : State) : EventFrame s (setRecent l s) := withRouter_frame rfl

theorem guideOffer_frame (k : Key) (s : State) : EventFrame s (guideOffer k s) := by
  unfold guideOffer
  split
  · exact (setExpected_frame ..).trans (releaseWait_frame _)
  · exact setRecent_frame ..

theorem guideExpect_frame (k : Key) (c : Bool) (s : State) : EventFrame s (guideExpect k c s) := by
  unfold guideExpect
  repeat' split
  · exact raise_frame ..
  · exact raise_frame ..
  · exact (setExpected_frame ..).trans (raise_frame ..)
  · exact raise_frame ..

theorem guideWaitOn_frame (k : Key) (s : State) : EventFrame s (guideWaitOn k s) :=
  (setRecent_frame ..).trans (guideExpect_frame ..)

theorem guideEvent_frame (ev : Event) (s : State) : EventFrame s (guideEvent ev s) := by
  unfold guideEvent
  split
  · split
    · exact guideWaitOn_frame ..
    · exact raise_frame ..
  · exact raise_frame ..
  all_goals exact EventFrame.refl s

/-- What a draw and each delivery keep, a delivery in any order keeps. -/
theorem deliverFreely_keeps {P : State → Prop} (hd : ∀ n s, P s → P (drawChoice n s).2) :
    ∀ (n : Nat) (fs : List (State → State)) (s : State), (∀ f ∈ fs, ∀ s, P s → P (f s)) → P s →
      P (deliverFreely n fs s)
  | 0, _, _, _, h => h
  | _ + 1, [], _, _, h => h
  | _ + 1, [f], s, hf, h => hf f (by simp) s h
  | n + 1, f :: g :: fs, s, hf, h => by
    have next : ∀ o : Option (State → State), (∀ f', o = some f' → f' ∈ f :: g :: fs) →
        P ((o.getD id) (drawChoice (f :: g :: fs).length s).2) := by
      intro o m
      cases o with
      | none => exact hd _ _ h
      | some f' => exact hf f' (m f' rfl) _ (hd _ _ h)
    refine deliverFreely_keeps hd n _ _ (fun f' m => hf f' (List.mem_of_mem_eraseIdx m)) ?_
    rw [List.getD_eq_getElem?_getD]
    exact next _ fun f' e => List.mem_of_getElem? e

/-- What each delivery keeps, all of them in turn keep. -/
theorem foldl_keeps {P : State → Prop} (s : State) (fs : List (State → State))
    (hf : ∀ f ∈ fs, ∀ s, P s → P (f s)) (h : P s) : P (fs.foldl (fun s f => f s) s) := by
  induction fs generalizing s with
  | nil => exact h
  | cons f fs ih => exact ih _ (fun f' m => hf f' (by simp [m])) (hf f (by simp) s h)

/-- What each of the four deliveries and a draw keep, the delivery of an event keeps. -/
theorem deliver_keeps {P : State → Prop} (ev : Event) (hd : ∀ n s, P s → P (drawChoice n s).2)
    (he : ∀ s, P s → P (engineEvent ev s)) (hr : ∀ s, P s → P (recorderEvent ev s))
    (hn : ∀ s, P s → P (notifyEvent ev s)) (hg : ∀ s, P s → P (guideEvent ev s)) (d : Dests) (s : State)
    (h : P s) : P (deliver d ev s) := by
  have each : ∀ f ∈ deliveries d ev, ∀ s, P s → P (f s) := by
    intro f m
    simp only [deliveries, List.mem_append] at m
    rcases m with ((m | m) | m) | m <;> split at m <;> simp at m <;> subst m <;> assumption
  simp only [deliver]
  split
  · exact deliverFreely_keeps hd _ _ s each h
  · exact foldl_keeps s _ each h

theorem deliver_frame (d : Dests) (ev : Event) (s : State) : EventFrame s (deliver d ev s) :=
  deliver_keeps (P := EventFrame s) ev (fun _ _ h => h.trans (drawChoice_frame ..))
    (fun _ h => h.trans (engineEvent_frame ..)) (fun _ h => h.trans (recorderEvent_frame ..))
    (fun _ h => h.trans (notifyEvent_frame ..)) (fun _ h => h.trans (guideEvent_frame ..)) d s
    (EventFrame.refl s)

theorem guideCheck_frame (ev : Event) (s : State) : EventFrame s (guideCheck ev s) := by
  unfold guideCheck
  split
  · exact guideOffer_frame ..
  · exact EventFrame.refl s

/-- What routing one event leaves as it was. -/
theorem routeEvent_frame (ev : Event) (s : State) : EventFrame s (routeEvent ev s) :=
  (guideCheck_frame ev s).trans (deliver_frame ..)

theorem keyEvent_frame (key : Key) (stamp : W32) (a : KeyAct) (s : State) :
    EventFrame s (keyEvent key stamp a s) := routeEvent_frame ..

theorem keyFaultNotice_frame (key : Key) (raw : Nat) (x : Supervision) (s : State) :
    EventFrame s (keyFaultNotice key raw x s) := by
  cases x
  · exact EventFrame.refl s
  · exact raise_frame ..
  · exact raise_frame ..

theorem pedalFaultNotice_frame (p : Pedal) (raw : Nat) (x : PedalSupervision) (s : State) :
    EventFrame s (pedalFaultNotice p raw x s) := by
  cases x
  · exact EventFrame.refl s
  · exact raise_frame ..
  · exact raise_frame ..

theorem playbackEvent_frame (k : EventKind) (s : State) : EventFrame s (playbackEvent k s) :=
  routeEvent_frame ..

theorem playbackEvents_frame (ks : List EventKind) (s : State) : EventFrame s (playbackEvents ks s) :=
  EventFrame.foldl (fun s k => playbackEvent_frame k s) ks s

theorem reportMarkers_frame (f : Nat → Bool) (s : State) : EventFrame s (reportMarkers f s) := by
  refine EventFrame.foldl (fun s i => ?_) _ s
  split
  · split
    · exact raise_frame ..
    · exact EventFrame.refl s
  · exact EventFrame.refl s

/-! ### Changes of the rail -/

/-- What the Rail Controller leaves as it was: everything but its record, the notices and the counter of open
choices. -/
structure RailFrame (s t : State) : Prop where
  rest : ((t.withRail s.rail).withLink s.link).withChoices s.choices = s
  core : t.link.core = s.link.core

theorem RailFrame.refl (s : State) : RailFrame s s := ⟨rfl, rfl⟩

theorem RailFrame.trans {s t u : State} (h : RailFrame s t) (k : RailFrame t u) : RailFrame s u := by
  refine ⟨?_, k.core.trans h.core⟩
  have := congrArg (fun x : State => ((x.withRail s.rail).withLink s.link).withChoices s.choices) k.rest
  exact this.trans h.rest

/-- A field other than the rail, the link and the counter of open choices is kept. -/
theorem RailFrame.field {α : Type} {s t : State} (h : RailFrame s t) (f : State → α)
    (hf : ∀ s r l c, f (((s.withRail r).withLink l).withChoices c) = f s) : f t = f s := by
  rw [← hf t s.rail s.link s.choices, h.rest]

theorem withRail_railFrame (s : State) (r : Rail) : RailFrame s (s.withRail r) := ⟨rfl, rfl⟩

theorem withChoices_railFrame (s : State) (c : Nat) : RailFrame s (s.withChoices c) := ⟨rfl, rfl⟩

theorem railChange_frame (r shown : Rail) (c : RailCause) (w : RailReason) (s : State) :
    RailFrame s (railChange r shown c w s) := ⟨rfl, Link.note_core ..⟩

/-- What the second change of a return does: the rest state, and a notice with the fields of one of two records. -/
theorem railMovesOn_spec (st : RailState) (c : RailCause) (was : Rail) (s : State) :
    ∃ shown, (shown = was ∨ shown = s.rail) ∧
      railMovesOn st c was s =
        railChange (s.rail.enterRest st none) shown c .none (s.withChoices (s.choices + 1)) := by
  unfold railMovesOn drawChoice
  dsimp only
  split
  · exact ⟨was, .inl rfl, rfl⟩
  · exact ⟨s.rail, .inr rfl, rfl⟩

theorem railMovesOn_frame (st : RailState) (c : RailCause) (was : Rail) (s : State) :
    RailFrame s (railMovesOn st c was s) := by
  obtain ⟨shown, -, h⟩ := railMovesOn_spec st c was s
  rw [h]
  exact (withChoices_railFrame s _).trans (railChange_frame ..)

theorem railReturned_frame (og : RailOrigin) (was : Rail) (s : State) : RailFrame s (railReturned og was s) := by
  unfold railReturned
  cases og
  all_goals
    dsimp only
    repeat' split
  all_goals first
    | exact RailFrame.refl s
    | exact railMovesOn_frame ..

theorem railReturn_frame (c : RailCause) (w : RailReason) (s : State) : RailFrame s (railReturn c w s) :=
  (railChange_frame ..).trans (railReturned_frame ..)

theorem railKeyboard_frame (b : Bool) (s : State) : RailFrame s (railKeyboard b s) := by
  unfold railKeyboard
  repeat' split
  all_goals first
    | exact RailFrame.refl s
    | exact withRail_railFrame ..
    | exact railChange_frame ..

theorem noteKeyboard_frame (was : Bool) (s : State) : RailFrame s (noteKeyboard was s) := by
  unfold noteKeyboard
  dsimp only
  split
  · exact RailFrame.refl s
  · exact railKeyboard_frame ..

theorem railMove_frame (s : State) : RailFrame s (railMove s) := by
  unfold railMove
  dsimp only
  split <;> exact railChange_frame ..

theorem railSettled_frame (s : State) : RailFrame s (railSettled s) := by
  unfold railSettled railArrive
  split
  · exact railReturn_frame ..
  · split
    · split
      · exact railChange_frame ..
      · exact railMove_frame s
    · exact railMove_frame s

theorem takeSettle_frame (s : State) : RailFrame s (takeSettle s) := by
  unfold takeSettle
  split
  · exact railSettled_frame s
  · exact RailFrame.refl s

theorem takeClearWait_frame (s : State) : RailFrame s (takeClearWait s) := by
  unfold takeClearWait
  split
  · exact railReturn_frame ..
  · exact RailFrame.refl s

theorem takeRunLimit_frame (s : State) : RailFrame s (takeRunLimit s) := by
  unfold takeRunLimit railFault
  split
  · exact railChange_frame ..
  · exact RailFrame.refl s

theorem switchJudge_frame (e : RailEnd) (on : Bool) (s : State) : RailFrame s (switchJudge e on s) := by
  unfold switchJudge railRest railArrive
  dsimp only
  repeat' split
  all_goals first
    | exact RailFrame.refl s
    | exact railChange_frame ..

theorem switchOne_frame (e : RailEnd) (on : Bool) (s : State) : RailFrame s (switchOne e on s) := by
  unfold switchOne railFault
  dsimp only
  split
  · exact (withRail_railFrame s _).trans (railChange_frame ..)
  · exact (withRail_railFrame s _).trans (switchJudge_frame ..)

theorem switchLevels_frame (eng ret : Bool) (s : State) : RailFrame s (switchLevels eng ret s) := by
  unfold switchLevels
  dsimp only
  repeat' split
  · exact RailFrame.refl s
  · exact switchOne_frame ..
  · exact switchOne_frame ..
  · exact (switchOne_frame ..).trans (switchOne_frame ..)
  · exact (switchOne_frame ..).trans (switchOne_frame ..)
  · exact (withRail_railFrame s _).trans ((switchOne_frame ..).trans (switchOne_frame ..))

/-! ### Time -/

/-- The passing of time leaves the parts that keep no time as they were. -/
theorem advance_core (n : Nat) (s : State) : (advance n s).link.core = s.link.core := by
  show (s.link.advance n).core = _
  unfold Link.advance
  split <;> rfl

section
variable (n : Nat) (s : State)
@[simp] theorem advance_running : (advance n s).running = s.running := rfl
@[simp] theorem advance_keys : (advance n s).keys = s.keys := rfl
@[simp] theorem advance_touch : (advance n s).touch = s.touch := rfl
@[simp] theorem advance_pedals : (advance n s).pedals = s.pedals := rfl
@[simp] theorem advance_router : (advance n s).router = s.router := rfl
@[simp] theorem advance_engine : (advance n s).engine = s.engine := rfl
@[simp] theorem advance_output : (advance n s).output = s.output := rfl
@[simp] theorem advance_store : (advance n s).store = s.store := rfl
@[simp] theorem advance_bulk : (advance n s).bulk = s.bulk := rfl
@[simp] theorem advance_player : (advance n s).player = s.player := rfl
@[simp] theorem advance_guide : (advance n s).guide = s.guide := rfl
@[simp] theorem advance_edit : (advance n s).edit = s.edit := rfl
@[simp] theorem advance_flash : (advance n s).flash = s.flash := rfl
@[simp] theorem advance_choices : (advance n s).choices = s.choices := rfl
@[simp] theorem advance_pending : (advance n s).pending = s.pending := rfl
end

/-- A sample's stamp that the µs time has reached lets no time pass. -/
theorem catchUp_now (s : State) : catchUp s.clock.us s = s := by
  unfold catchUp
  simp

/-- What a sample's stamp does: nothing, or some time passes. -/
theorem catchUp_cases (stamp : W32) (s : State) : catchUp stamp s = s ∨ ∃ n, catchUp stamp s = advance n s := by
  unfold catchUp
  dsimp only
  split
  · exact .inr ⟨_, rfl⟩
  · exact .inl rfl

end Sys2Proof.Machine
end

