-- ==== Sys2Proof/Laws/Memory.lean ====
section
/-! SUPPORT. The flash and the record slots: reading after writing, and the canonical forms kept by every
operation. -/

namespace Sys2Proof.Machine

/-! ### The flash -/

theorem flashWfFrom_mono {m : List Host.Cell} {a b : Nat} (hab : a ≤ b) (h : flashWfFrom b m = true) :
    flashWfFrom a m = true := by
  cases m with
  | nil => rfl
  | cons c rest =>
    obtain ⟨k, x⟩ := c
    simp only [flashWfFrom, Bool.and_eq_true, decide_eq_true_eq] at h ⊢
    exact ⟨⟨⟨by omega, h.1.1.2⟩, h.1.2⟩, h.2⟩

/-- Below every listed address, the flash reads blank. -/
theorem flashByte_of_lt {m : List Host.Cell} {a low : Nat} (h : flashWfFrom low m = true) (ha : a < low) :
    flashByte m a = Config.flashBlank := by
  induction m generalizing low with
  | nil => rfl
  | cons c rest ih =>
    obtain ⟨k, x⟩ := c
    simp only [flashWfFrom, Bool.and_eq_true, decide_eq_true_eq] at h
    have hne : a ≠ k := by omega
    simp only [flashByte, if_neg hne]
    exact ih h.2 (by omega)

/-- Placing a byte keeps the canonical form from a lower bound. -/
theorem flashWrite_wfFrom {m : List Host.Cell} {a low : Nat} {x : Byte} (h : flashWfFrom low m = true)
    (hl : low ≤ a) (ha : a < Config.flashBytes) : flashWfFrom low (flashWrite m a x) = true := by
  induction m generalizing low with
  | nil =>
    unfold flashWrite
    split
    · rfl
    · rename_i hx
      simp [flashWfFrom, ha, hx, hl]
  | cons c rest ih =>
    obtain ⟨k, y⟩ := c
    have h' := h
    simp only [flashWfFrom, Bool.and_eq_true, decide_eq_true_eq] at h'
    unfold flashWrite
    split
    · split
      · exact h
      · rename_i hlt hx
        have hr : flashWfFrom (a + 1) ((k, y) :: rest) = true := by
          simp only [flashWfFrom, Bool.and_eq_true, decide_eq_true_eq]
          exact ⟨⟨⟨by omega, h'.1.1.2⟩, h'.1.2⟩, h'.2⟩
        simp [flashWfFrom, hl, ha, hx] at hr ⊢
        exact hr
    · split
      · rename_i heq
        split
        · exact flashWfFrom_mono (by omega) h'.2
        · rename_i hx
          simp only [flashWfFrom, Bool.and_eq_true, decide_eq_true_eq]
          exact ⟨⟨⟨hl, ha⟩, hx⟩, heq ▸ h'.2⟩
      · simp only [flashWfFrom, Bool.and_eq_true, decide_eq_true_eq]
        exact ⟨h'.1, ih h'.2 (by omega)⟩

/-- Placing a byte keeps the flash in canonical form. -/
theorem flashWrite_wf {m : List Host.Cell} {a : Nat} {x : Byte} (h : Memory.wf m = true)
    (ha : a < Config.flashBytes) : Memory.wf (flashWrite m a x) = true :=
  flashWrite_wfFrom h (Nat.zero_le a) ha

/-- Reading after placing a byte: that byte at its address, what was there elsewhere. -/
theorem flashByte_flashWrite {m : List Host.Cell} {low : Nat} (h : flashWfFrom low m = true) (a b : Nat)
    (x : Byte) : flashByte (flashWrite m a x) b = if b = a then x else flashByte m b := by
  induction m generalizing low with
  | nil =>
    unfold flashWrite
    by_cases hx : x = Config.flashBlank
    · simp [hx, flashByte]
    · simp [hx, flashByte]
  | cons c rest ih =>
    obtain ⟨k, y⟩ := c
    simp only [flashWfFrom, Bool.and_eq_true, decide_eq_true_eq] at h
    unfold flashWrite
    by_cases hlt : a < k
    · rw [if_pos hlt]
      by_cases hx : x = Config.flashBlank
      · rw [if_pos hx]
        by_cases hb : b = a
        · subst hb
          rw [if_pos rfl, hx]
          have hne : b ≠ k := by omega
          simp only [flashByte, if_neg hne]
          exact flashByte_of_lt h.2 (by omega)
        · rw [if_neg hb]
      · rw [if_neg hx]
        rfl
    · rw [if_neg hlt]
      by_cases heq : a = k
      · subst heq
        rw [if_pos rfl]
        by_cases hx : x = Config.flashBlank
        · rw [if_pos hx]
          by_cases hb : b = a
          · subst hb
            rw [if_pos rfl, hx]
            exact flashByte_of_lt h.2 (by omega)
          · simp [hb, flashByte]
        · rw [if_neg hx]
          by_cases hb : b = a <;> simp [hb, flashByte]
      · rw [if_neg heq]
        by_cases hb : b = k
        · subst hb
          have hne : ¬b = a := fun h => heq h.symm
          simp [flashByte, hne]
        · simp only [flashByte, if_neg hb]
          exact ih h.2

/-! ### Record slots -/

theorem slotGet_of_lt {m : List (Nat × Record)} {n low : Nat} (h : slotsWfFrom low m = true)
    (hn : n < low) : slotGet m n = none := by
  induction m generalizing low with
  | nil => rfl
  | cons c rest ih =>
    obtain ⟨k, x⟩ := c
    simp only [slotsWfFrom, Bool.and_eq_true, decide_eq_true_eq] at h
    have hne : n ≠ k := by omega
    simp only [slotGet, if_neg hne]
    exact ih h.2 (by omega)

/-- Writing a slot keeps the canonical form from a lower bound. -/
theorem slotSet_wfFrom {m : List (Nat × Record)} {n low : Nat} {r : Record}
    (h : slotsWfFrom low m = true) (hl : low ≤ n) (hn : n < 32768) :
    slotsWfFrom low (slotSet m n r) = true := by
  induction m generalizing low with
  | nil => simp [slotSet, slotsWfFrom, hl, hn]
  | cons c rest ih =>
    obtain ⟨k, y⟩ := c
    simp only [slotsWfFrom, Bool.and_eq_true, decide_eq_true_eq] at h
    unfold slotSet
    split
    · simp only [slotsWfFrom, Bool.and_eq_true, decide_eq_true_eq]
      exact ⟨⟨hl, hn⟩, ⟨by omega, h.1.2⟩, h.2⟩
    · split
      · rename_i heq
        simp only [slotsWfFrom, Bool.and_eq_true, decide_eq_true_eq]
        exact ⟨⟨hl, hn⟩, heq ▸ h.2⟩
      · simp only [slotsWfFrom, Bool.and_eq_true, decide_eq_true_eq]
        exact ⟨h.1, ih h.2 (by omega)⟩

/-- Writing a slot keeps the slot list in canonical form. -/
theorem slotSet_wf {m : List (Nat × Record)} {n : Nat} {r : Record} (h : slotsWf m = true)
    (hn : n < 32768) : slotsWf (slotSet m n r) = true :=
  slotSet_wfFrom h (Nat.zero_le n) hn

/-- Reading a slot after writing one: the record written there, what was there elsewhere. -/
theorem slotGet_slotSet {m : List (Nat × Record)} {low : Nat} (h : slotsWfFrom low m = true) (n k : Nat)
    (r : Record) : slotGet (slotSet m n r) k = if k = n then some r else slotGet m k := by
  induction m generalizing low with
  | nil => simp [slotSet, slotGet]
  | cons c rest ih =>
    obtain ⟨j, y⟩ := c
    simp only [slotsWfFrom, Bool.and_eq_true, decide_eq_true_eq] at h
    unfold slotSet
    by_cases hlt : n < j
    · rw [if_pos hlt]
      rfl
    · rw [if_neg hlt]
      by_cases heq : n = j
      · subst heq
        by_cases hk : k = n <;> simp [slotGet, hk]
      · rw [if_neg heq]
        by_cases hk : k = j
        · subst hk
          have hne : ¬k = n := fun h => heq h.symm
          simp [slotGet, hne]
        · simp only [slotGet, if_neg hk]
          exact ih h.2

/-! ### Reset -/

/-- The flash and the slots of State.reset are in canonical form. -/
theorem reset_memory_wf : Memory.wf State.reset.flash = true ∧ slotsWf State.reset.store.slots = true :=
  ⟨rfl, rfl⟩

end Sys2Proof.Machine
end

