-- ==== Sys2Proof/Laws/PerInstr.lean ====
section
/-! SUPPORT. Per command: the frame of every command that can be sent fits the line (R177). -/

namespace Sys2Proof.Laws.Wire

/-- The frame of a command that can be sent carries at most 60 payload bytes. -/
def Statement (i : Instr) : Prop :=
  i.wf = true → ∀ f, frameOf i = some f → f.payload.length ≤ Config.maxPayload

/-- A frame of one fixed payload length fits. -/
theorem fits {i : Instr} {f : Frame} (h : frameOf i = some f) (hl : f.payload.length ≤ 60) :
    Statement i := by
  intro _ g hg
  rw [h] at hg
  cases hg
  exact hl

/-- An event has no frame. -/
theorem none {i : Instr} (h : frameOf i = Option.none) : Statement i := by
  intro _ g hg
  rw [h] at hg
  cases hg

@[simp] theorem le16_length (x : W16) : (le16 x).length = 2 := rfl
@[simp] theorem le24_length (x : W24) : (le24 x).length = 3 := rfl
@[simp] theorem le32_length (x : W32) : (le32 x).length = 4 := rfl

/-- A list of elements of `n` bytes each takes `n` bytes for each of them. -/
theorem flatMap_length {α : Type} {f : α → List Byte} {n : Nat} (h : ∀ a, (f a).length = n)
    (l : List α) : (l.flatMap f).length = n * l.length := by
  induction l with
  | nil => simp
  | cons a l ih => simp [h, ih]; ring

theorem calPair_bytes_length (c : CalPair) : c.bytes.length = 4 := rfl
theorem layerArg_bytes_length (l : LayerArg) : l.bytes.length = 13 := rfl
theorem rawRecord_bytes_length (r : RawRecord) : r.bytes.length = 5 := rfl

theorem powerOnReset : Statement .powerOnReset :=
  none rfl

theorem pinReset : Statement .pinReset :=
  none rfl

theorem commandReset : Statement .commandReset :=
  none rfl

theorem initializationEnd (current supply : Nat) (eng ret : Bool) :
    Statement (.initializationEnd current supply eng ret) :=
  none rfl

theorem lineBreak : Statement .lineBreak :=
  none rfl

theorem keySample (key : Key) (raw : Raw) (stamp : W32) : Statement (.keySample key raw stamp) :=
  none rfl

theorem keyFaultEntry (key : Key) (raw : Raw) (stamp : W32) :
    Statement (.keyFaultEntry key raw stamp) :=
  none rfl

theorem keyFaultRecovery (key : Key) (raw : Raw) (stamp : W32) :
    Statement (.keyFaultRecovery key raw stamp) :=
  none rfl

theorem pedalSample (pedal : Pedal) (raw : Raw) (stamp : W32) :
    Statement (.pedalSample pedal raw stamp) :=
  none rfl

theorem pedalFaultEntry (pedal : Pedal) (raw : Raw) (stamp : W32) :
    Statement (.pedalFaultEntry pedal raw stamp) :=
  none rfl

theorem pedalFaultRecovery (pedal : Pedal) (raw : Raw) (stamp : W32) :
    Statement (.pedalFaultRecovery pedal raw stamp) :=
  none rfl

theorem gapTimerExpiry : Statement .gapTimerExpiry :=
  none rfl

theorem outputSample : Statement .outputSample :=
  none rfl

theorem controlBlock : Statement .controlBlock :=
  none rfl

theorem railMeasurement (current supply : Nat) (eng ret : Bool) :
    Statement (.railMeasurement current supply eng ret) :=
  none rfl

theorem switchEvent (eng ret : Bool) : Statement (.switchEvent eng ret) :=
  none rfl

theorem overcurrentFault (current supply : Nat) (eng ret : Bool) :
    Statement (.overcurrentFault current supply eng ret) :=
  none rfl

theorem settleComplete : Statement .settleComplete :=
  none rfl

theorem clearWaitExpiry : Statement .clearWaitExpiry :=
  none rfl

theorem runLimitExpiry : Statement .runLimitExpiry :=
  none rfl

theorem playerTick : Statement .playerTick :=
  none rfl

theorem loopJump : Statement .loopJump :=
  none rfl

theorem takeEnd : Statement .takeEnd :=
  none rfl

theorem takeCopyStep : Statement .takeCopyStep :=
  none rfl

theorem takeSearchStep : Statement .takeSearchStep :=
  none rfl

theorem takeScaleStep : Statement .takeScaleStep :=
  none rfl

theorem byteReceived (byte : Byte) (tail : TailBits) : Statement (.byteReceived byte tail) :=
  none rfl

theorem frameGapExpiry : Statement .frameGapExpiry :=
  none rfl

theorem ctsChange (asserted : Bool) : Statement (.ctsChange asserted) :=
  none rfl

theorem frameSent : Statement .frameSent :=
  none rfl

theorem unknownType (type : Byte) (payload : List Byte) : Statement (.unknownType type payload) := by
  intro hw g hg
  cases hg
  simp only [Instr.wf, Bool.and_eq_true, decide_eq_true_eq] at hw
  exact hw.1

theorem getStatus : Statement .getStatus :=
  fits rfl (by simp)

theorem resetPart : Statement .resetPart :=
  fits rfl (by simp)

theorem setNoticeClass (notice cls : Byte) : Statement (.setNoticeClass notice cls) :=
  fits rfl (by simp)

theorem loadCal (keyLow keyHigh : Byte) (pairs : List CalPair) :
    Statement (.loadCal keyLow keyHigh pairs) := by
  intro hw g hg
  cases hg
  simp only [Instr.wf, decide_eq_true_eq] at hw
  simp only [List.length_cons, flatMap_length calPair_bytes_length, Config.maxPayload]
  omega

theorem calStart (keyLow keyHigh : Byte) : Statement (.calStart keyLow keyHigh) :=
  fits rfl (by simp)

theorem calEnd : Statement .calEnd :=
  fits rfl (by simp)

theorem setTouch (lRel lS1 lRep lS2 : W16) (h : Byte) (tSilent : W32) :
    Statement (.setTouch lRel lS1 lRep lS2 h tSilent) :=
  fits rfl (by simp)

theorem setKeyGain (keyLow keyHigh : Byte) (gain : W16) :
    Statement (.setKeyGain keyLow keyHigh gain) :=
  fits rfl (by simp)

theorem getKey (key : Byte) : Statement (.getKey key) :=
  fits rfl (by simp)

theorem setCurve (set : Byte) (speeds : Vector W16 12) (velocities : Vector Byte 12) :
    Statement (.setCurve set speeds velocities) :=
  fits rfl (by
    simp [flatMap_length le16_length])

theorem setSoft (strength : Byte) : Statement (.setSoft strength) :=
  fits rfl (by simp)

theorem loadPedalCal (pedal : Byte) (rest full : W16) :
    Statement (.loadPedalCal pedal rest full) :=
  fits rfl (by simp)

theorem setPedal (damperLow damperHigh softLow softHigh sostOn sostOff : W16) (w : Byte) :
    Statement (.setPedal damperLow damperHigh softLow softHigh sostOn sostOff w) :=
  fits rfl (by simp)

theorem getPedal (pedal : Byte) : Statement (.getPedal pedal) :=
  fits rfl (by simp)

theorem setRoute (route enabled sources kinds keyLow keyHigh dests : Byte) :
    Statement (.setRoute route enabled sources kinds keyLow keyHigh dests) :=
  fits rfl (by simp)

theorem getRoute (route : Byte) : Statement (.getRoute route) :=
  fits rfl (by simp)

theorem loadMap (key layerCount : Byte) (rHold rDamp : W16) (pan : Byte) (layers : List LayerArg) :
    Statement (.loadMap key layerCount rHold rDamp pan layers) := by
  intro hw g hg
  cases hg
  simp only [Instr.wf, decide_eq_true_eq] at hw
  simp only [List.length_cons, List.length_append, le16_length, flatMap_length layerArg_bytes_length,
    Config.maxPayload]
  omega

theorem setOutput (vol : W16) (layer : Byte) : Statement (.setOutput vol layer) :=
  fits rfl (by simp)

theorem soundOff : Statement .soundOff :=
  fits rfl (by simp)

theorem rail (target : Byte) : Statement (.rail target) :=
  fits rfl (by simp)

theorem railClear : Statement .railClear :=
  fits rfl (by simp)

theorem setRail (clearWait runLimit : W16) (currentLimit supplyMin : Byte) :
    Statement (.setRail clearWait runLimit currentLimit supplyMin) :=
  fits rfl (by simp)

theorem recordStart (take mode : Byte) : Statement (.recordStart take mode) :=
  fits rfl (by simp)

theorem recordStop : Statement .recordStop :=
  fits rfl (by simp)

theorem takeInfo (take : Byte) : Statement (.takeInfo take) :=
  fits rfl (by simp)

theorem takeErase (take : Byte) : Statement (.takeErase take) :=
  fits rfl (by simp)

theorem takeOpen (take : Byte) : Statement (.takeOpen take) :=
  fits rfl (by simp)

theorem takeWrite (take count : Byte) (records : List RawRecord) :
    Statement (.takeWrite take count records) := by
  intro hw g hg
  cases hg
  simp only [Instr.wf, decide_eq_true_eq] at hw
  simp only [List.length_cons, flatMap_length rawRecord_bytes_length, Config.maxPayload]
  omega

theorem takeClose (take : Byte) : Statement (.takeClose take) :=
  fits rfl (by simp)

theorem takeRead (take : Byte) (start : W16) (count : Byte) :
    Statement (.takeRead take start count) :=
  fits rfl (by simp)

theorem play (take : Byte) (startMs : W32) : Statement (.play take startMs) :=
  fits rfl (by simp)

theorem stop : Statement .stop :=
  fits rfl (by simp)

theorem pause : Statement .pause :=
  fits rfl (by simp)

theorem resume : Statement .resume :=
  fits rfl (by simp)

theorem locate (time : W32) : Statement (.locate time) :=
  fits rfl (by simp)

theorem setTempo (tempo : W16) : Statement (.setTempo tempo) :=
  fits rfl (by simp)

theorem setLoop (a b : W32) : Statement (.setLoop a b) :=
  fits rfl (by simp)

theorem setPasses (listen practice : Byte) : Statement (.setPasses listen practice) :=
  fits rfl (by simp)

theorem setGuide (wait : Byte) (grace : W16) : Statement (.setGuide wait grace) :=
  fits rfl (by simp)

theorem guideSkip : Statement .guideSkip :=
  fits rfl (by simp)

theorem setMarkers (m0 m1 m2 m3 : W32) : Statement (.setMarkers m0 m1 m2 m3) :=
  fits rfl (by simp)

theorem takeCopy (src : Byte) (fromMs toMs : W32) (dst mode : Byte) :
    Statement (.takeCopy src fromMs toMs dst mode) :=
  fits rfl (by simp)

theorem takeSearch (take : Byte) (start : W16) (kinds keyLow keyHigh valueLow valueHigh : Byte) :
    Statement (.takeSearch take start kinds keyLow keyHigh valueLow valueHigh) :=
  fits rfl (by simp)

theorem takeScale (take : Byte) (fromMs toMs : W32) (keyLow keyHigh : Byte) (factor : W16) (offset : Byte) :
    Statement (.takeScale take fromMs toMs keyLow keyHigh factor offset) :=
  fits rfl (by simp)

theorem editAbort : Statement .editAbort :=
  fits rfl (by simp)

theorem receiveLineRise : Statement .receiveLineRise :=
  none rfl

end Sys2Proof.Laws.Wire
end

