-- ==== Sys2Proof/Tests/Slice0.lean ====
section
/-! SUPPORT. Tests of one step each, with expected results from the worked examples of the manual (their section
stands in the docstring), and for each obligation with hypotheses a witness that meets them. -/

namespace Sys2Proof.Tests

open Sys2Proof.Machine

set_option Elab.async false

/-! ### Small states -/

/-- The state after a command; the state itself if there were no next one. -/
def after (i : Instr) (s : State) : State :=
  match exec i s with
  | .next t => t
  | _ => s

/-- A part that runs, with every block at its reset values and CTS deasserted. -/
def up : State := { State.reset with running := true }

/-- The same with CTS asserted. -/
def clear : State := { up with link := { cts := true } }

/-- `up` with one key's record. -/
def withKey (k : Key) (r : KeyRecord) : State := { up with keys := up.keys.set k.val r k.isLt }

/-- `up` with the rail's record. -/
def withRail (r : Rail) : State := { up with rail := r }

/-- `up` with the link's record. -/
def withLink (l : Link) : State := { up with link := l }

/-- `up` with the Player's record. -/
def withPlayer (p : Player) : State := { up with player := p }

/-- The bodies of the notices that wait, oldest first. -/
def told (s : State) : List NoticeBody := s.link.notices.map Notice.body

/-- The status and data of the reply in the slot. -/
def reply (s : State) : Option (Status × List Byte) := s.link.slot.map fun r => (r.status, r.data)

/-- Key 39 of section 1.8: rest 800, bottom 3360, in a state, after a sample of a depth and a stamp. -/
def key39 (st : KeyState) (depth : Nat) (stamp : W32) : KeyRecord :=
  { state := st, rest := 800, bottom := 3360, calibrated := true, lastDepth := depth, lastStamp := stamp }

/-- Route 0 sends every LIVE event to NOTIFY alone. -/
def notified (s : State) : State :=
  { s with router := { s.router with
    routes := s.router.routes.set 0 { enabled := true, live := true, kinds := 0x7F#7, dests := { notify := true } } } }

/-- A take whose first block is `b`, READY, with these records. -/
def holding (t : TakeId) (b : Nat) (recs : List Record) (s : State) : State :=
  { s with store := { s.store with
    slots := s.store.slots ++ (List.range recs.length).map fun i => (64 * b + i, recs.getD i ⟨0, .gap⟩)
    free := s.store.free.filter fun x => x ≠ b
    takes := s.store.takes.set t.val
      { state := .ready, count := recs.length, duration := (recs.map Record.delta).sum, head := some b
        tail := some b, fill := recs.length } t.isLt } }

/-- Take 2 of section 9.8, in block 0. -/
def take2 (s : State) : State :=
  holding 2 0 [⟨500, .damper 90⟩, ⟨500, .noteOn 60 72 false⟩, ⟨0, .noteOn 64 70 false⟩, ⟨800, .noteOff 60⟩,
    ⟨800, .noteOff 64⟩, ⟨100, .damper 0⟩, ⟨500, .noteOn 67 80 false⟩, ⟨300, .noteOff 67⟩] s

/-! ### Well-formed commands -/

theorem test_wf_refuses_current : (Instr.railMeasurement 4001 0 false false).wf = false := by decide
theorem test_wf_refuses_supply : (Instr.overcurrentFault 0 20001 false false).wf = false := by decide
theorem test_wf_refuses_first_read : (Instr.initializationEnd 4001 0 false false).wf = false := by decide
theorem test_wf_refuses_command_code : (Instr.unknownType 0x28#8 []).wf = false := by decide
theorem test_wf_refuses_long_payload : (Instr.unknownType 0x7F#8 (List.replicate 61 0#8)).wf = false := by decide
theorem test_wf_refuses_fifteen_pairs : (Instr.loadCal 0#8 14#8 (List.replicate 15 ⟨0#16, 0#16⟩)).wf = false := by
  decide
theorem test_wf_refuses_five_layers :
    (Instr.loadMap 0#8 4#8 0#16 0#16 0#8 (List.replicate 5 ⟨0#8, 0#24, 0#24, 0#24, 0#24⟩)).wf = false := by decide
theorem test_wf_refuses_twelve_records :
    (Instr.takeWrite 0#8 11#8 (List.replicate 12 ⟨0#8, 0#16, 0#8, 0#8⟩)).wf = false := by decide
theorem test_wf_admits_the_ends : (Instr.railMeasurement 4000 20000 true true).wf = true ∧
    (Instr.unknownType 0x7F#8 (List.replicate 60 0#8)).wf = true := by decide

/-! ### Frames -/

/-- Section 11.10: the frame of RAIL(ENGAGED). -/
theorem test_rail_frame_bytes :
    (frameOf (.rail 2#8)).map Frame.bytes = some [0xA5#8, 0x01#8, 0x28#8, 0x02#8, 0xD5#8] ∧
      parseFrame ⟨0x28#8, [0x02#8]⟩ = .ok (.rail 2#8) := by decide

/-- Section 11.10: the reply ACCEPTED to it. -/
theorem test_rail_reply_bytes :
    ((after (.rail 2#8) clear).link.tx.map fun x => x.frame.bytes) =
      some [0xA5#8, 0x01#8, 0xA8#8, 0x01#8, 0x56#8] := by decide

/-- Section 11.10: the notice after it, RAIL_STATE WAIT: LEN 14, 18 bytes (flags, stamp, nine bytes of fields). -/
theorem test_rail_notice_bytes :
    (Sending.notice ⟨.railState .waitClear (some .engaged) (some .retracted) .wait .none 0 12100, 2, 0x01020304#32⟩
      true).frame.bytes =
      [0xA5#8, 14#8, 0x67#8, 1#8, 4#8, 3#8, 2#8, 1#8, 3#8, 2#8, 1#8, 0#8, 0#8, 0#8, 0#8, 0x44#8, 0x2F#8, 0x07#8] := by
  decide

/-- R191: least significant byte first. -/
theorem test_fields_are_little_endian :
    parseFrame ⟨0x44#8, [0x44#8, 0x33#8, 0x22#8, 0x11#8]⟩ = .ok (.locate 0x11223344#32) ∧
      parseFrame ⟨0x45#8, [0xC0#8, 0x00#8]⟩ = .ok (.setTempo 192#16) := by decide

/-- R192: a NOTE_ON of key 60, velocity 88, repeat, delta 250. -/
theorem test_record_bytes :
    parseRecord ⟨0x80#8, 250#16, 60#8, 88#8⟩ = some ⟨250, .noteOn 60 88 true⟩ ∧
      (⟨250, .noteOn 60 88 true⟩ : Record).bytes = [0x80#8, 0xFA#8, 0x00#8, 0x3C#8, 0x58#8] := by decide

/-- R191: the set {41, 42} has bits 1 and 2 of byte 5. -/
theorem test_key_set_bytes :
    keySetBytes ((KeySet.none.add 41).add 42) = [0, 0, 0, 0, 0, 6, 0, 0, 0, 0, 0] := by decide

/-- R176: a start bit low, the data bits with the least significant first, even parity, a stop bit high. -/
theorem test_line_bits :
    lineBits 0xA5#8 (tailOf 0xA5#8) =
        [false, true, false, true, false, false, true, false, true, false, true] ∧
      lineBits 0x01#8 (tailOf 0x01#8) =
        [false, true, false, false, false, false, false, false, false, true, true] := by decide

/-- The table gives no bits: no word spells a command. -/
theorem test_no_table_word : decodeTableWord 40 0x28 = none ∧ up.withFetchWord 40 0x28 = up := by
  exact ⟨rfl, rfl⟩

/-! ### Keys, strikes, velocities (sections 1.8 and 2.9) -/

/-- Section 1.8, sample 3. -/
theorem test_first_crossing :
    (sampleKey {} (key39 .rest 250 2000250#32) 1925 2000500#32).1.state = .descent ∧
      (sampleKey {} (key39 .rest 250 2000250#32) 1925 2000500#32).1.tStart = 2000312#32 ∧
      (sampleKey {} (key39 .rest 250 2000250#32) 1925 2000500#32).1.lastDepth = 450 := by decide

/-- Section 1.8, sample 5: the strike record. -/
theorem test_strike_record :
    (sampleKey {} { key39 .descent 700 2000750#32 with tStart := 2000312#32 } 3100 2001000#32).2.1 =
      [.strike 2000312#32 2000954#32 .first] := by decide

/-- Section 1.8, the fast strike. -/
theorem test_two_crossings_in_one_period :
    (sampleKey {} (key39 .rest 120 5000000#32) 3200 5000250#32).2.1 =
      [.strike 5000053#32 5000226#32 .first] := by decide

/-- Section 1.8, samples 7 to 9: re-armed, descending, struck again. -/
theorem test_key_sample_repeats :
    let k := key39 .struck 800 2001250#32
    let a := sampleKey {} k 2250 2001500#32
    let b := sampleKey {} a.1 2500 2001750#32
    let c := sampleKey {} b.1 3050 2002000#32
    a.1.state = .rearmed ∧ b.1.state = .repDescent ∧ c.2.1 = [.strike 2001650#32 2001977#32 .rep] := by decide

/-- Section 1.8, sample 10 at the row of the table: NOTE_OFF, stamped at the sample. -/
theorem test_key_sample_releases :
    told (after (.keySample 39 1050 2002250#32) (notified (withKey 39 (key39 .struck 900 2002000#32)))) =
      [.keyEvent (.noteOff 39 false) .live 2002250#32] := by decide +kernel

/-- Section 1.8, the loose connector: sample 32. -/
theorem test_key_fault_entry :
    told (after (.keyFaultEntry 39 4095 8000#32)
      (notified (withKey 39 { key39 .struck 1023 7750#32 with outCount := 31 }))) =
      [.keyEvent (.noteOff 39 true) .live 8000#32, .keyFault 39 false 4095] := by decide +kernel

/-- Section 1.8: the 64th good sample. -/
theorem test_key_fault_recovery :
    let s := after (.keyFaultRecovery 39 850 8000#32) (withKey 39 { key39 .fault 20 7750#32 with inCount := 63 })
    (s.keys.get 39).state = .arming ∧ told s = [.keyFault 39 true 850] := by decide +kernel

/-- Section 2.9: the first strike, with the soft pedal at 160 and at 0. -/
theorem test_soft_velocity :
    let t : Touch := { gain := Vector.replicate 88 288 }
    t.velocity true 160 51 .first 3900 = 88 ∧ t.velocity true 0 51 .first 3900 = 104 := by decide +kernel

/-- Section 2.9: the repeat stroke with gain 256 and with gain 200. -/
theorem test_repeat_velocity :
    Touch.velocity {} false 0 60 .rep 2400 = 88 ∧
      Touch.velocity { gain := Vector.replicate 88 200 } false 0 60 .rep 2400 = 78 := by decide +kernel

/-- Section 2.9: fast strokes saturate; fully softened with A = 128 they come out as 64; a slow press is silent. -/
theorem test_extreme_velocities :
    Touch.velocity {} true 0 39 .first 642 = 127 ∧ Touch.velocity {} true 0 39 .rep 327 = 127 ∧
      Touch.velocity { soft := 128 } true 255 39 .first 145 = 64 ∧
      Touch.strike {} false 0 60 0#32 480000#32 .rep = .silentPress 60 := by decide +kernel

/-- Section 1.8, the capture of keys 40 to 42: CAL_END. -/
theorem test_cal_end_judges :
    let s : State := { up with keys := ((up.keys.set 40 { state := .capture, capMin := 610, capMax := 3390 }).set 41
      { state := .capture, capMin := 1200, capMax := 1460 }).set 42 { state := .capture, capMin := 980, capMax := 1010 } }
    let t := after .calEnd s
    (t.keys.get 40).rest = 653 ∧ (t.keys.get 40).bottom = 3347 ∧ (t.keys.get 40).state = .arming ∧
      (t.keys.get 41).state = .offline ∧ (t.keys.get 41).capMax = 1460 ∧
      reply t = some (.ok, [1, 2, 0, 0, 0, 0, 0, 6, 0, 0, 0, 0, 0]) := by decide +kernel

/-- R6 and R4: the pair is loaded and the last depth recomputed. -/
theorem test_load_cal_arms :
    let s := after (.loadCal 39#8 39#8 [⟨800#16, 3360#16⟩]) (withKey 39 { lastRaw := 1925 })
    (s.keys.get 39).state = .arming ∧ (s.keys.get 39).lastDepth = 450 ∧ reply s = some (.ok, []) := by
  decide +kernel

/-- R7 and its caution: a key that is down is released with NOTE_OFF. -/
theorem test_cal_start_releases :
    let s := after (.calStart 39#8 39#8) (notified (withKey 39 (key39 .struck 900 0#32)))
    (s.keys.get 39).state = .capture ∧ told s = [.keyEvent (.noteOff 39 false) .live 0#32] := by decide +kernel

theorem test_set_touch :
    (after (.setTouch 100#16 200#16 500#16 800#16 20#8 50000#32) up).touch.lS2 = 800 ∧
      reply (after (.setTouch 190#16 200#16 500#16 800#16 20#8 50000#32) up) = some (.badValue, []) := by
  decide +kernel

/-- Section 2.9: SET_KEY_GAIN over keys 48 to 55. -/
theorem test_set_key_gain :
    let s := after (.setKeyGain 48#8 55#8 288#16) up
    s.touch.gain.get 47 = 256 ∧ s.touch.gain.get 48 = 288 ∧ s.touch.gain.get 55 = 288 ∧ s.touch.gain.get 56 = 256 := by
  decide +kernel

theorem test_get_key :
    reply (after (.getKey 39#8) (withKey 39 (key39 .rest 450 0#32))) =
      some (.ok, [2, 0, 0, 0xC2, 1, 0x20, 3, 0x20, 0x0D, 1, 0xFF, 0x0F, 0, 0, 0, 1]) := by decide +kernel

theorem test_set_curve :
    let s := after (.setCurve 1#8 #v[1, 2, 3, 4, 5, 6, 7, 8, 9, 10, 11, 60000] (Vector.replicate 12 9#8)) up
    s.touch.stoppedCurve.get 11 = (60000, 9) ∧ s.touch.openCurve = ({} : Touch).openCurve := by decide +kernel

theorem test_set_soft : (after (.setSoft 128#8) up).touch.soft = 128 ∧
    reply (after (.setSoft 129#8) up) = some (.badValue, []) := by decide +kernel

/-! ### Pedals (section 3.10) -/

/-- The DAMPER pedal of section 3.10. -/
def damper (window : List Nat) (last : Nat) : PedalRecord :=
  { state := .active, rest := 600, full := 3160, window := window, lastEmitted := last }

/-- Section 3.10, samples 2, 4 and 6: averages, depths, values and what is formed. -/
theorem test_pedal_values :
    let a := samplePedal {} .damper (damper [600, 600, 600, 1600] 0) 1600
    let b := samplePedal {} .damper (damper [600, 1600, 1600, 1600] 52) 1600
    let c := samplePedal {} .damper (damper [1600, 1600, 1600, 1602] 96) 1610
    (a.1.avg = 1100 ∧ a.1.depth = 200 ∧ a.2.1 = some (.damper 8)) ∧
      (b.1.depth = 400 ∧ b.2.1 = some (.damper 96)) ∧
      (c.1.avg = 1603 ∧ c.1.value = 97 ∧ c.1.lastEmitted = 96 ∧ c.2.1 = none) := by decide

/-- Section 3.10, sample 7, at the row of the table. -/
theorem test_pedal_sample :
    told (after (.pedalSample .damper 1620 7000#32)
      (notified { up with pedals := { damper := damper [1600, 1600, 1602, 1610] 96 } })) =
      [.pedalEvent (.damper 98) .live 7000#32] := by decide +kernel

/-- Section 3.10, the shorted sensor: sample 32. -/
theorem test_pedal_fault_entry :
    told (after (.pedalFaultEntry .damper 4095 7000#32)
      (notified { up with pedals := { damper :=
        { damper [4095, 4095, 4095, 4095] 255 with outCount := 31, value := 255 } } })) =
      [.pedalEvent (.damper 0) .live 7000#32, .pedalFault .damper false 4095] := by decide +kernel

/-- Section 3.10: the 64th good sample. -/
theorem test_pedal_fault_recovery :
    let s := after (.pedalFaultRecovery .damper 1600 7000#32) { up with pedals := { damper :=
      { damper [1600, 1600, 1600, 1600] 0 with state := .fault, inCount := 63 } } }
    s.pedals.damper.state = .active ∧ s.pedals.damper.value = 0 ∧ told s = [.pedalFault .damper true 1600] := by
  decide +kernel

/-- Section 3.10, the sostenuto point: on at 530, kept at 450, off at 440. -/
theorem test_sostenuto_point :
    let r : PedalRecord := { state := .active, rest := 0, full := 1024 }
    (judgePedal {} .sostenuto r 480).2 = none ∧ (judgePedal {} .sostenuto r 530).2 = some .sostOn ∧
      (judgePedal {} .sostenuto { r with sost := true } 450).2 = none ∧
      (judgePedal {} .sostenuto { r with sost := true } 440).2 = some .sostOff := by decide

theorem test_load_pedal_cal :
    (after (.loadPedalCal 0#8 600#16 3160#16) up).pedals.damper.state = .active ∧
      reply (after (.loadPedalCal 0#8 600#16 727#16) up) = some (.badValue, []) := by decide +kernel

theorem test_set_pedal :
    (after (.setPedal 1#16 2#16 3#16 4#16 6#16 5#16 7#8) up).pedals.settings = ⟨1, 2, 3, 4, 6, 5, 7⟩ ∧
      reply (after (.setPedal 1#16 2#16 3#16 4#16 5#16 5#16 7#8) up) = some (.badValue, []) := by decide +kernel

theorem test_get_pedal :
    reply (after (.getPedal 0#8) { up with pedals := { damper :=
      { damper [1600] 96 with lastRaw := 1610, avg := 1603, depth := 401, value := 97 } } }) =
      some (.ok, [1, 0x4A, 6, 0x43, 6, 0x91, 1, 0x58, 2, 0x58, 0x0C, 97, 96]) := by decide +kernel

/-! ### Routes and the Guide (section 4.7) -/

/-- Section 4.7, practising the right hand: the final destination sets of each pass. -/
theorem test_practice_routes :
    let route : Route := { enabled := true, playback := true, kinds := 7#7, keyLow := 44, dests := { guide := true, notify := true } }
    let s (k : PassKind) : State := { up with
      router := { routes := (Vector.replicate 16 {}).set 0 route }, player := { passKind := k } }
    let on (k : Key) : Event := ⟨.playback, 0#32, .noteOn k 70 false⟩
    finalSet (s .listen) (on 64) = { engine := true, notify := true } ∧
      finalSet (s .practice) (on 64) = { guide := true, notify := true } ∧
      finalSet (s .practice) (on 40) = { engine := true } ∧
      finalSet (s .practice) ⟨.live, 0#32, .noteOn 64 70 false⟩ = { engine := true, recorder := true } := by
  decide +kernel

/-- Section 4.7, a route change while a key is held: release follow-through. -/
theorem test_follow_through :
    let s : State := { notified up with
      engine := { live := { down := KeySet.none.add 40 } }
      recorder := some ⟨3, 0, 0, { openKeys := KeySet.none.add 40 }⟩ }
    finalSet s ⟨.live, 0#32, .noteOff 40 false⟩ = { engine := true, recorder := true, notify := true } ∧
      finalSet s ⟨.live, 0#32, .noteOn 40 90 false⟩ = { notify := true } := by decide +kernel

theorem test_set_route :
    ((after (.setRoute 0#8 1#8 2#8 7#8 44#8 87#8 12#8) up).router.routes.get 0) =
      { enabled := true, playback := true, kinds := 7#7, keyLow := 44, dests := { notify := true, guide := true } } := by
  decide +kernel

theorem test_get_route :
    reply (after (.getRoute 0#8) (notified up)) = some (.ok, [1, 1, 0x7F, 0, 87, 4]) := by decide +kernel

/-- Section 4.7, credit for an early press: the three consultations. -/
theorem test_credit_for_an_early_press :
    let l : List Press := [⟨60, 9700#32⟩, ⟨64, 9850#32⟩, ⟨60, 9900#32⟩, ⟨67, 9950#32⟩]
    consult 10000#32 120 60 l = (true, [⟨67, 9950#32⟩]) ∧
      consult 10000#32 120 64 [⟨67, 9950#32⟩] = (false, [⟨67, 9950#32⟩]) ∧
      consult 10000#32 120 67 [⟨67, 9950#32⟩] = (true, []) ∧
      (consult 10000#32 150 64 l).1 = true := by decide

/-- Section 4.7: the awaited press is consumed and the Player plays on. -/
theorem test_guide_offer_releases :
    let s : State := { up with
      guide := { wait := true, expected := KeySet.none.add 64 }, player := { state := .waiting, take := some 2 } }
    let t := guideOffer 64 s
    t.player.state = .playing ∧ t.router.recent = [] ∧ told t = [.playerState .playing (some 2) .continue 0 0] ∧
      (guideOffer 72 t).router.recent = [⟨72, 0#32⟩] := by decide +kernel

theorem test_set_guide :
    let s : State := { up with
      guide := { wait := true, expected := KeySet.none.add 64 }, player := { state := .waiting, take := some 2 } }
    let t := after (.setGuide 0#8 500#16) s
    t.guide.grace = 500 ∧ t.guide.expected = KeySet.none ∧ t.player.state = .playing ∧
      reply (after (.setGuide 0#8 501#16) s) = some (.badValue, []) := by decide +kernel

theorem test_guide_skip :
    let s : State := { up with
      guide := { wait := true, expected := KeySet.none.add 64 }, player := { state := .waiting, take := some 2 } }
    (after .guideSkip s).guide.wait = true ∧ (after .guideSkip s).player.state = .playing := by decide +kernel

/-! ### Voices and the output (sections 5.9 and 6.9) -/

/-- The map entry of section 5.9: four layers. -/
def fourLayers : MapEntry :=
  ⟨[⟨40, 0, 100, 0, 0⟩, ⟨80, 200, 100, 0, 0⟩, ⟨110, 400, 100, 0, 0⟩, ⟨127, 600, 100, 0, 0⟩], 65470, 60000, 32⟩

/-- Section 5.9, a repeated note: the layers, the levels and the fifth strike. -/
theorem test_fifth_strike :
    let e0 : Engine := { map := (Vector.replicate 88 none).set 60 (some fourLayers), nextSeq := 500#32 }
    let e1 := (e0.noteOn .live 60 90).2
    let e4 := ([80, 72, 66].foldl (fun e v => (e.noteOn .live 60 v).2) e1)
    let r := e4.noteOn .live 60 95
    (e1.voices.get 0).level = 32911 ∧ (e4.voices.get 1).level = 26004 ∧
      (e4.voices.get 1).sound.map Sound.start = some 200 ∧ (e4.voices.get 0).state = .released ∧
      r.1 = [.voiceLimit 60] ∧ (r.2.voices.get 0).state = .cut ∧ (r.2.voices.get 4).seq = 504#32 := by
  decide +kernel

/-- The engine of section 5.9 with every voice busy. -/
def busyEngine : Engine :=
  let other : Voice := { state := .released, key := 80, level := 5000, sound := some ⟨0, 1000, 0, 0, 65470, 60000, 64⟩ }
  let v (s : VoiceState) (k : Key) (src : Source) (l c : Nat) : Voice :=
    { other with state := s, key := k, source := src, level := l, cutPos := c }
  { map := Vector.replicate 88 (some fourLayers)
    voices := ((((Vector.replicate 96 other).set 5 (v .cut 31 .live 4210 60)).set 12 (v .released 35 .live 310 0)).set 40
      (v .released 28 .playback 310 0)).set 77 (v .released 50 .live 2000 0) }

/-- Section 5.9, all voices busy: steps 1 to 3. -/
theorem test_steals :
    let e2 := ((busyEngine.noteOn .live 72 100).2.noteOn .playback 48 60).2
    let e3 := e2.noteOff .live 72
    (e2.voices.get 12).state = .cut ∧ (e2.voices.get 40).state = .cut ∧ (e2.voices.get 77).state = .released ∧
      e3.queue = [⟨72, .live, 100, 2, true⟩, ⟨48, .playback, 60, 1, false⟩] := by decide +kernel

/-- Section 5.9, all voices busy: step 4, the voice that frees takes the oldest entry, released. -/
theorem test_output_sample_frees_a_voice :
    let e := (busyEngine.noteOn .live 72 100).2.noteOff .live 72
    let e := { e with voices := e.voices.set 5 { e.voices.get 5 with cutPos := 63 } }
    let t := after .outputSample { up with engine := e }
    (t.engine.voices.get 5).state = .released ∧ (t.engine.voices.get 5).key = 72 ∧
      (t.engine.voices.get 5).level = 40631 ∧ t.engine.queue = [] := by decide +kernel

/-- Section 5.9, the sostenuto: the latch is the set down at SOST_ON, and outlives the releases. -/
theorem test_sostenuto_latch :
    let e : Engine := { live := { down := (KeySet.none.add 36).add 43 } }
    let t := ((e.sostOn .live).noteOff .live 36).noteOff .live 43
    t.live.latch = (KeySet.none.add 36).add 43 ∧ t.live.down = KeySet.none ∧
      (t.sostOff .live).live.latch = KeySet.none := by decide +kernel

/-- Section 6.9, a released note under a moving pedal: three control blocks. -/
theorem test_control_block_decays :
    let v : Voice := { state := .released, key := 48, level := 20000, sound := some ⟨0, 9, 0, 0, 65470, 60000, 64⟩ }
    let block (d : Nat) (v : Voice) : Voice := Engine.blockVoice { live := { damper := d } } v
    (block 255 v).level = 19979 ∧ (block 96 { v with level := 19979 }).level = 18919 ∧
      (block 0 { v with level := 18919 }).level = 17320 ∧
      (Engine.blockVoice { live := { latch := KeySet.none.add 48 } } v).level = 19979 := by decide +kernel

/-- R94 and R90 at the row: due after 48 output samples, a level below 16 frees the voice. -/
theorem test_control_block :
    let v : Voice := { state := .held, key := 48, level := 16, sound := some ⟨0, 9, 0, 0, 65470, 60000, 64⟩ }
    let s (n : Nat) : State := { up with
      engine := { voices := (Vector.replicate 96 {}).set 3 v }, output := { blockCount := n } }
    ((after .controlBlock (s 48)).engine.voices.get 3).state = .free ∧
      (after .controlBlock (s 48)).output.blockCount = 0 ∧
      ((after .controlBlock (s 47)).engine.voices.get 3).state = .held := by decide +kernel

/-- Section 6.9, one output sample: x is 12,000 and -9,000, low byte first in the flash. -/
theorem test_output_sample_mixes :
    let a : Voice := { state := .held, level := 40000, sound := some ⟨0, 9, 0, 0, 65470, 60000, 32⟩ }
    let b : Voice := { state := .cut, level := 30000, cutPos := 48, sound := some ⟨2, 9, 0, 0, 65470, 60000, 100⟩ }
    let t := after .outputSample { up with
      flash := [(0, 0xE0#8), (1, 0x2E#8), (2, 0xD8#8), (3, 0xDC#8)]
      engine := { voices := ((Vector.replicate 96 {}).set 0 a).set 1 b }, output := { mute := 239 } }
    t.output.left = 421415 ∧ t.output.right = 82105 ∧ t.output.mute = 240 ∧ (t.engine.voices.get 1).cutPos = 49 := by
  decide +kernel

/-- Section 6.9: saturation on both sides. -/
theorem test_saturation : saturate (7500000 * 160 / 128) = 8388607 ∧ saturate (-7000000 * 160 / 128) = -8388607 := by
  decide

/-- R103: the frame clock is low in the left slot and high in the right, and each slot has its most significant bit
first. -/
theorem test_audio_frame_on_the_line :
    let x := audioFrame (-8388607) 1
    (frameClock 31 = false ∧ frameClock 32 = true) ∧
      ((dataLine x 0 = true ∧ dataLine x 1 = false ∧ dataLine x 23 = true ∧ dataLine x 24 = false) ∧
        dataLine x 55 = true ∧ dataLine x 56 = false) := by decide

theorem test_load_map :
    let t := after (.loadMap 60#8 1#8 65470#16 60000#16 32#8 [⟨127#8, 4#24, 100#24, 10#24, 90#24⟩]) up
    t.engine.map.get 60 = some ⟨[⟨127, 4, 100, 10, 90⟩], 65470, 60000, 32⟩ ∧
      reply (after (.loadMap 60#8 1#8 65470#16 60000#16 32#8 [⟨127#8, 4#24, 100#24, 10#24, 91#24⟩]) up) =
        some (.badValue, []) := by decide +kernel

theorem test_set_output :
    (after (.setOutput 255#16 1#8) up).output.layer = true ∧
      reply (after (.setOutput 256#16 1#8) up) = some (.badValue, []) := by decide +kernel

theorem test_sound_off :
    ((after .soundOff { up with engine := { busyEngine with queue := [⟨72, .live, 100, 2, true⟩] } }).engine.queue = []) ∧
      ((after .soundOff { up with engine := busyEngine }).engine.voices.get 77).state = .cut := by decide +kernel

/-! ### The rail (section 7.10) -/

/-- A rail at rest at an end, with a good supply. -/
def railAt (st : RailState) (ret eng : Bool) : Rail := { state := st, ret := ret, eng := eng, supply := 12100 }

/-- Section 7.10, at 10,000: RAIL(ENGAGED) with the keyboard not clear. -/
theorem test_rail_waits :
    let t := after (.rail 2#8) { withKey 60 { state := .struck } with rail := railAt .retracted true false }
    t.rail.state = .waitClear ∧ t.rail.settle = none ∧ reply t = some (.accepted, []) ∧
      told t = [.railState .waitClear (some .engaged) (some .retracted) .wait .none 0 12100] := by decide +kernel

/-- Section 7.10, turning back in WAIT_CLEAR: cancelled. -/
theorem test_rail_turns_back :
    let t := after (.rail 2#8) (withRail { railAt .waitClear false true with
      target := some .retracted, origin := some .engaged, direction := some .outward })
    t.rail.state = .engaged ∧ reply t = some (.ok, []) ∧
      told t = [.railState .engaged (some .retracted) (some .engaged) .cancelled .none 0 12100] := by decide +kernel

/-- Section 7.10, at 10,450: the settle completes and the rail is driven in. -/
theorem test_settle_complete :
    let t := after .settleComplete (withRail { railAt .waitClear true false with
      target := some .engaged, origin := some .retracted, direction := some .inward, settle := some 50000 })
    t.rail.state = .moving ∧ t.rail.enable = true ∧ t.rail.driveIn = true ∧ t.rail.driveOut = false := by
  decide +kernel

/-- Section 7.10, at 10,900: key 52, moving down from 150, passes L_s1 at a sample of depth 480 and pauses the rail. -/
theorem test_key_pauses_the_rail :
    let t := after (.keySample 52 2000 0#32) { withKey 52 (key39 .rest 150 0#32) with
      rail := { railAt .moving false false with
        target := some .engaged, origin := some .retracted, direction := some .inward, runUs := 450000
        enable := true, driveIn := true } }
    t.rail.state = .paused ∧ t.rail.enable = false ∧
      told t = [.railState .paused (some .engaged) (some .retracted) .pause .none 450 12100] := by decide +kernel

/-- Section 7.10, a supply that sags at a resume: FAILED with reason LOW_SUPPLY and state RETRACTED, then SWITCH_LOST
with state UNKNOWN. -/
theorem test_low_supply_at_a_resume :
    ((told (after .settleComplete (withRail { railAt .paused false false with
      target := some .engaged, origin := some .retracted, direction := some .inward, settle := some 50000
      supply := 10300, runUs := 300000 }))).map fun n => match n with
        | .railState st _ _ c why _ supply => some (st, c, why, supply)
        | _ => none) =
      [some (.retracted, .failed, .lowSupply, 10300), some (.unknown, .switchLost, .none, 10300)] := by decide +kernel

/-- Section 7.10, at 11,900: ENG asserts. -/
theorem test_switch_event_arrives :
    let t := after (.switchEvent true false) (withRail { railAt .moving false false with
      target := some .engaged, origin := some .retracted, direction := some .inward, runUs := 1100000
      enable := true, driveIn := true })
    t.rail.state = .engaged ∧ t.rail.enable = false ∧
      told t = [.railState .engaged (some .engaged) (some .retracted) .arrived .none 1100 12100] := by decide +kernel

/-- R116: the run limit. -/
theorem test_run_limit_expiry :
    let t := after .runLimitExpiry (withRail { railAt .moving false false with
      target := some .engaged, origin := some .retracted, direction := some .inward, runUs := 1200000 })
    t.rail.state = .fault ∧ t.rail.reason = some .stall := by decide +kernel

/-- R113: the clear-wait limit, back to RETRACTED. -/
theorem test_clear_wait_expiry :
    told (after .clearWaitExpiry (withRail { railAt .waitClear true false with
      target := some .engaged, origin := some .retracted, direction := some .inward, waitUs := 5000000 })) =
      [.railState .retracted (some .engaged) (some .retracted) .failed .blocked 0 12100] := by decide +kernel

/-- Section 7.10, an overcurrent: measurements 13 and 33. -/
theorem test_overcurrent :
    let r (n : Nat) : Rail := { railAt .moving false false with
      target := some .retracted, origin := some .engaged, direction := some .outward, overCount := n }
    (after (.railMeasurement 1180 12000 false false) (withRail (r 12))).rail.overCount = 0 ∧
      (after (.railMeasurement 1520 12000 false false) (withRail (r 18))).rail.overCount = 19 ∧
      (after (.overcurrentFault 1520 12000 false false) (withRail (r 19))).rail.reason = some .overcurrent := by
  decide +kernel

/-- Section 7.10: RAIL_CLEAR with neither switch asserted. -/
theorem test_rail_clear :
    let t := after .railClear (withRail { railAt .fault false false with reason := some .overcurrent })
    t.rail.state = .unknown ∧ t.rail.reason = none ∧ told t = [.railState .unknown none none .cleared .none 0 12100] := by
  decide +kernel

theorem test_set_rail :
    (after (.setRail 500#16 4000#16 30#8 90#8) up).rail.currentLimit = 3000 ∧
      (after (.setRail 500#16 4000#16 30#8 90#8) up).rail.supplyMin = 9000 ∧
      reply (after (.setRail 499#16 4000#16 30#8 90#8) up) = some (.badValue, []) := by decide +kernel

/-! ### Takes (section 8.7) -/

/-- Section 8.7, a short recording: RECORD_START at µs time 20,000,000. -/
def recording3 : State :=
  { after (.recordStart 3#8 0#8) { up with clock := { us := 20000000#32, ms := 20000#32 } } with link := up.link }

/-- The recording with a recording clock, at the µs time it belongs to, after an event. -/
def record (us : Nat) (kind : EventKind) (s : State) : State :=
  let s : State := { s with
    clock := { s.clock with us := BitVec.ofNat 32 us }
    recorder := s.recorder.map fun r => { r with clock := us - 20000000 } }
  recorderEvent ⟨.live, BitVec.ofNat 32 us, kind⟩ s

/-- Section 8.7: the take after the five events and RECORD_STOP. -/
theorem test_short_recording :
    let s := record 21100000 (.noteOff 60 false) (record 21000000 (.noteOff 60 false)
      (record 20400500 (.noteOn 64 80 false) (record 20400250 (.noteOn 60 88 false)
        (record 20150400 (.damper 96) recording3))))
    let t := after .recordStop { s with recorder := s.recorder.map fun r => { r with clock := 1500700 } }
    t.store.records 3 = [⟨150, .damper 96⟩, ⟨250, .noteOn 60 88 false⟩, ⟨0, .noteOn 64 80 false⟩, ⟨600, .noteOff 60⟩,
        ⟨500, .noteOff 64⟩, ⟨0, .damper 0⟩] ∧
      t.store.entry 3 = ⟨.ready, 6, 1500, some 0, some 0, 6, false, false⟩ ∧ t.store.free.head? = some 1 ∧
      told t = [.recordEnd 3 .stopped 6 1500] := by decide +kernel

/-- Section 8.7, a recording that runs out of memory: NOTE_ON 72 is the end. -/
theorem test_full_recording :
    let recs := List.replicate 58 (⟨1, .sostOn⟩ : Record)
    let s0 := holding 7 0 recs up
    let s : State := { s0 with
      store := { s0.store.setState 7 .recording with free := [] }
      recorder := some ⟨7, 0, 58, { openKeys := [48, 55, 60, 64, 67].foldl KeySet.add KeySet.none, damper := 140, last := 58 }⟩ }
    let t := recorderEvent ⟨.live, 0#32, .noteOn 72 90 false⟩ s
    (t.store.entry 7).fill = 64 ∧ (t.store.entry 7).state = .ready ∧ t.recorder = none ∧
      told t = [.recordEnd 7 .full 64 58] := by decide +kernel

/-- R133: the gap timer writes a GAP when 65,535 ms have passed since the last record. -/
theorem test_gap_timer_expiry :
    let s (us : Nat) : State := { recording3 with
      recorder := recording3.recorder.map fun r => { r with clock := us, ctx := { r.ctx with last := 150 } } }
    (after .gapTimerExpiry (s 65685000)).store.records 3 = [⟨65535, .gap⟩] ∧
      (after .gapTimerExpiry (s 65684999)).store.records 3 = [] := by decide +kernel

/-- A part whose bulk writer has written nothing to take 9. -/
def writing9 (ctx : WriteCtx) : State :=
  { up with store := up.store.setState 9 .writing, bulk := some ⟨9, 0, ctx⟩ }

theorem test_take_open : (after (.takeOpen 9#8) up).bulk = some ⟨9, 0, {}⟩ ∧
    ((after (.takeOpen 9#8) up).store.entry 9).state = .writing := by decide +kernel

/-- Section 8.7, writing a take in bulk: frame 1. -/
theorem test_take_write :
    let t := after (.takeWrite 9#8 3#8 [⟨0, 0#16, 40, 70⟩, ⟨0, 0#16, 47, 65⟩, ⟨1, 480#16, 40, 0⟩]) (writing9 {})
    (t.store.entry 9).count = 3 ∧ (t.store.entry 9).duration = 480 ∧ reply t = some (.ok, []) ∧
      t.bulk = some ⟨9, 3, { openKeys := KeySet.none.add 47, last := 480 }⟩ := by decide +kernel

/-- Section 8.7: frames 2 and 3, with key 47 open. -/
theorem test_take_write_is_whole :
    let c : WriteCtx := { openKeys := KeySet.none.add 47, last := 480 }
    reply (after (.takeWrite 9#8 2#8 [⟨1, 20#16, 47, 0⟩, ⟨1, 0#16, 40, 0⟩]) (writing9 c)) = some (.badValue, []) ∧
      (checkRecords c [⟨1, 20#16, 47, 0⟩]).map Prod.snd = some { last := 500 } := by decide +kernel

/-- R138: TAKE_CLOSE closes what is open and makes the take READY. -/
theorem test_take_close :
    let t := after (.takeClose 9#8) (writing9 { openKeys := KeySet.none.add 47, last := 480 })
    t.store.records 9 = [⟨0, .noteOff 47⟩] ∧ (t.store.entry 9).state = .ready ∧ t.bulk = none := by decide +kernel

/-- Section 8.7, erasing take 5 with chain 7, 12, 3. -/
theorem test_take_erase :
    let s : State := { up with store := { up.store with
      links := ((up.store.links.set 7 (some 12)).set 12 (some 3)), free := [20, 21]
      takes := up.store.takes.set 5 ⟨.ready, 150, 9, some 7, some 3, 22, false, false⟩ } }
    let t := after (.takeErase 5#8) s
    t.store.free = [20, 21, 7, 12, 3] ∧ t.store.link 12 = none ∧ (t.store.entry 5).state = .empty := by decide +kernel

theorem test_take_info :
    reply (after (.takeInfo 2#8) (take2 up)) =
      some (.ok, [4, 8, 0, 0xAC, 0x0D, 0, 0, 0, 0, 0, 0, 8, 0, 1, 0, 0xF8, 0x7F, 0]) := by decide +kernel

/-- R139: two records from index 1, with the take time of the first. -/
theorem test_take_read :
    reply (after (.takeRead 2#8 1#16 2#8) (take2 up)) =
      some (.ok, [2, 0xE8, 3, 0, 0, 0, 0xF4, 1, 60, 72, 0, 0, 0, 64, 70]) := by decide +kernel

/-! ### The Player (section 9.8) -/

/-- Section 9.8: route 0 guides PLAYBACK keys from 44 up. -/
def guided : Route :=
  { enabled := true, playback := true, kinds := 7#7, keyLow := 44, dests := { guide := true, notify := true } }

/-- Section 9.8: the loop at three-quarter tempo right after PLAY. -/
def looping : State :=
  let s := take2 up
  after (.play 2#8 0#32) { s with
    player := { tempo := 192, listen := 1, practice := 1, loop := some (800, 2000) }
    guide := { wait := true }
    router := { routes := (Vector.replicate 16 {}).set 0 guided } }

theorem test_play :
    looping.player.snapshot = ⟨90, 0, false⟩ ∧ looping.player.armed = true ∧ looping.player.passKind = .listen ∧
      looping.player.passNumber = 1 ∧ (looping.store.entry 2).played = true := by decide +kernel

/-- Section 9.8: the Player some ticks later, at an accumulator and a cursor, with an empty notice queue. -/
def loopingAt (acc cursor : Nat) (openKeys : KeySet) (damper : Nat) : State :=
  { looping with
    player := { looping.player with
      acc := acc, cursor := cursor, openKeys := openKeys, takePedals := ⟨damper, 0, false⟩
      emitted := ⟨damper, 0, false⟩ }
    link := up.link }

/-- Section 9.8: tick 666 leaves DAMPER 90 waiting, tick 667 emits it. -/
theorem test_player_tick :
    (after .playerTick (loopingAt 127680 0 KeySet.none 0)).player.cursor = 0 ∧
      (after .playerTick (loopingAt 127872 0 KeySet.none 0)).player.cursor = 1 ∧
      (after .playerTick (loopingAt 127872 0 KeySet.none 0)).engine.playback.damper = 90 := by decide +kernel

/-- Section 9.8: tick 2,667 jumps. -/
theorem test_loop_jump :
    let t := after .loopJump (loopingAt 511872 4 (KeySet.none.add 64) 90)
    t.player.acc = 204800 ∧ t.player.cursor = 1 ∧ t.player.passNumber = 2 ∧ t.player.passKind = .practice ∧
      told t = [.keyEvent (.noteOff 64 false) .playback 0#32, .pass (some 2) 2 .practice] := by decide +kernel

/-- Section 9.8: the practice pass waits for keys 60 and 64 (the route here without NOTIFY, whose notices may
come before or after the Guide's). -/
theorem test_practice_pass_waits :
    let s := loopingAt 255872 1 KeySet.none 90
    let t := after .playerTick { s with
      player := { s.player with passKind := .practice }
      router := { routes := s.router.routes.set 0 { guided with dests := { guide := true } } } }
    t.player.state = .waiting ∧ t.player.acc = 256064 ∧
      told t = [.guide 60 (some .expected), .guide 64 (some .expected),
        .playerState .waiting (some 2) .wait 1000 2] := by decide +kernel

/-- R148: the tick that reaches B takes the accumulator over it and reports no marker at B or later; a tick that
finds the accumulator at B after a wait is not that tick (notes/assumptions/18.md). -/
theorem test_markers_around_the_loop_end :
    let p (acc tempo : Nat) : Player := { acc := acc, tempo := tempo, loop := some (800, 2000), armed := true }
    ((p 511744 512).reaches 1999 = false ∧ (p 511744 512).reaches 2000 = false ∧
        (p 511744 512).reaches 2001 = false ∧ (p 511488 512).reaches 1999 = true ∧
        (p 511488 512).reaches 2000 = false) ∧
      (p 512000 256).reaches 2001 = true := by decide

/-- R149: past the last record without a loop the take ends. -/
theorem test_take_end :
    let s := loopingAt 896000 8 KeySet.none 0
    let t := after .takeEnd { s with player := { s.player with armed := false, loop := none } }
    t.player.state = .stopped ∧ (t.store.entry 2).played = false ∧
      told t = [.playerState .stopped (some 2) .ended 3500 0] := by decide +kernel

/-- Section 9.8, locating during a held chord. -/
theorem test_locate :
    let s := loopingAt 307200 3 ((KeySet.none.add 60).add 64) 90
    let t := after (.locate 2650#32) { s with player := { s.player with loop := none, armed := false, tempo := 256 } }
    t.player.acc = 678400 ∧ t.player.cursor = 5 ∧ t.player.openKeys = KeySet.none ∧ t.player.emitted.damper = 90 ∧
      told t = [.keyEvent (.noteOff 60 false) .playback 0#32, .keyEvent (.noteOff 64 false) .playback 0#32,
        .playerState .playing (some 2) .locate 2650 0] := by decide +kernel

/-- Section 9.8: STOP emits NOTE_OFF for the open key and DAMPER 0, and empties the recent presses. -/
theorem test_stop :
    let s := loopingAt 300000 3 (KeySet.none.add 64) 90
    let t := after .stop { s with router := { s.router with recent := [⟨1, 0#32⟩] } }
    t.player.state = .stopped ∧ t.player.take = none ∧ t.router.recent = [] ∧ t.engine.playback.damper = 0 ∧
      told t = [.keyEvent (.noteOff 64 false) .playback 0#32, .playerState .stopped (some 2) .stop 1171 0] := by
  decide +kernel

/-- Section 9.8, a pause inside a wait, and the resume that emits the pedal again. -/
theorem test_pause_and_resume :
    let s := loopingAt 256064 3 (KeySet.none.add 60) 90
    let s := { s with player := { s.player with state := .waiting }, guide := { wait := true, expected := KeySet.none.add 60 } }
    let t := after .pause s
    let u := after .resume { t with link := up.link }
    t.player.state = .paused ∧ t.guide.expected = KeySet.none ∧ t.player.emitted.damper = 0 ∧
      u.player.state = .playing ∧ u.player.emitted.damper = 90 ∧ u.engine.playback.damper = 90 := by decide +kernel

theorem test_set_tempo : (after (.setTempo 64#16) up).player.tempo = 64 ∧
    reply (after (.setTempo 513#16) up) = some (.badValue, []) := by decide +kernel

theorem test_set_loop :
    (after (.setLoop 800#32 900#32) up).player.loop = some (800, 900) ∧
      reply (after (.setLoop 800#32 899#32) up) = some (.badValue, []) := by decide +kernel

theorem test_set_passes : (after (.setPasses 15#8 0#8) up).player.listen = 15 ∧
    reply (after (.setPasses 0#8 0#8) up) = some (.badValue, []) := by decide +kernel

theorem test_set_markers :
    (after (.setMarkers 0#32 0xFFFFFFFF#32 0xFFFFFFFE#32 7#32) up).player.markers =
      #v[some 0, none, some 4294967294, some 7] := by decide +kernel

/-! ### Editing (section 10.7) -/

/-- Section 10.7: TAKE_COPY(2, 1,500, 3,300, 6, NEW), then six steps. -/
theorem test_take_copy :
    let step := after .takeCopyStep
    let s0 := after (.takeCopy 2#8 1500#32 3300#32 6#8 0#8) (take2 up)
    let t := step (step (step (step (step (step s0)))))
    t.store.records 6 = [⟨0, .damper 90⟩, ⟨1200, .damper 0⟩, ⟨500, .noteOn 67 80 false⟩, ⟨100, .noteOff 67⟩] ∧
      (t.store.entry 6).state = .ready ∧ (t.store.entry 2).read = false ∧ t.edit = .idle ∧
      told t = [.editDone .copy .ok 2 (some 6) 4 4 1800] := by decide +kernel

/-- R164: the record of a running TAKE_COPY holds its arguments as they came, and the take time of the source's first
record. -/
theorem test_copy_job_holds_the_arguments :
    (after (.takeCopy 2#8 1500#32 9000#32 6#8 0#8) (take2 up)).edit = .copy
      { src := 2, dst := 6, fromMs := 1500, toArg := 9000, toMs := 3500, append := false, base := 0, started := false
        index := 0, time := 500, ctx := {}, saved := {}, written := 0 } := by decide +kernel

/-- Section 10.7, a rollback: the destination's blocks go back in chain order, and its tail's link reads end. -/
theorem test_rollback :
    let e : TakeEntry := ⟨.ready, 60, 20000, some 10, some 10, 60, false, false⟩
    let st : Store := { up.store with
      links := (up.store.links.set 10 (some 30)).set 30 (some 31), free := []
      takes := up.store.takes.set 4 ⟨.editing, 190, 20130, some 10, some 31, 62, false, false⟩ }
    let t := st.rollback 4 e
    t.entry 4 = e ∧ t.free = [30, 31] ∧ t.link 10 = none ∧ t.link 30 = none := by decide +kernel

/-- EDIT_ABORT of a search reports the records read. -/
theorem test_edit_abort :
    let s := after .takeSearchStep (after (.takeSearch 2#8 0#16 8#8 0#8 87#8 1#8 20#8) (take2 clear))
    told (after .editAbort { s with link := up.link }) = [.editDone .search .aborted 2 none 1 0 0] := by decide +kernel

/-- Section 10.8: the search for a pressed damper, from the start of take 2. -/
theorem test_take_search :
    let s := after (.takeSearch 2#8 0#16 8#8 0#8 87#8 1#8 255#8) (take2 up)
    told (after .takeSearchStep s) = [.editDone .search .ok 2 none 0 0 500] := by decide +kernel

/-- Section 10.7, scaling a passage. -/
theorem test_take_scale :
    let s := holding 9 0 [⟨0, .noteOn 40 70 false⟩, ⟨10, .noteOn 47 100 false⟩, ⟨10, .noteOn 52 120 true⟩] up
    let s0 := after (.takeScale 9#8 0#32 1000#32 40#8 60#8 320#16 0xFB#8) s
    let t := after .takeScaleStep (after .takeScaleStep (after .takeScaleStep s0))
    t.store.records 9 = [⟨0, .noteOn 40 82 false⟩, ⟨10, .noteOn 47 120 false⟩, ⟨10, .noteOn 52 127 true⟩] ∧
      told t = [.editDone .scale .ok 9 none 3 0 0] := by decide +kernel

/-! ### The link and the resets (section 11.10, R178 to R190) -/

/-- Section 11.10: the bytes of RAIL(ENGAGED) one after the other. -/
theorem test_bytes_make_a_command :
    let s := [0xA5#8, 0x01#8, 0x28#8, 0x02#8, 0xD5#8].foldl (fun s b => after (.byteReceived b (tailOf b)) s)
      (withRail (railAt .retracted true false))
    s.rail.state = .waitClear ∧ reply s = some (.accepted, []) ∧ s.link.framer = .hunt := by decide +kernel

/-- R179: a wrong CHECK byte, and a parity error inside a frame. -/
theorem test_byte_received_errors :
    told (after (.byteReceived 0xD4#8 (tailOf 0xD4#8)) (withLink { framer := .check 1 [0x28#8, 0x02#8] })) = [.linkError .check] ∧
      told (after (.byteReceived 0x28#8 ⟨true, true⟩) (withLink { framer := .body 1 [] })) = [.linkError .byte] := by
  decide +kernel

theorem test_frame_gap_expiry :
    told (after .frameGapExpiry (withLink { framer := .length, gapUs := 1001 })) = [.linkError .gap] ∧
      told (after .frameGapExpiry (withLink { framer := .length, gapUs := 1000 })) = [] := by decide +kernel

/-- R180: a break discards the intake and is ended by the line rising again. -/
theorem test_break_and_rise :
    let s := withLink { slot := some ⟨0x81#8, .ok, [], false⟩, intake := [⟨1#8, []⟩, ⟨2#8, []⟩, ⟨2#8, []⟩] }
    let t := after .lineBreak s
    s.rts = false ∧ t.link.intake = [] ∧ t.link.ignoring = true ∧ t.rts = true ∧ told t = [.linkSync] ∧
      (after .receiveLineRise t).link.ignoring = false := by decide +kernel

/-- Section 11.10: the reply goes first, then the notice. -/
theorem test_frame_sent :
    let s := after (.rail 2#8) { withRail (railAt .retracted true false) with link := { cts := true } }
    let t := after .frameSent s
    (s.link.tx.map fun x => x.frame.type) = some 0xA8#8 ∧ (t.link.tx.map fun x => x.frame.type) = some 0x67#8 ∧
      (t.link.tx.map fun x => x.frame.bytes.length) = some 18 ∧ t.link.notices = [] := by decide +kernel

/-- Section 11.10, a busy host: with 64 KEY_EVENT notices queued, KEY_FAULT takes the place of the newest. -/
theorem test_full_queue :
    let l : Link := { notices := List.replicate 64 ⟨.keyEvent .sostOn .live 0#32, 1, 0#32⟩ }
    let m := (l.note (.keyEvent .sostOff .live 0#32) 0#32).note (.keyFault 3 false 9) 0#32
    let t := after (.ctsChange true) (withLink m)
    m.lost = true ∧ m.notices.length = 64 ∧ m.notices.getLast?.map Notice.body = some (.keyFault 3 false 9) ∧
      t.link.tx = some (.notice ⟨.keyFault 3 false 9, 3, 0#32⟩ true) ∧ t.link.lost = false ∧
      t.link.notices.length = 63 := by decide +kernel

theorem test_unknown_type :
    (after (.unknownType 0x7F#8 [1#8]) up).link.slot = some ⟨0xFF#8, .unknownType, [], false⟩ ∧
      (after (.unknownType 0x90#8 []) up).link.slot = some ⟨0xFF#8, .unknownType, [], false⟩ := by decide +kernel

theorem test_get_status :
    reply (after .getStatus up) = some (.ok, [0, 0, 0xFF, 0, 0xFF, 0xFF, 0, 0, 0, 0x80, 0, 0]) := by decide +kernel

theorem test_set_notice_class :
    (after (.setNoticeClass 0x6F#8 2#8) up).link.classes.get 15 = 2 ∧
      reply (after (.setNoticeClass 0x60#8 2#8) up) = some (.badValue, []) := by decide +kernel

/-- R189: RESET_PART resets when its reply has been sent. -/
theorem test_reset_part :
    let s := after .resetPart { clear with output := { vol := 3 } }
    let t := after .frameSent s
    s.output.vol = 3 ∧ t.running = false ∧ t.cause = .command ∧ t.output.vol = 160 ∧
      (after .commandReset s).cause = .command := by decide +kernel

theorem test_resets : (after .powerOnReset { up with cause := .pin }).cause = .power ∧
    (after .pinReset up).cause = .pin ∧ (after .pinReset up).running = false := by decide +kernel

/-- R190 and R106: both switches asserted at the first reads. -/
theorem test_initialization_end :
    let t := after (.initializationEnd 0 12000 true true) State.reset
    t.running = true ∧ t.rail.state = .fault ∧ t.rail.reason = some .switch ∧ t.output.mute = 480 ∧
      told t = [.ready .power .fault] ∧ (after (.initializationEnd 0 12000 false true) State.reset).output.mute = 0 := by
  decide +kernel

/-! ### Witnesses: the link and the resets -/

theorem witness_StepRunsTheFrontCommand :
    ({ up with pending := [.stop, .pause] } : State).pending = .stop :: [.pause] := rfl

theorem witness_EmptyQueueLetsOneMicrosecondPass :
    (up.running = true ∧ up.pending = [] ∧ up.clock.subMs < 999 ∧ up.recorder = none) ∧
      (let s : State := { up with clock := { subMs := 998 }, recorder := some ⟨3, 7, 0, {}⟩ }
       s.running = true ∧ s.pending = [] ∧ s.clock.subMs < 999 ∧ s.recorder = some ⟨3, 7, 0, {}⟩) ∧
      ({ up with clock := { subMs := 999 } } : State).clock.subMs = 999 ∧
      (∀ n ∈ [0, 49999, 50000],
        let s := withRail { state := .waitClear, settle := some n, waitUs := 29999999 }
        s.running = true ∧ s.pending = [] ∧ s.rail.settle = some n ∧ s.rail.state = .waitClear) ∧
      (withRail { state := .moving, runUs := 3999999 }).rail.settle = none ∧
      (∀ n ∈ [1011, 1012],
        let s := withLink { framer := .length, gapUs := n }
        s.running = true ∧ s.pending = [] ∧ s.link.framer ≠ .hunt) := by decide +kernel

/-- The reply of RESET_PART on the line. -/
def resetReply : Reply := ⟨0x82#8, .ok, [], true⟩

theorem witness_ResetReplyEndBeginsTheCommandReset :
    ((withLink { tx := some (.reply resetReply), resetAwait := true }).running = true ∧
      (withLink { tx := some (.reply resetReply), resetAwait := true }).link.tx = some (.reply resetReply) ∧
      resetReply.resets = true) ∧
      ((withLink { tx := some (.reply { resetReply with resets := false }) }).Steady ∧
        ∀ r, (withLink { tx := some (.reply { resetReply with resets := false }) }).link.tx = some (.reply r) →
          r.resets = false) := by
  refine ⟨by decide, by decide, ?_⟩
  intro r h
  cases h
  rfl

theorem witness_InitializationEndsWithReady :
    let s : State := { State.reset with link := { cts := true } }
    s.running = false ∧ s.rail = {} ∧ s.output = {} ∧ s.link = { ({} : Link) with cts := s.link.cts } := by decide

/-- A part that initializes, with nothing queued, and a row that is none of the four exceptions; and a part that runs. -/
theorem witness_InitializationEndsWithReady_off :
    (State.reset.running = false ∧ State.reset.pending = []) ∧ up.Steady ∧
      ∀ i ∈ [Instr.rail 2#8, .keySample 39 1000 0#32, .frameSent], i ≠ .powerOnReset ∧ i ≠ .pinReset ∧
        (∀ b, i ≠ .ctsChange b) ∧ ∀ current supply eng ret, i ≠ .initializationEnd current supply eng ret := by
  refine ⟨by decide, by decide, ?_⟩
  simp

theorem witness_BreakStartsALinkSync :
    (up.running = true ∧ up.link.ignoring = false) ∧
      ((withLink { ignoring := true }).Steady ∧ (withLink { ignoring := true }).link.ignoring = true ∧
        (frameOf (.rail 2#8)).isSome = true ∧ (frameOf (.unknownType 0xFF#8 [])).isSome = true) ∧
      exec .lineBreak up = .next (after .lineBreak up) := ⟨by decide, by decide, rfl⟩

theorem witness_LineRiseSettlesTheLine :
    (withLink { ignoring := true }).Steady ∧ (withLink { held := true }).Steady ∧
      (withLink { held := true, framer := .length }).Steady ∧ up.Steady := by decide

theorem witness_FramerTakesBytes :
    (∀ f ∈ [Framer.hunt, .length, .body 60 [], .body 0 [], .check 0 [0x01#8], .check 1 [0x28#8, 0x02#8]],
      (withLink { framer := f, gapUs := 1011 }).Steady ∧ (withLink { framer := f, gapUs := 1011 }).link.ignoring = false ∧
        (withLink { framer := f, gapUs := 1011 }).link.held = false ∧
        (withLink { framer := f, gapUs := 1011 }).link.gapUs ≤ 1011) ∧
      byteSum (BitVec.ofNat 8 1 :: [0x28#8, 0x02#8] ++ [0xD4#8]) ≠ 0#8 ∧
      byteSum (BitVec.ofNat 8 1 :: (0x28#8 :: [0x02#8]) ++ [0xD5#8]) = 0#8 ∧
      (∀ n ∈ [0, 3, 4],
        let s := withLink { framer := .check 1 [0x28#8, 0x02#8], slot := some resetReply
                            intake := List.replicate n ⟨0x01#8, []⟩ }
        s.Steady ∧ s.link.slot.isSome = true) ∧
      (withLink { framer := .check 1 [0x28#8, 0x02#8], resetAwait := true }).Steady := by decide

theorem witness_FrameGapDiscardsTheFrame :
    (withLink { framer := .length, gapUs := 1001 }).Steady ∧ (withLink { framer := .length, gapUs := 1000 }).Steady := by
  decide

theorem witness_ParseReadsBackEveryCommand :
    (frameOf (.setTempo 192#16) = some ⟨0x45#8, [0xC0#8, 0#8]⟩ ∧ lengthsOk (.setTempo 192#16) = true) ∧
      (frameOf (.takeWrite 9#8 1#8 [⟨1#8, 20#16, 47#8, 0#8⟩]) = some ⟨0x35#8, [9, 1, 1, 20, 0, 47, 0]⟩ ∧
        lengthsOk (.takeWrite 9#8 1#8 [⟨1#8, 20#16, 47#8, 0#8⟩]) = true) ∧
      (frameOf (.loadMap 9#8 0#8 1#16 2#16 3#8 []) = some ⟨0x24#8, [9, 0, 1, 0, 2, 0, 3]⟩ ∧
        lengthsOk (.loadMap 9#8 0#8 1#16 2#16 3#8 []) = true) ∧
      lengthsOk (.loadCal 74#8 87#8 (List.replicate 14 ⟨0#16, 256#16⟩)) = true ∧
      lengthsOk (.takeWrite 9#8 10#8 (List.replicate 10 ⟨1#8, 20#16, 47#8, 0#8⟩)) = true := by decide

theorem witness_DecoderRefusesBadFrames :
    up.Ready ∧
      ((Instr.unknownType 0xFF#8 [7#8]).wf = true ∧ frameOf (.unknownType 0xFF#8 [7#8]) = some ⟨0xFF#8, [7#8]⟩ ∧
        lengthsOk (.unknownType 0xFF#8 [7#8]) = false) ∧
      ((Instr.loadCal 0#8 0#8 []).wf = true ∧ frameOf (.loadCal 0#8 0#8 []) = some ⟨0x10#8, [0, 0]⟩ ∧
        lengthsOk (.loadCal 0#8 0#8 []) = false) ∧
      ((Instr.loadMap 9#8 1#8 1#16 2#16 3#8 []).wf = true ∧
        frameOf (.loadMap 9#8 1#8 1#16 2#16 3#8 []) = some ⟨0x24#8, [9, 1, 1, 0, 2, 0, 3]⟩ ∧
        lengthsOk (.loadMap 9#8 1#8 1#16 2#16 3#8 []) = false) ∧
      ((Instr.takeWrite 9#8 1#8 []).wf = true ∧ frameOf (.takeWrite 9#8 1#8 []) = some ⟨0x35#8, [9, 1]⟩ ∧
        lengthsOk (.takeWrite 9#8 1#8 []) = false) := by decide

/-- The layouts of one length and of a count (section 11.7), at the edges of what each admits. -/
theorem witness_DecoderRefusesBadFrames_lengths :
    let bytes (n : Nat) : List Byte := List.replicate n 0#8
    (parseFrame ⟨0x04#8, []⟩ = .error .unknownType ∧ parseFrame ⟨0x80#8, []⟩ = .error .unknownType) ∧
      (parseFrame ⟨0x28#8, []⟩ = .error .badLength ∧ parseFrame ⟨0x28#8, bytes 2⟩ = .error .badLength ∧
        parseFrame ⟨0x16#8, bytes 36⟩ = .error .badLength ∧ (parseFrame ⟨0x16#8, bytes 37⟩).isOk = true) ∧
      (parseFrame ⟨0x10#8, 0#8 :: 1#8 :: bytes 4⟩ = .error .badLength ∧
        (parseFrame ⟨0x10#8, 1#8 :: 0#8 :: bytes 4⟩).isOk = true ∧
        (parseFrame ⟨0x10#8, 0#8 :: 88#8 :: bytes 4⟩).isOk = true ∧
        parseFrame ⟨0x10#8, bytes 2⟩ = .error .badLength ∧
        parseFrame ⟨0x10#8, 0#8 :: 14#8 :: bytes 60⟩ = .error .badLength) ∧
      (parseFrame ⟨0x24#8, 9#8 :: 1#8 :: bytes 5⟩ = .error .badLength ∧
        (parseFrame ⟨0x24#8, 9#8 :: 5#8 :: bytes 5⟩).isOk = true ∧
        (parseFrame ⟨0x24#8, 9#8 :: 4#8 :: bytes 57⟩).isOk = true) ∧
      (parseFrame ⟨0x35#8, 9#8 :: 2#8 :: bytes 5⟩ = .error .badLength ∧
        parseFrame ⟨0x35#8, 9#8 :: 0#8 :: bytes 0⟩ = .error .badLength ∧
        (parseFrame ⟨0x35#8, 9#8 :: 10#8 :: bytes 50⟩).isOk = true) := by decide

theorem witness_DecoderRefusesBadFrames_bytes :
    let s := withLink { framer := .check 0 [0x28#8], gapUs := 1011 }
    s.Ready ∧ s.link.Settled ∧ s.link.held = false ∧ s.link.gapUs ≤ 1011 ∧ s.link.framer = .check 0 (0x28#8 :: []) ∧
      byteSum (BitVec.ofNat 8 0 :: (0x28#8 :: []) ++ [0xD8#8]) = 0#8 ∧
      parseFrame ⟨0x28#8, []⟩ = .error .badLength := by decide

/-- A longest frame; and three rows of the statement's layouts: a key event, a notice with no field, a fault report. -/
theorem witness_FrameBytesSumToZero :
    (⟨0x7F#8, List.replicate 60 1#8⟩ : Frame).payload.length ≤ 60 ∧
      (let layout (n : NoticeBody) : Option (Nat × List (Nat × Nat)) := match n with
         | .keyEvent (.noteOn k v rep) src t => some (0x63, [(1, 0), (1, match src with | .live => 0 | .playback => 1),
             (4, t.toNat), (1, k.val), (1, v), (1, if rep then 1 else 0)])
         | .linkSync => some (0x61, [])
         | .keyFault k recovered raw => some (0x65, [(1, k.val), (1, if recovered then 1 else 0), (2, raw)])
         | _ => none
       layout (.keyEvent (.noteOn 87 127 true) .playback 0xFFFFFFFF#32) =
           some (0x63, [(1, 0), (1, 1), (4, 4294967295), (1, 87), (1, 127), (1, 1)]) ∧
         layout .linkSync = some (0x61, []) ∧
         layout (.keyFault 87 true 4095) = some (0x65, [(1, 87), (1, 1), (2, 4095)])) := by decide

theorem witness_FrameArrivalRunsItsCommand :
    let s := withLink { framer := .check 1 [0x28#8, 0x02#8], gapUs := 1011 }
    s.Ready ∧ s.link.Settled ∧ s.link.held = false ∧ s.link.gapUs ≤ 1011 ∧ (Instr.rail 2#8).wf = true ∧
      frameOf (.rail 2#8) = some ⟨0x28#8, [0x02#8]⟩ ∧ s.link.framer = .check 1 (0x28#8 :: [0x02#8]) := by decide

theorem witness_ClosedDecoderLetsFramesWait :
    (∀ n ∈ [0, 3, 4],
      let s := withLink { slot := some resetReply, intake := List.replicate n ⟨0x01#8, []⟩ }
      s.Steady ∧ s.link.ignoring = false ∧ s.link.slot.isSome = true) ∧
      ((withLink { resetAwait := true }).Steady ∧ (withLink { resetAwait := true }).link.resetAwait = true) ∧
      (Instr.rail 2#8).wf = true ∧ frameOf (.rail 2#8) = some ⟨0x28#8, [0x02#8]⟩ := by decide

/-- A notice of a class. -/
def noticeOf (c : Nat) : Notice := ⟨.linkSync, c, 0#32⟩

theorem witness_TransmitterSendsRepliesThenClasses :
    (({ tx := some (.reply resetReply), cts := true } : Link).tx.isSome = true ∧ ({} : Link).cts = false) ∧
      (let l : Link := { cts := true, slot := some resetReply, notices := [noticeOf 3] }
       l.tx = none ∧ l.cts = true ∧ l.slot = some resetReply) ∧
      (let l : Link := { cts := true, notices := [noticeOf 1, noticeOf 2, noticeOf 2], lost := true }
       l.tx = none ∧ l.cts = true ∧ l.slot = none ∧ l.notices = [noticeOf 1] ++ noticeOf 2 :: [noticeOf 2] ∧
         (∀ m ∈ [noticeOf 1], m.cls < (noticeOf 2).cls) ∧ ∀ m ∈ [noticeOf 2], m.cls ≤ (noticeOf 2).cls) ∧
      (({ cts := true } : Link).slot = none ∧ ({ cts := true } : Link).notices = []) := by decide

theorem witness_TransmitterEventsChooseTheNextFrame :
    (up.running = true ∧ up.link.intake = [] ∧ up.Steady) ∧
      (let s := withLink { tx := some (.notice (noticeOf 1) false) }
       s.running = true ∧ s.link.intake = [] ∧ s.link.tx = some (.notice (noticeOf 1) false) ∧
         ∀ r, Sending.notice (noticeOf 1) false = .reply r → r.resets = false) ∧
      (let x := Sending.reply { resetReply with resets := false }
       let s := withLink { cts := true, tx := some x, slot := some resetReply, intake := [⟨0x28#8, [0x02#8]⟩] }
       s.running = true ∧ s.link.ignoring = false ∧ s.link.cts = true ∧ s.link.tx = some x ∧
         (∀ r, x = .reply r → r.resets = false) ∧ s.link.slot = some resetReply ∧ s.link.resetAwait = false ∧
         (Instr.rail 2#8).wf = true ∧ frameOf (.rail 2#8) = some ⟨0x28#8, [0x02#8]⟩ ∧
         s.link.intake = [⟨0x28#8, [0x02#8]⟩]) := by
  refine ⟨by decide, ⟨rfl, rfl, rfl, ?_⟩, rfl, rfl, rfl, rfl, ?_, rfl, rfl, rfl, rfl, rfl⟩
  · intro r h
    cases h
  · intro r h
    cases h
    rfl

theorem witness_TransmitterEventsChooseTheNextFrame_more_frames :
    ∀ tx ∈ [none, some (Sending.notice (noticeOf 1) false)],
      let s := withLink { cts := tx.isSome, tx := tx, slot := some { resetReply with resets := false }
                          intake := [⟨0x28#8, [0x02#8]⟩, ⟨0x01#8, []⟩, ⟨0x01#8, []⟩] }
      s.running = true ∧ s.link.ignoring = false ∧ s.link.slot = some { resetReply with resets := false } ∧
        s.link.resetAwait = false ∧ (Instr.rail 2#8).wf = true ∧ frameOf (.rail 2#8) = some ⟨0x28#8, [0x02#8]⟩ ∧
        s.link.intake = ⟨0x28#8, [0x02#8]⟩ :: [⟨0x01#8, []⟩, ⟨0x01#8, []⟩] ∧
        (s.link.tx = none ∨ s.link.cts = true) := by decide

theorem witness_FullQueueKeepsTheHigherClasses :
    ({ notices := List.replicate 63 (noticeOf 1) } : Link).notices.length < 64 ∧
      (let l : Link := { notices := List.replicate 62 (noticeOf 1) ++ noticeOf 1 :: [noticeOf 3] }
       l.notices.length = 64 ∧ (∀ m ∈ l.notices, (noticeOf 1).cls ≤ m.cls) ∧
         (∀ m ∈ [noticeOf 3], m.cls ≠ (noticeOf 1).cls) ∧ (noticeOf 1).cls < (noticeOf 2).cls) ∧
      (let l : Link := { notices := List.replicate 64 (noticeOf 1) }
       l.notices.length = 64 ∧ ∀ m ∈ l.notices, (noticeOf 1).cls ≤ m.cls) := by decide +kernel

/-- A state that meets the premises of the invariants: a part that runs, about to take a command. -/
def aboutToPlay : State := { take2 up with pending := [.play 2#8 0#32] }

theorem aboutToPlay_steps : step aboutToPlay = .next (after (.play 2#8 0#32) (take2 up)) := rfl

theorem witness_StepsLeaveTheLinkSettled :
    (aboutToPlay.running = true → aboutToPlay.link.Settled) ∧
      step aboutToPlay = .next (after (.play 2#8 0#32) (take2 up)) ∧
      (after (.play 2#8 0#32) (take2 up)).running = true :=
  ⟨by decide, aboutToPlay_steps, by decide +kernel⟩

theorem witness_StepsKeepTheCapacities :
    CapacityLaw aboutToPlay ∧ step aboutToPlay = .next (after (.play 2#8 0#32) (take2 up)) :=
  ⟨by decide +kernel, aboutToPlay_steps⟩

theorem witness_StepsNeverWriteTheFlash : step aboutToPlay = .next (after (.play 2#8 0#32) (take2 up)) :=
  aboutToPlay_steps

theorem witness_GetStatusReports : up.Ready ∧ clear.Ready := by decide

theorem witness_PartCommandsAnswer :
    up.Ready ∧ (0x60#8).toNat < 0x61 ∧ 0x6F < (0x70#8).toNat ∧ 3 < (4#8).toNat ∧
      (∀ n ∈ [0x61#8, 0x6F#8], 0x61 ≤ n.toNat ∧ n.toNat ≤ 0x6F) ∧ (3#8).toNat ≤ 3 := by decide

/-! ### Witnesses: keys, touch, pedals -/

theorem witness_KeySampleFollowsTheStateRules :
    (∀ st ∈ [KeyState.arming, .rest, .descent, .struck, .rearmed, .repDescent],
      let s := withKey 39 (key39 st 20 0#32)
      s.Steady ∧ touchOk s.touch.lRel s.touch.lS1 s.touch.lRep s.touch.lS2 s.touch.h s.touch.tSilent = true ∧
        (s.keys.get 39).state = st ∧
        (∀ raw ∈ [544, 1300, 1550, 2400, 3000, 3616],
          (s.keys.get 39).rest ≤ raw + 256 ∧ raw ≤ (s.keys.get 39).bottom + 256)) ∧
      (∀ st ∈ [KeyState.offline, .capture], ((withKey 39 { state := st }).keys.get 39).state = st) := by
  decide +kernel

/-- Samples outside the window below and above it, with counts up to 30 and at 31, and the counting in FAULT. -/
theorem witness_KeySampleFollowsTheStateRules_window :
    (∀ n ∈ [0, 30, 31], ∀ st ∈ [KeyState.arming, .struck, .repDescent],
      let s := withKey 39 { key39 st 900 0#32 with outCount := n }
      s.Steady ∧ touchOk s.touch.lRel s.touch.lS1 s.touch.lRep s.touch.lS2 s.touch.h s.touch.tSilent = true ∧
        (s.keys.get 39).state = st ∧
        ∀ raw ∈ [543, 3617], ¬((s.keys.get 39).rest ≤ raw + 256 ∧ raw ≤ (s.keys.get 39).bottom + 256)) ∧
      (∀ n ∈ [0, 62, 63],
        let s := withKey 39 { key39 .fault 900 0#32 with inCount := n }
        s.Steady ∧ (s.keys.get 39).state = .fault ∧ (n < 63 ∨ n = 63)) ∧
      ((withKey 39 { state := .capture }).Steady ∧ ((withKey 39 { state := .capture }).keys.get 39).state = .capture) := by
  decide +kernel

theorem witness_KeyFaultEntryAndRecovery :
    (let s := withKey 39 { key39 .rest 20 0#32 with outCount := 31 }
     s.Steady ∧ (s.keys.get 39).inPlay = true ∧ (s.keys.get 39).outCount = 31 ∧ (s.keys.get 39).state = .rest ∧
       (543 + 256 < (s.keys.get 39).rest ∨ (s.keys.get 39).bottom + 256 < 543) ∧
       (3617 + 256 < (s.keys.get 39).rest ∨ (s.keys.get 39).bottom + 256 < 3617)) ∧
      (let s := withKey 39 { key39 .fault 20 0#32 with inCount := 63 }
       s.Steady ∧ (s.keys.get 39).state = .fault ∧ (s.keys.get 39).inCount = 63 ∧ (s.keys.get 39).rest ≤ 544 + 256 ∧
         544 ≤ (s.keys.get 39).bottom + 256 ∧ (s.keys.get 39).rest ≤ 3616 + 256 ∧ 3616 ≤ (s.keys.get 39).bottom + 256 ∧
         (s.keys.get 39).depthOf 1549 < s.touch.lS1) := by decide +kernel

/-- The entry in every other state in play, with an earlier stamp than the sample's and a key at the range's end. -/
theorem witness_KeyFaultEntryAndRecovery_states :
    ∀ st ∈ [KeyState.arming, .descent, .struck, .rearmed, .repDescent],
      let s := withKey 87 { key39 st 900 0#32 with outCount := 31 }
      s.Steady ∧ (s.keys.get 87).inPlay = true ∧ (s.keys.get 87).outCount = 31 ∧
        (543 + 256 < (s.keys.get 87).rest ∨ (s.keys.get 87).bottom + 256 < 543) := by decide +kernel

theorem witness_CurveLookupInterpolates :
    let c := ({} : Touch).openCurve
    curveOk c.toList = true ∧ 20 ≤ (c.get 0).1 ∧ (c.get 11).1 ≤ 3600 ∧ ((c.get 0).1 < 21 ∧ 3599 < (c.get 11).1) ∧
      ((c.get (8 : Fin 11).castSucc).1 ≤ 1400 ∧ 1899 < (c.get (8 : Fin 11).succ).1) := by decide

theorem witness_StrikeVelocityBounds :
    255 ≤ 255 ∧ ({ soft := 128 } : Touch).soft ≤ 128 ∧ curveOk ({} : Touch).openCurve.toList = true ∧
      curveOk ({} : Touch).stoppedCurve.toList = true := by decide

theorem witness_CalibrationCommandsReplaceRecords :
    (let pairs : List CalPair := [⟨0#16, 256#16⟩, ⟨3839#16, 4095#16⟩]
     up.Ready ∧ (86#8).toNat ≤ (87#8).toNat ∧ (87#8).toNat ≤ 87 ∧ pairs.length ≤ 14 ∧
       pairs.length = (87#8).toNat - (86#8).toNat + 1 ∧
       (∀ p ∈ pairs, p.rest.toNat ≤ 4095 ∧ p.bottom.toNat ≤ 4095 ∧ p.rest.toNat + 256 ≤ p.bottom.toNat) ∧
       ∀ k : Key, (86#8).toNat ≤ k.val → k.val ≤ (87#8).toNat → (up.keys.get k).state ≠ .capture) ∧
      ((0#8).toNat ≤ (87#8).toNat) ∧
      ((withKey 40 { state := .capture, capMin := 0, capMax := 256 }).Ready ∧
        ∃ k : Key, ((withKey 40 { state := .capture, capMin := 0, capMax := 256 }).keys.get k).state = .capture) ∧
      ∀ k : Key, (up.keys.get k).state ≠ .capture := by decide +kernel

theorem witness_CalibrationCommandsReplaceRecords_refusals :
    let good : CalPair := ⟨0#16, 256#16⟩
    (87 < (88#8).toNat ∧ (1#8).toNat < (2#8).toNat ∧ [good].length = (87#8).toNat - (87#8).toNat + 1) ∧
      (∀ p ∈ [(⟨4096#16, 4096#16⟩ : CalPair), ⟨0#16, 4096#16⟩, ⟨0#16, 255#16⟩],
        4095 < p.rest.toNat ∨ 4095 < p.bottom.toNat ∨ p.bottom.toNat < p.rest.toNat + 256) ∧
      ((withKey 87 { state := .capture }).Ready ∧ ((withKey 87 { state := .capture }).keys.get 87).state = .capture ∧
        ¬(4095 < good.rest.toNat ∨ 4095 < good.bottom.toNat ∨ good.bottom.toNat < good.rest.toNat + 256)) ∧
      (∀ st ∈ [KeyState.struck, .rearmed, .repDescent],
        (withKey 87 { state := st }).Ready ∧ ((withKey 87 { state := st }).keys.get 87).state ≠ .capture) := by
  decide +kernel

theorem witness_TouchCommandsReplaceSettings :
    up.Ready ∧
      (∀ h ∈ [3, 65], touchOk 100 200 500 800 h 50000 = false) ∧ touchOk 181 200 500 800 20 50000 = false ∧
      touchOk 100 200 200 800 20 50000 = false ∧ touchOk 100 200 500 500 20 50000 = false ∧
      touchOk 100 200 500 1001 20 50000 = false ∧ (∀ t ∈ [19999, 2000001], touchOk 100 200 500 800 20 t = false) ∧
      touchOk 0 4 5 1000 4 20000 = true ∧ touchOk 136 200 500 1000 64 2000000 = true ∧
      curveOk (curveOf (Vector.replicate 12 1#16) (Vector.replicate 12 1#8)).toList = false ∧ 1 < (2#8).toNat ∧
      curveOk (curveOf #v[1, 2, 3, 4, 5, 6, 7, 8, 9, 10, 11, 60000] (Vector.replicate 12 127#8)).toList = true := by
  decide +kernel

/-- Breakpoints at the ends of what R27 admits, and one of each kind that it does not. -/
theorem witness_TouchCommandsReplaceSettings_curves :
    let admitted (speeds : Vector W16 12) (vs : Vector Byte 12) : Prop :=
      (∀ i : Fin 12, 1 ≤ (speeds.get i).toNat ∧ (speeds.get i).toNat ≤ 60000 ∧ 1 ≤ (vs.get i).toNat ∧
        (vs.get i).toNat ≤ 127) ∧
      ∀ i : Fin 11, (speeds.get i.castSucc).toNat < (speeds.get i.succ).toNat ∧
        (vs.get i.castSucc).toNat ≤ (vs.get i.succ).toNat
    let rising (first last : W16) : Vector W16 12 := #v[first, 2, 3, 4, 5, 6, 7, 8, 9, 10, 11, last]
    let flat (v : Byte) : Vector Byte 12 := Vector.replicate 12 v
    (admitted (rising 1 60000) (flat 1) ∧ admitted (rising 1 12) (flat 127)) ∧
      (¬admitted (rising 0 12) (flat 1) ∧ ¬admitted (rising 1 60001) (flat 1) ∧ ¬admitted (rising 2 12) (flat 1) ∧
        ¬admitted (rising 1 12) (flat 0) ∧ ¬admitted (rising 1 12) (flat 128) ∧
        ¬admitted (rising 1 12) ((flat 9).set 11 8)) := by decide +kernel

theorem witness_GetKeyReports :
    up.Ready ∧ 87 < (88#8).toNat ∧ (87 : Key).val = (87#8).toNat ∧ (0 : Key).val = (0#8).toNat := by decide

theorem witness_PedalSampleJudgesTheAverage :
    (let s : State := { up with pedals := { damper := damper [600, 600, 600, 600] 0, sostenuto := damper [600] 0 } }
     s.Steady ∧ (s.pedals.get .damper).window.length ≤ 4 ∧ (s.pedals.get .sostenuto).window.length ≤ 4 ∧
       (s.pedals.get .damper).state = .active ∧ (s.pedals.get .sostenuto).state = .active ∧
       ((s.pedals.get .damper).rest ≤ 344 + 256 ∧ 344 ≤ (s.pedals.get .damper).full + 256) ∧
       ((s.pedals.get .damper).rest ≤ 3416 + 256 ∧ 3416 ≤ (s.pedals.get .damper).full + 256)) ∧
      (up.Steady ∧ (up.pedals.get .soft).window.length ≤ 4 ∧ (up.pedals.get .soft).state = .uncalibrated) := by
  decide +kernel

/-- Samples outside the window with counts of 30 and 31, the counting in FAULT, and a pedal on and off. -/
theorem witness_PedalSampleJudgesTheAverage_window :
    (∀ n ∈ [30, 31], ∀ p ∈ [Pedal.damper, .soft, .sostenuto],
      let s : State := { up with pedals := up.pedals.put p { damper [600, 600] 9 with outCount := n, sost := true } }
      s.Steady ∧ (s.pedals.get p).window.length ≤ 4 ∧ (s.pedals.get p).state = .active ∧
        (s.pedals.get p).lastEmitted ≠ 0 ∧ (s.pedals.get p).sost = true ∧
        ∀ raw ∈ [343, 3417], ¬((s.pedals.get p).rest ≤ raw + 256 ∧ raw ≤ (s.pedals.get p).full + 256)) ∧
      (∀ n ∈ [0, 62, 63],
        let s : State := { up with pedals := { damper := { damper [600] 0 with state := .fault, inCount := n } } }
        s.Steady ∧ (s.pedals.get .damper).state = .fault ∧ (n < 63 ∨ n = 63)) := by decide +kernel

theorem witness_PedalFaultEntryAndRecovery :
    (∀ p ∈ [Pedal.damper, .soft, .sostenuto],
      let s : State := { up with pedals := up.pedals.put p { damper [4095] 0 with outCount := 31 } }
      s.Steady ∧ (s.pedals.get p).state = .active ∧ (s.pedals.get p).outCount = 31 ∧
        (343 + 256 < (s.pedals.get p).rest ∨ (s.pedals.get p).full + 256 < 343) ∧
        (3417 + 256 < (s.pedals.get p).rest ∨ (s.pedals.get p).full + 256 < 3417) ∧
        (s.pedals.get p).lastEmitted = 0 ∧ (s.pedals.get p).sost = false) ∧
      (∀ p ∈ [Pedal.damper, .soft, .sostenuto],
        let s : State := { up with pedals := up.pedals.put p { damper [600] 0 with state := .fault, inCount := 63 } }
        s.Steady ∧ (s.pedals.get p).state = .fault ∧ (s.pedals.get p).inCount = 63 ∧
          ((s.pedals.get p).rest ≤ 344 + 256 ∧ 344 ≤ (s.pedals.get p).full + 256) ∧
          ((s.pedals.get p).rest ≤ 3416 + 256 ∧ 3416 ≤ (s.pedals.get p).full + 256)) := by decide +kernel

theorem witness_PedalFaultEntryAndRecovery_events :
    (∀ p ∈ [Pedal.damper, .soft],
      let s : State := { up with pedals := up.pedals.put p { damper [4095] 255 with outCount := 31 } }
      s.Steady ∧ (s.pedals.get p).state = .active ∧ (s.pedals.get p).outCount = 31 ∧ (s.pedals.get p).lastEmitted ≠ 0) ∧
      (let s : State := { up with pedals := up.pedals.put .sostenuto { damper [4095] 0 with outCount := 31, sost := true } }
       s.Steady ∧ (s.pedals.get .sostenuto).state = .active ∧ (s.pedals.get .sostenuto).outCount = 31 ∧
         (s.pedals.get .sostenuto).sost = true) := by decide +kernel

theorem witness_PedalCommandsReplaceAndReport :
    up.Ready ∧ 2 < (3#8).toNat ∧ 4095 < (4096#16).toNat ∧ (127#16).toNat < (0#16).toNat + 128 ∧
      pedalOf 0#8 = some .damper ∧ pedalOf 2#8 = some .sostenuto ∧
      ((3967#16).toNat ≤ 4095 ∧ (4095#16).toNat ≤ 4095 ∧ (3967#16).toNat + 128 ≤ (4095#16).toNat) := by decide

/-! ### Witnesses: routes, Guide, voices, output -/

theorem witness_RouteCommandsReplaceAndReport :
    up.Ready ∧ 15 < (16#8).toNat ∧ 1 < (2#8).toNat ∧ 3 < (4#8).toNat ∧ 127 < (128#8).toNat ∧ 87 < (88#8).toNat ∧
      (86#8).toNat < (87#8).toNat ∧
      ((15 : Fin 16).val = (15#8).toNat ∧ (1#8).toNat ≤ 1 ∧ (3#8).toNat ≤ 3 ∧ (127#8).toNat ≤ 127 ∧
        (87#8).toNat ≤ (87#8).toNat ∧ (87#8).toNat ≤ 87 ∧ (15#8).toNat ≤ 15) := by decide

theorem witness_DestinationsFollowTheRoutes :
    let on (src : Source) : Event := ⟨src, 0#32, .noteOn 64 70 false⟩
    let off : Event := ⟨.live, 0#32, .noteOff 40 false⟩
    let guide (k : PassKind) : State := { up with
      router := { routes := (Vector.replicate 16 {}).set 5 guided }, player := { passKind := k } }
    let held : State := { up with
      engine := { live := { down := KeySet.none.add 40, sost := true } }
      recorder := some ⟨3, 0, 0, { openKeys := KeySet.none.add 40, sost := true }⟩ }
    (∀ i : Fin 16, (up.router.routes.get i).covers (on .live) = false) ∧
      (((guide .practice).router.routes.get 5).covers (on .playback) = true ∧
        ∀ j : Fin 16, j < 5 → ((guide .practice).router.routes.get j).covers (on .playback) = false) ∧
      (finalSet (guide .practice) (on .playback)).guide = true ∧
      ((on .playback).kind.key?.isSome = true ∧ (guide .listen).player.passKind = .listen ∧
        (routedSet (guide .listen).router.routes (on .playback)).guide = true) ∧
      (off.kind = .noteOff 40 false ∧ (held.engine.source off.source).down.mem 40 = true) ∧
      (held.recorder = some ⟨3, 0, 0, { openKeys := KeySet.none.add 40, sost := true }⟩ ∧
        (KeySet.none.add 40).mem 40 = true) ∧
      (held.engine.source .live).sost = true := by decide +kernel

/-- Two deliveries of which none, one or both place a notice: an unmapped key at the engine, and with NOTIFY, and with
NOTIFY and the Guide. -/
theorem witness_DestinationsFollowTheRoutes_delivery :
    let ev : Event := ⟨.playback, 0#32, .noteOn 64 70 false⟩
    let s (d : Dests) : State := { up with
      router := { routes := (Vector.replicate 16 {}).set 15 { guided with dests := d } }
      recorder := some ⟨3, 0, 0, {}⟩ }
    let counts (d : Dests) : Nat := ((deliveries (finalSet (s d) ev) ev).filter fun g => (g (s d)).link ≠ (s d).link).length
    counts { engine := true, recorder := true } = 0 ∧ counts { engine := true, notify := true } = 1 ∧
      counts { notify := true, guide := true } = 2 := by decide +kernel

theorem witness_GuideCommandsReleaseTheWait :
    up.Ready ∧ (withPlayer { state := .waiting }).Ready ∧ 1 < (2#8).toNat ∧ 500 < (501#16).toNat ∧
      (500#16).toNat ≤ 500 := by decide

theorem witness_RecentPressesCreditTheOldest :
    (let l : List Press := [⟨60, 9879#32⟩, ⟨64, 9880#32⟩, ⟨60, 9900#32⟩]
     (l.filter fun q => decide ((10000#32 - q.ms).toNat ≤ 120)) = [⟨64, 9880#32⟩] ++ (⟨60, 9900#32⟩ : Press) :: [] ∧
       (∀ q ∈ [(⟨64, 9880#32⟩ : Press)], q.key ≠ 60)) ∧
      (∀ q ∈ [(⟨60, 9879#32⟩ : Press), ⟨64, 9880#32⟩], (10000#32 - q.ms).toNat ≤ 120 → q.key ≠ 60) ∧
      (List.replicate 9 (⟨60, 0#32⟩ : Press)).length < 10 ∧ (List.replicate 10 (⟨60, 0#32⟩ : Press)).length = 10 := by
  decide

/-- The offer to the Guide and the growth of the expected set, at 9 and at 10 expected keys. -/
theorem witness_RecentPressesCreditTheOldest_guide :
    let nine : KeySet := [0, 1, 2, 3, 4, 5, 6, 7, 8].foldl KeySet.add KeySet.none
    let s (st : PlayState) (ks : KeySet) : State :=
      { up with player := { state := st, take := some 2 }, guide := { wait := true, expected := ks } }
    (s .waiting nine).guide.expected.mem 60 = false ∧
      ((s .waiting (KeySet.none.add 60)).guide.expected.mem 60 = true ∧ (s .waiting nine).player.state = .waiting ∧
        ∀ j : Key, ((KeySet.none.add 60).set 60 false).get j = false) ∧
      ((s .playing nine).guide.expected.mem 8 = true) ∧
      ((List.finRange 88).filter fun j => nine.get j).length = 9 ∧
      ((List.finRange 88).filter fun j => (nine.add 60).get j).length = 10 ∧ up.guide.wait = false := by
  decide +kernel

/-- An engine with key 60 mapped and these voices and waiting entries. -/
def engineWith (voices : Vector Voice 96) (queue : List PendingStart) : Engine :=
  { map := (Vector.replicate 88 none).set 60 (some fourLayers), voices := voices, queue := queue, nextSeq := 500#32 }

/-- A voice of a key in a state, with a level and a sequence. -/
def voiceOf (st : VoiceState) (k : Key) (level : Nat) (seq : W32) : Voice :=
  { state := st, key := k, level := level, seq := seq, sound := some ⟨0, 100, 0, 0, 65470, 60000, 64⟩ }

/-- Voice 0 is free, voices 1 to 4 hold key 60 released, the rest are busy with other keys. -/
def fullKey : Vector Voice 96 :=
  ((((Vector.replicate 96 (voiceOf .held 20 9 9#32)).set 0 {}).set 1 (voiceOf .released 60 9 496#32)).set 2
    (voiceOf .released 60 9 497#32)).set 3 (voiceOf .released 60 9 498#32) |>.set 4 (voiceOf .released 60 9 499#32)

theorem witness_NoteOnFindsAVoice_a_free_voice :
    let e := engineWith (Vector.replicate 96 {}) []
    e.map.get 60 = some fourLayers ∧ (e.voices.get 0).state = .free ∧
      (∀ j : Fin 96, j < 0 → (e.voices.get j).state ≠ .free) ∧ e.keyCount 60 < 4 := by decide +kernel

/-- The layer of a velocity at the ends of a layer's range: the first whose upper velocity is at least it. -/
theorem witness_NoteOnFindsAVoice_a_layer :
    ∀ p ∈ [(0, 1, 40), (1, 41, 80), (2, 81, 110), (3, 111, 127)],
      (fourLayers.layers[p.1]?).map Layer.upper = some p.2.2 ∧ p.2.1 ≤ p.2.2 ∧
        ∀ j < p.1, ((fourLayers.layers[j]?).map Layer.upper).getD 127 < p.2.1 := by decide

theorem witness_NoteOnFindsAVoice_the_key_limit :
    let e := engineWith fullKey []
    e.map.get 60 = some fourLayers ∧ (e.voices.get 0).state = .free ∧ 4 ≤ e.keyCount 60 ∧
      ((e.voices.get 1).state = .released ∧ (e.voices.get 1).key = 60) ∧
      (∀ j : Fin 96, j ≠ 1 → ((e.voices.get j).state = .held ∨ (e.voices.get j).state = .released) →
        (e.voices.get j).key = 60 → ((e.voices.get 1).seq - e.nextSeq).toNat < ((e.voices.get j).seq - e.nextSeq).toNat) ∧
      (let p : PendingStart := ⟨60, .live, 9, 0, false⟩
       4 ≤ (engineWith fullKey [p]).keyCount 60 ∧ (engineWith fullKey [p]).queue = [] ++ p :: [] ∧ p.key = 60) := by
  decide +kernel

theorem witness_NoteOnFindsAVoice_no_free_voice :
    let busy := Vector.replicate 96 (voiceOf .held 20 9 9#32)
    let p : PendingStart := ⟨20, .live, 9, 0, false⟩
    ((engineWith busy (List.replicate 16 p)).keyCount 60 < 4 ∧
        (∀ i : Fin 96, ((engineWith busy (List.replicate 16 p)).voices.get i).state ≠ .free) ∧
        16 ≤ (engineWith busy (List.replicate 16 p)).queue.length) ∧
      (let e := engineWith ((busy.set 7 (voiceOf .released 20 5 9#32)).set 9 (voiceOf .released 20 5 9#32)) (List.replicate 15 p)
       e.queue.length < 16 ∧ (e.voices.get 7).state = .released ∧
         ∀ j : Fin 96, (e.voices.get j).state = .released →
           (e.voices.get 7).level < (e.voices.get j).level ∨ ((e.voices.get 7).level = (e.voices.get j).level ∧ 7 ≤ j)) ∧
      (let e := engineWith (busy.set 7 (voiceOf .held 20 9 8#32)) []
       (∀ j : Fin 96, (e.voices.get j).state ≠ .released) ∧ (e.voices.get 7).state = .held ∧
         ∀ j : Fin 96, j ≠ 7 → (e.voices.get j).state = .held →
           ((e.voices.get 7).seq - e.nextSeq).toNat < ((e.voices.get j).seq - e.nextSeq).toNat) := by decide +kernel

/-- No voice is free and four are counted for the key: by a waiting entry, or by voices alone; and every voice fades. -/
theorem witness_NoteOnFindsAVoice_no_free_voice_at_the_limit :
    let busy := Vector.replicate 96 (voiceOf .held 20 9 9#32)
    let four := (((busy.set 1 (voiceOf .released 60 9 496#32)).set 2 (voiceOf .released 60 9 497#32)).set 3
      (voiceOf .released 60 9 498#32)).set 4 (voiceOf .released 60 9 499#32)
    let three := four.set 4 (voiceOf .held 20 9 9#32)
    let p (k : Key) : PendingStart := ⟨k, .live, 9, 0, false⟩
    (let e := engineWith three [p 20, p 60]
     (∀ i : Fin 96, (e.voices.get i).state ≠ .free) ∧ 4 ≤ e.keyCount 60 ∧ e.queue = [p 20] ++ p 60 :: [] ∧
       (p 60).key = 60 ∧ ∀ q ∈ [p 20], q.key ≠ 60) ∧
      (let e := engineWith four [p 20]
       (∀ i : Fin 96, (e.voices.get i).state ≠ .free) ∧ 4 ≤ e.keyCount 60 ∧ (∀ q ∈ e.queue, q.key ≠ 60) ∧
         (e.voices.get 1).state = .released ∧ (e.voices.get 1).key = 60 ∧
         ∀ j : Fin 96, j ≠ 1 → ((e.voices.get j).state = .held ∨ (e.voices.get j).state = .released) →
           (e.voices.get j).key = 60 →
           ((e.voices.get 1).seq - e.nextSeq).toNat < ((e.voices.get j).seq - e.nextSeq).toNat) ∧
      (let e := engineWith (Vector.replicate 96 (voiceOf .cut 20 9 9#32)) []
       (∀ i : Fin 96, (e.voices.get i).state ≠ .free) ∧ e.keyCount 60 < 4 ∧ e.queue.length < 16 ∧
         ∀ j : Fin 96, (e.voices.get j).state = .cut) := by decide +kernel

/-- R71, R81, R91: an event at the engine starts its voice and places VOICE_LIMIT. -/
theorem test_engine_event_places_its_notices :
    let t := engineEvent ⟨.playback, 0#32, .noteOn 60 90 false⟩ { up with engine := engineWith fullKey [] }
    told t = [.voiceLimit 60] ∧ (t.engine.voices.get 0).state = .held ∧ t.engine.playback.down.mem 60 = true := by
  decide +kernel

theorem witness_EngineEventsActOnTheirSource : up.engine.map.get 60 = none := by decide +kernel

theorem witness_MapAndSoundOffCutVoices :
    let one (upper : Byte) (start length loopStart loopLength : W24) : LayerArg := ⟨upper, start, length, loopStart, loopLength⟩
    up.Ready ∧ mapLengthOk 0#8 0 = true ∧ mapLengthOk 1#8 1 = true ∧ mapLengthOk 5#8 1 = true ∧ mapLengthOk 4#8 4 = true ∧
      87 < (88#8).toNat ∧ 4 < (5#8).toNat ∧ (87 : Key).val = (87#8).toNat ∧ (4#8).toNat ≤ 4 ∧
      (let ls := [one 1#8 0#24 1#24 0#24 1#24, one 127#8 8388608#24 4194304#24 0#24 4194304#24]
       List.Pairwise (· < ·) (ls.map fun a => a.upper.toNat) ∧ (ls.map fun a => a.upper.toNat).getLast? = some 127 ∧
         ∀ a ∈ ls, 1 ≤ a.upper.toNat ∧ a.start.toNat % 2 = 0 ∧ 1 ≤ a.length.toNat ∧ a.length.toNat ≤ 4194304 ∧
           a.loopStart.toNat + a.loopLength.toNat ≤ a.length.toNat ∧ a.start.toNat + 2 * a.length.toNat ≤ 16777216) ∧
      (65535#16).toNat ≤ (65535#16).toNat ∧ (128#8).toNat ≤ 128 ∧
      (∀ a ∈ [one 127#8 1#24 1#24 0#24 0#24, one 126#8 0#24 1#24 0#24 0#24, one 127#8 8388610#24 4194304#24 0#24 0#24],
        a.start.toNat % 2 = 1 ∨ a.upper.toNat ≠ 127 ∨ 16777216 < a.start.toNat + 2 * a.length.toNat) := by decide

theorem witness_ControlBlockDecaysVoices :
    (({ up with output := { blockCount := 47 } } : State).Steady ∧ 47 < 48) ∧
      (let s (q : List PendingStart) : State := { up with
         output := { blockCount := 48 }
         engine := engineWith ((Vector.replicate 96 (voiceOf .released 60 5000 9#32)).set 7 (voiceOf .released 60 16 9#32)) q }
       (s []).Steady ∧ 48 ≤ (s []).output.blockCount ∧ (s []).engine.queue = [] ∧
         (s [⟨60, .live, 90, 2, true⟩]).engine.queue = ⟨60, .live, 90, 2, true⟩ :: [] ∧
         ((s []).engine.voices.get 7).state ≠ .free ∧ 16 * 60000 / 65536 < 16 ∧ ¬(5000 * 60000 / 65536 < 16)) := by
  decide +kernel

/-- Two voices freed in one block while one and while three notes wait, and a block due at an output sample. -/
theorem witness_ControlBlockDecaysVoices_together :
    ∀ n ∈ [1, 3],
      let s : State := { up with
        output := { blockCount := 48 }
        engine := engineWith (((Vector.replicate 96 (voiceOf .released 60 5000 9#32)).set 7 (voiceOf .released 60 16 9#32)).set 8
          (voiceOf .released 60 16 9#32)) (List.replicate n ⟨60, .live, 90, 2, true⟩) }
      s.Steady ∧ 48 ≤ s.output.blockCount ∧ s.engine.queue.length = n ∧
        (s.engine.voices.get 7).state ≠ .free ∧ (s.engine.voices.get 8).state ≠ .free := by decide +kernel

theorem witness_OutputSampleMixesVoices :
    (∀ q ∈ [([] : List PendingStart)],
      let s : State := { up with
        output := { blockCount := 47, mute := 0 }, engine := engineWith fullKey q, rail := railAt .retracted true false }
      s.Steady ∧ s.output.blockCount < 48 ∧ s.engine.queue = [] ∧ s.rail.physicallyRetracted = true ∧
        (s.engine.voices.get 0).state = .free ∧ (s.engine.voices.get 1).state ≠ .free ∧
        (s.engine.voices.get 1).sound = some ⟨0, 100, 0, 0, 65470, 60000, 64⟩) ∧ up.Ready := by decide +kernel

theorem witness_StepsKeepTheVoiceLaws :
    step aboutToPlay = .next (after (.play 2#8 0#32) (take2 up)) ∧ VoiceLaw aboutToPlay.engine ∧
      HeldLaw aboutToPlay.engine := by
  refine ⟨aboutToPlay_steps, ?_, ?_⟩
  · show ∀ k, aboutToPlay.engine.keyCount k ≤ 4
    decide +kernel
  · show (∀ v ∈ aboutToPlay.engine.voices.toList, v.state = .held →
        (aboutToPlay.engine.source v.source).down.mem v.key = true) ∧
      (∀ p ∈ aboutToPlay.engine.queue, p.released = false →
        (aboutToPlay.engine.source p.source).down.mem p.key = true)
    decide +kernel

/-! ### Witnesses: the rail -/

/-- A rail that waits, moves or pauses on the way to an end. -/
def onTheWay (st : RailState) (e : RailEnd) (og : RailOrigin) (ret eng : Bool) : Rail :=
  { railAt st ret eng with target := some e, origin := some og, direction := some e.direction }

theorem witness_RailCommandsMoveTheRail :
    up.Ready ∧ (0#8 ≠ 1#8 ∧ 0#8 ≠ 2#8 ∧ 3#8 ≠ 1#8 ∧ 3#8 ≠ 2#8) ∧
      ((2#8 = 1#8 ∧ RailEnd.engaged = .retracted) ∨ (2#8 = 2#8 ∧ RailEnd.engaged = .engaged)) ∧
      (railAt .fault false false).state = .fault ∧ (railAt .engaged false true).state = RailEnd.engaged.state ∧
      (onTheWay .waitClear .engaged .retracted true false).target = some .engaged ∧
      ((railAt .unknown false false).state = RailOrigin.unknown.state ∧ RailState.unknown ≠ RailEnd.engaged.state) ∧
      (let r := onTheWay .waitClear .retracted .engaged false true
       r.state = .waitClear ∧ r.target ≠ some .engaged ∧ r.origin = some RailEnd.engaged.origin ∧ r.eng = true) ∧
      (let r := onTheWay .waitClear .retracted .engaged false false
       r.state = .waitClear ∧ r.target ≠ some .engaged ∧ r.origin = some RailEnd.engaged.origin ∧ r.eng = false) ∧
      (let r := onTheWay .waitClear .retracted .unknown false false
       r.state = .waitClear ∧ r.target ≠ some .engaged ∧ r.origin ≠ some RailEnd.engaged.origin) ∧
      (let r := onTheWay .paused .retracted .engaged false false
       r.state = .paused ∧ r.target ≠ some .engaged) ∧
      (let r := onTheWay .moving .retracted .engaged false false
       r.state = .moving ∧ r.target ≠ some .engaged ∧ r.eng = false) ∧
      (let r := onTheWay .moving .retracted .engaged false true
       r.state = .moving ∧ r.target ≠ some .engaged ∧ r.eng = true ∧ r.ret = false) := by decide +kernel

theorem witness_RailTimersEndTheWaitAndTheMove :
    (∀ r ∈ [railAt .retracted true false, onTheWay .waitClear .engaged .retracted true false,
        onTheWay .moving .engaged .retracted false false], (withRail r).Steady) ∧
      (let r := { onTheWay .waitClear .engaged .unknown false true with settle := some 50000, supply := 10500 }
       r.settle = some 50000 ∧ 50000 ≤ 50000 ∧ r.target = some .engaged ∧ r.supplyMin ≤ r.supply ∧ r.eng = true ∧
         r.ret = false) ∧
      (let r := { onTheWay .paused .engaged .retracted false false with settle := some 50000 }
       r.supplyMin ≤ r.supply ∧ r.eng = false ∧ r.direction = some .inward) ∧
      (let r := { onTheWay .waitClear .engaged .retracted true false with settle := some 50000, supply := 10499 }
       r.supply < r.supplyMin ∧ r.origin = some .retracted ∧ r.ret = true) ∧
      (let r := { onTheWay .waitClear .engaged .retracted true false with waitUs := 4999999 }
       r.waitUs < r.waitLimit * 1000) ∧
      (let r := { onTheWay .waitClear .engaged .retracted false false with waitUs := 5000000 }
       r.state = .waitClear ∧ r.waitLimit * 1000 ≤ r.waitUs ∧ r.origin = some .retracted ∧ r.ret = false) ∧
      (let r := { onTheWay .waitClear .engaged .unknown false true with waitUs := 5000000 }
       r.origin = some .unknown ∧ r.eng = true ∧ r.ret = false) ∧
      (let r := { onTheWay .moving .engaged .retracted false false with runUs := 1199999 }
       r.runUs < r.runLimit * 1000) ∧
      (let r := { onTheWay .moving .engaged .retracted false false with runUs := 1200000 }
       r.state = .moving ∧ r.runLimit * 1000 ≤ r.runUs) := by decide +kernel

/-- A low supply at the settle's end with the origin's switch lost, and from UNKNOWN with one switch found. -/
theorem witness_RailTimersEndTheWaitAndTheMove_low_supply :
    (let r := { onTheWay .paused .engaged .retracted false false with settle := some 50000, supply := 10499 }
     r.state = .paused ∧ r.supply < r.supplyMin ∧ r.origin = some .retracted ∧ r.ret = false ∧ r.target = some .engaged) ∧
      (let r := { onTheWay .paused .retracted .engaged false false with settle := some 50000, supply := 10499 }
       r.origin = some .engaged ∧ r.eng = false) ∧
      (∀ e ∈ [RailEnd.engaged, .retracted],
        let r := { onTheWay .waitClear .engaged .unknown (decide (e = .retracted)) (decide (e = .engaged)) with
          settle := some 50000, supply := 10499 }
        (withRail r).Steady ∧ r.state = .waitClear ∧ r.settle = some 50000 ∧ r.supply < r.supplyMin ∧
          r.origin = some .unknown ∧ (if e = .engaged then r.eng else r.ret) = true ∧
          (if e = .engaged then r.ret else r.eng) = false) ∧
      (∀ b ∈ [false, true],
        let r := { onTheWay .waitClear .engaged .unknown b b with settle := some 50000, supply := 10499 }
        r.origin = some .unknown ∧ r.ret = r.eng) := by decide +kernel

/-- The keyboard-clear condition changed both ways (it was `was`, the state says otherwise) in every rail state, and not
changed. -/
theorem witness_RailTimersEndTheWaitAndTheMove_keyboard :
    (∀ r ∈ [onTheWay .waitClear .engaged .retracted true false, onTheWay .paused .retracted .engaged false false,
        onTheWay .moving .engaged .retracted false false, railAt .unknown false false, railAt .retracted true false,
        railAt .engaged false true, railAt .fault false false],
      keyboardClear (withRail r) = true ∧ keyboardClear (withRail r) ≠ false ∧
        (let u : State := { withKey 60 { state := .struck } with rail := r }
         keyboardClear u = false ∧ keyboardClear u ≠ true)) := by decide +kernel

theorem witness_RailMeasurementsCountReads :
    (let r := { onTheWay .moving .engaged .retracted false false with overCount := 19, runUs := 1199999, engRun := 1 }
     (withRail r).Steady ∧ (true = r.eng ∨ r.engRun < 2) ∧ (false = r.ret ∨ r.retRun < 2) ∧ r.state = .moving ∧
       r.runUs < r.runLimit * 1000 ∧ r.currentLimit < 1201 ∧ 1200 ≤ r.currentLimit ∧ r.overCount = 19 ∧
       { r with overCount := 18 }.overCount < 19) ∧
      (let r := { onTheWay .waitClear .engaged .retracted true false with waitUs := 4999999 }
       r.state ≠ .moving ∧ (r.state = .waitClear → r.waitUs < r.waitLimit * 1000)) ∧
      (let r := { railAt .unknown false false with retRun := 2 }
       r.ret = false ∧ r.retRun = 2 ∧ r.eng = false ∧ r.state = .unknown) := by decide +kernel

/-- Third reads that change one level and both, and limits already passed at the measurement. -/
theorem witness_RailMeasurementsCountReads_changes :
    (let r := { onTheWay .moving .engaged .retracted true false with engRun := 2, retRun := 2, overCount := 18 }
     (withRail r).Steady ∧ r.state = .moving ∧ r.overCount + 1 < 20 ∧ (true ≠ r.eng ∧ 2 ≤ r.engRun) ∧
       (false ≠ r.ret ∧ 2 ≤ r.retRun) ∧ r.runUs < r.runLimit * 1000) ∧
      (let r := { railAt .engaged false true with engRun := 2 }
       (false ≠ r.eng ∧ 2 ≤ r.engRun) ∧ r.state ≠ .moving ∧ r.state ≠ .waitClear) ∧
      (let r := { onTheWay .waitClear .engaged .retracted true false with waitUs := 5000000 }
       (withRail r).Steady ∧ r.state = .waitClear ∧ r.waitLimit * 1000 ≤ r.waitUs ∧ false = r.eng ∧ true = r.ret) ∧
      (let r := { onTheWay .moving .engaged .retracted false false with runUs := 1200000, overCount := 18 }
       (withRail r).Steady ∧ r.state = .moving ∧ r.runLimit * 1000 ≤ r.runUs ∧ r.overCount + 1 < 20) := by decide +kernel

/-- The twentieth overcurrent, a change of both switches and the run limit at one measurement; and a change with the
clear-wait limit. -/
theorem witness_RailMeasurementsCountReads_together :
    (let r := { onTheWay .moving .engaged .retracted true false with
       engRun := 2, retRun := 2, overCount := 19, runUs := 1200000 }
     (withRail r).Steady ∧ r.state = .moving ∧ r.currentLimit < 1201 ∧ 20 ≤ r.overCount + 1 ∧
       (true ≠ r.eng ∧ 2 ≤ r.engRun) ∧ (false ≠ r.ret ∧ 2 ≤ r.retRun) ∧ r.runLimit * 1000 ≤ r.runUs) ∧
      (let r := { onTheWay .waitClear .engaged .retracted true false with retRun := 2, waitUs := 5000000 }
       (withRail r).Steady ∧ r.state = .waitClear ∧ (false ≠ r.ret ∧ 2 ≤ r.retRun) ∧
         r.waitLimit * 1000 ≤ r.waitUs) := by decide +kernel

theorem witness_SwitchEventsJudgeTheLevels :
    (∀ st ∈ [RailState.unknown, .retracted, .engaged, .waitClear, .moving, .paused, .fault],
      (withRail (railAt st false false)).Steady) ∧
      ((railAt .fault false false).eng ≠ true ∧ (railAt .fault false false).state = .fault) ∧
      ((railAt .retracted true false).state ≠ .fault ∧ (railAt .retracted true false).ret = true) ∧
      ((railAt .engaged false true).state = .engaged ∧ (railAt .engaged false true).eng = true) ∧
      (true = decide (RailEnd.engaged = .engaged) ∧ false = decide (RailEnd.engaged = .retracted)) ∧
      (let r := onTheWay .waitClear .engaged .unknown false false
       r.eng = false ∧ r.ret = false ∧ r.origin = some .unknown ∧ r.target = some .engaged) ∧
      (let r := onTheWay .waitClear .retracted .unknown false false
       r.origin = some .unknown ∧ r.target ≠ some .engaged) ∧
      (onTheWay .paused .retracted .unknown false false).target ≠ some .engaged ∧
      (let r := onTheWay .waitClear .retracted .engaged false true
       r.eng = decide (RailEnd.engaged = .engaged) ∧ r.ret = decide (RailEnd.engaged = .retracted) ∧
         r.origin = some RailEnd.engaged.origin) := by decide +kernel

/-- One switch deasserts as the other asserts, and both deassert at once. -/
theorem witness_SwitchEventsJudgeTheLevels_both :
    (∀ st ∈ [RailState.retracted, .waitClear, .moving, .paused, .unknown, .fault],
      let r := railAt st true false
      (withRail r).Steady ∧ true ≠ r.eng ∧ false ≠ r.ret) ∧
      (∀ st ∈ [RailState.retracted, .engaged, .moving, .paused, .unknown],
        let r := railAt st true true
        (withRail r).Steady ∧ r.eng = true ∧ r.ret = true ∧ r.state ≠ .fault) ∧
      (∀ og ∈ [RailOrigin.unknown, .retracted, .engaged],
        let r := onTheWay .waitClear .engaged og true true
        r.state = .waitClear ∧ r.origin = some og) := by decide +kernel

theorem witness_StepsKeepTheRailLaw :
    RailLaw aboutToPlay ∧ step aboutToPlay = .next (after (.play 2#8 0#32) (take2 up)) := by
  refine ⟨?_, aboutToPlay_steps⟩
  decide +kernel

/-- A step that enters MOVING, from WAIT_CLEAR and from PAUSED. -/
theorem witness_StepsKeepTheRailLaw_entry :
    ∀ st ∈ [RailState.waitClear, .paused],
      let s : State := { withRail { onTheWay st .engaged .retracted false false with settle := some 50000 } with
        pending := [.settleComplete] }
      RailLaw s ∧ s.rail.state ≠ .moving ∧
        (match step s with
         | .next t => decide (t.rail.state = .moving)
         | _ => false) = true := by decide +kernel

/-! ### Witnesses: takes, Recorder, bulk writer -/

/-- A recording of take 3 with a clock, a writing context and room for `n` more records. -/
def recordingWith (clock : Nat) (c : WriteCtx) (n : Nat) : State :=
  { up with
    store := { up.store with
      free := [], takes := up.store.takes.set 3 ⟨.recording, 64 - n, c.last, some 0, some 0, 64 - n, false, false⟩ }
    recorder := some ⟨3, clock, 0, c⟩ }

theorem witness_RecordingStartsWritesAndStops_commands :
    up.Ready ∧ 15 < (16#8).toNat ∧ 1 < (2#8).toNat ∧ ((15 : TakeId).val = (15#8).toNat ∧ (1#8).toNat ≤ 1) ∧
      (up.recorder = none ∧ up.bulk = none ∧ up.store.entry 15 = {}) ∧
      ((take2 up).store.entry 2).state = .ready ∧ ((take2 up).store.entry 2).played = false ∧
      (recordingWith 0 {} 9).recorder.isSome = true ∧ (recordingWith 0 {} 9).Ready := by decide +kernel

theorem witness_RecordingStartsWritesAndStops_events :
    let c : WriteCtx := { openKeys := KeySet.none.add 40, last := 100 }
    (recordingWith 65635000 c 9).recorder = some ⟨3, 65635000, 0, c⟩ ∧ c.bodyOf (.noteOff 41 false) = none ∧
      c.bodyOf (.noteOn 41 9 false) = some (.noteOn 41 9 false) ∧ 65635000 / 1000 + 0 ≤ c.last + 65535 ∧
      1 + (c.write 65635 (.noteOn 41 9 false)).reserve ≤ (recordingWith 65635000 c 3).store.takeFree 3 ∧
      (recordingWith 65635000 c 2).store.takeFree 3 < 1 + (c.write 65635 (.noteOn 41 9 false)).reserve ∧
      (recordingWith 65635000 c 9).Steady ∧ c.last + 65535 ≤ 65635000 / 1000 + 0 ∧
      65634999 / 1000 + 0 < c.last + 65535 ∧ 1 + c.reserve ≤ (recordingWith 0 c 2).store.takeFree 3 ∧
      (recordingWith 0 c 1).store.takeFree 3 < 1 + c.reserve ∧
      (((recordingWith 0 c 1).store.entry 3).fill ≤ 64 ∧ c.reserve ≤ (recordingWith 0 c 1).store.takeFree 3) := by
  decide +kernel

/-- An event and a stop that find a gap expiry overdue, with room for the GAP and without; at the exact time none is. -/
theorem witness_RecordingStartsWritesAndStops_overdue :
    let c : WriteCtx := { openKeys := KeySet.none.add 40, last := 100 }
    let ev : Event := ⟨.live, 0#32, .noteOn 41 9 false⟩
    let time (s : State) (r : Recording) : Nat :=
      max ((r.clock - (s.clock.us - ev.stamp).toNat) / 1000 + r.offset) r.ctx.last
    (c.bodyOf ev.kind = some (.noteOn 41 9 false)) ∧
      (c.last + 65535 < time (recordingWith 65636000 c 9) ⟨3, 65636000, 0, c⟩ ∧
        ¬c.last + 65535 < time (recordingWith 65635999 c 9) ⟨3, 65635999, 0, c⟩) ∧
      (1 + c.reserve ≤ (recordingWith 65636000 c 2).store.takeFree 3 ∧
        (recordingWith 65636000 c 1).store.takeFree 3 < 1 + c.reserve) ∧
      ((recordingWith 65636000 c 9).Ready ∧ c.last + 65535 < 65636000 / 1000 + 0 ∧ 65635999 / 1000 + 0 ≤ c.last + 65535) := by
  decide +kernel

theorem blockLaw_take2 : (take2 up).store.BlockLaw := by
  refine ⟨by decide +kernel, ?_, ?_⟩
  · exact List.isPerm_iff.mp (by decide +kernel)
  · decide +kernel

theorem witness_BulkWriterFillsATake :
    (up.Ready ∧ 15 < (16#8).toNat ∧ (15 : TakeId).val = (15#8).toNat) ∧
      ((writing9 {}).Ready ∧ (writing9 {}).bulk = some ⟨9, 0, {}⟩ ∧ (9 : TakeId).val = (9#8).toNat ∧
        (9 : TakeId).val ≠ (8#8).toNat) ∧
      (let rs : List RawRecord := List.replicate 10 ⟨3#8, 1#16, 7#8, 0#8⟩
       rs.length = (10#8).toNat ∧ 1 ≤ (10#8).toNat ∧ (10#8).toNat ≤ 10 ∧ (checkRecords {} rs).isSome = true) ∧
      (checkRecords {} [⟨1#8, 0#16, 40#8, 0#8⟩] = none) ∧
      ((⟨65535, .gap⟩ : Record).delta ≤ 65535 ∧ (⟨65535, .noteOn 87 127 true⟩ : Record).delta ≤ 65535) := by
  decide +kernel

/-- A store that keeps the law of blocks: take 2 has room in its tail block, take 9 takes a new one; and raw records
that hold a record or none, at the ends of what R192 allows and by the context. -/
theorem witness_BulkWriterFillsATake_records :
    ((take2 up).store.BlockLaw ∧
        (1 ≤ (take2 up).store.takeFree 2 ∧ ((take2 up).store.entry 2).tail ≠ none ∧
          ((take2 up).store.entry 2).fill ≠ 64) ∧
        1 ≤ (take2 up).store.takeFree 9 ∧ ((take2 up).store.entry 9).tail = none) ∧
      (let c : WriteCtx := { openKeys := KeySet.none.add 87, sost := true }
       (∀ r ∈ [(⟨0x80#8, 0#16, 87#8, 127#8⟩ : RawRecord), ⟨0#8, 0#16, 0#8, 1#8⟩, ⟨1#8, 0#16, 87#8, 0#8⟩,
           ⟨6#8, 0#16, 0#8, 0#8⟩, ⟨7#8, 65535#16, 0#8, 0#8⟩], (checkRecords c [r]).isSome = true) ∧
         ∀ r ∈ [(⟨0x10#8, 0#16, 0#8, 1#8⟩ : RawRecord), ⟨0x81#8, 0#16, 87#8, 0#8⟩, ⟨0#8, 0#16, 88#8, 1#8⟩,
           ⟨0#8, 0#16, 0#8, 0#8⟩, ⟨0#8, 0#16, 0#8, 128#8⟩, ⟨1#8, 0#16, 86#8, 0#8⟩, ⟨5#8, 0#16, 0#8, 0#8⟩,
           ⟨7#8, 65534#16, 0#8, 0#8⟩, ⟨8#8, 0#16, 0#8, 0#8⟩], checkRecords c [r] = none) :=
  ⟨⟨blockLaw_take2, by decide +kernel, by decide +kernel⟩, by decide +kernel⟩

/-- Take 4 with its one block full: the next record takes a new block. -/
theorem witness_BulkWriterFillsATake_full_block :
    let s := holding 4 0 (List.replicate 64 ⟨65535, .gap⟩) up
    s.store.BlockLaw ∧ 1 ≤ s.store.takeFree 4 ∧ (s.store.entry 4).fill = 64 := by
  refine ⟨⟨by decide +kernel, ?_, by decide +kernel⟩, by decide +kernel, by decide +kernel⟩
  exact List.isPerm_iff.mp (by decide +kernel)

theorem witness_TakeCommandsReadReportAndErase :
    up.Ready ∧ (take2 up).Ready ∧ 15 < (16#8).toNat ∧ 10 < (11#8).toNat ∧
      ((2 : TakeId).val = (2#8).toNat ∧ 1 ≤ (10#8).toNat ∧ (10#8).toNat ≤ 10) ∧
      (((take2 up).store.entry 2).played = false ∧ ((take2 up).store.entry 2).read = false ∧
        ((take2 up).store.entry 2).state = .ready) ∧
      (up.store.entry 2).state = .empty ∧ ((recordingWith 0 {} 9).store.entry 3).state = .recording := by
  decide +kernel

/-- `TakeLaw` of a part in which nothing records, writes, plays or edits: nothing to check but the entries. -/
theorem takeLaw_of_quiet (s : State)
    (h : ∀ t : TakeId, (s.store.entry t).state ≠ .recording ∧ (s.store.entry t).state ≠ .writing ∧
      (s.store.entry t).state ≠ .editing ∧ (s.store.entry t).played = false ∧ (s.store.entry t).read = false)
    (hr : s.recorder = none) (hb : s.bulk = none) (he : s.edit = .idle) (hp : s.player.take = none)
    (hs : s.player.state = .stopped) : TakeLaw s := by
  refine ⟨?_, ?_, ?_, .inl hr, ?_, ?_, ?_, ?_, ?_⟩ <;>
    simp_all [EditJob.writes, EditJob.reads]

/-- The other laws of the takes, of a part in which nothing records, writes or edits. -/
theorem balanceLaw_of_quiet (s : State)
    (h : ∀ t : TakeId, ((s.store.entry t).state = .empty → (s.store.entry t).count = 0) ∧
      ((s.store.entry t).state = .ready → leftOpen (s.store.records t) = {}))
    (hr : s.recorder = none) (hb : s.bulk = none) (he : s.edit = .idle) : SavedLaw s ∧ BalanceLaw s := by
  refine ⟨?_, fun t => (h t).1, fun t => (h t).2, ?_, ?_, ?_, ?_⟩ <;> simp_all [SavedLaw]

theorem witness_StepsKeepTheLawOfTakeUse :
    TakeLaw aboutToPlay ∧ aboutToPlay.store.BlockLaw ∧ SavedLaw aboutToPlay ∧ BalanceLaw aboutToPlay ∧
      step aboutToPlay = .next (after (.play 2#8 0#32) (take2 up)) := by
  have h := balanceLaw_of_quiet aboutToPlay (by decide +kernel) rfl rfl rfl
  exact ⟨takeLaw_of_quiet _ (by decide +kernel) rfl rfl rfl rfl rfl, blockLaw_take2, h.1, h.2, aboutToPlay_steps⟩

/-! ### Witnesses: the Player and the Edit Unit -/

theorem witness_PlayerCommandsMoveThePlayer_play :
    (take2 up).Ready ∧ 15 < (16#8).toNat ∧ (2 : TakeId).val = (2#8).toNat ∧ (take2 up).player.state = .stopped ∧
      ((take2 up).store.entry 2).state = .ready ∧
      ((3500#32).toNat ≤ ((take2 up).store.entry 2).duration ∧ ¬(3501#32).toNat ≤ ((take2 up).store.entry 2).duration) ∧
      (up.store.entry 2).state = .empty ∧ ((recordingWith 0 {} 9).store.entry 3).state = .recording ∧
      (withPlayer { state := .paused, take := some 2 }).player.state ≠ .stopped := by decide +kernel

/-- Take 2 played, with the Player in a state. -/
def playing (st : PlayState) : State :=
  { take2 up with player := { state := st, take := some 2, acc := 300000, cursor := 3, openKeys := KeySet.none.add 64 } }

/-- PLAY and LOCATE at both ends of the take, with a loop that ends at its duration and without. -/
theorem witness_PlayerCommandsMoveThePlayer_at_the_ends :
    (let s : State := { take2 up with player := { loop := some (2700, 3500) } }
     s.Ready ∧ s.player.state = .stopped ∧ s.player.loop = some (2700, 3500) ∧
       3500 ≤ (s.store.entry 2).duration ∧ (3500#32).toNat ≤ (s.store.entry 2).duration) ∧
      (0#32).toNat ≤ ((take2 up).store.entry 2).duration ∧ (take2 up).player.loop = none ∧
      (∀ st ∈ [PlayState.playing, .waiting],
        (playing st).Ready ∧ (playing st).player.take = some 2 ∧ (playing st).player.state = st ∧
          (0#32).toNat ≤ ((playing st).store.entry 2).duration ∧
          (3500#32).toNat ≤ ((playing st).store.entry 2).duration) := by decide +kernel

theorem witness_PlayerCommandsMoveThePlayer_others :
    (∀ st ∈ [PlayState.playing, .waiting, .paused],
      (playing st).Ready ∧ (playing st).player.state = st ∧ (playing st).player.take = some 2 ∧ st ≠ .stopped) ∧
      (up.Ready ∧ up.player.state = .stopped ∧ up.player.state ≠ .paused) ∧
      (((playing .paused).store.entry 2).duration < (3501#32).toNat ∧
        (3500#32).toNat ≤ ((playing .paused).store.entry 2).duration) := by decide +kernel

theorem witness_PlayerSettingsAreReplaced :
    up.Ready ∧ (playing .paused).Ready ∧ (playing .paused).player.state ≠ .stopped ∧
      (playing .paused).player.take = some 2 ∧ up.player.state = .stopped ∧
      ((800#32 ≠ 0#32 ∨ 899#32 ≠ 0#32) ∧ (899#32).toNat < (800#32).toNat + 100) ∧
      ((0#32).toNat + 100 ≤ (100#32).toNat) := by decide +kernel

theorem witness_PlayerTicksEmitJumpAndEnd_states :
    (up.Steady ∧ up.player.state ≠ .playing) ∧ (playing .playing).Steady ∧ (playing .playing).player.state = .playing ∧
      (playing .playing).player.take = some 2 ∧
      ∀ i : Fin 4, (playing .playing).player.markers.get i = none := by decide +kernel

/-- Take 2 in PLAYING at an accumulator and a cursor, with a loop that is armed or none. -/
def playingAt (acc cursor : Nat) (loop : Option (Nat × Nat)) : State :=
  { take2 up with player :=
    { state := .playing, take := some 2, acc := acc, cursor := cursor, loop := loop, armed := loop.isSome } }

theorem witness_PlayerTicksEmitJumpAndEnd_records :
    let left (s : State) := (s.store.timed 2).drop s.player.cursor
    let acc (s : State) := s.player.acc + s.player.tempo
    (let s := playingAt 460543 3 (some (800, 1800))
     left s = (1800, ⟨800, .noteOff 60⟩) :: (left s).tail ∧ acc s < 1800 * 256 ∧
       s.player.loop = some (800, 1800) ∧ s.player.cursor < (s.store.entry 2).count) ∧
      (let s := playingAt 460544 3 none
       left s = (1800, ⟨800, .noteOff 60⟩) :: (2600, ⟨800, .noteOff 64⟩) :: (left s).drop 2 ∧ 1800 * 256 ≤ acc s ∧
         acc s < 2600 * 256 ∧ s.player.armed = false ∧ s.guide.wait = false ∧ s.guide.expected = KeySet.none ∧
         s.player.cursor + 1 < (s.store.entry 2).count) ∧
      (let s := playingAt 511744 4 (some (800, 2000))
       s.player.armed = true ∧ s.player.loop = some (800, 2000) ∧ 2000 * 256 ≤ acc s ∧
         left s = (2600, ⟨800, .noteOff 64⟩) :: (left s).tail ∧ 0 < s.player.listen + s.player.practice) ∧
      (let s := playingAt 896000 8 none
       s.player.armed = false ∧ (s.store.entry 2).count ≤ s.player.cursor ∧ left s = []) ∧
      (playingAt 0 0 none).Steady := by decide +kernel

/-- The parts of a tick that crosses a marker: what is emitted, then the jump, the end, or nothing more. -/
theorem witness_PlayerTicksEmitJumpAndEnd_parts :
    let ticked (s : State) : State := { s with player := { s.player with acc := s.player.acc + s.player.tempo } }
    let emitted (s : State) (due : Nat → Bool) : State :=
      emitDue due ((s.store.timed 2).drop s.player.cursor) (ticked s)
    (let s := playingAt 511744 4 (some (800, 2000))
     let v := emitted s fun t => decide (t * 256 ≤ 512000 ∧ t < 2000)
     s.Steady ∧ v.player.state = .playing ∧ s.player.armed = true ∧ 2000 * 256 ≤ s.player.acc + s.player.tempo) ∧
      (let s := playingAt 895744 7 none
       let v := emitted s fun t => decide (t * 256 ≤ 896000)
       v.player.state = .playing ∧ s.player.armed = false ∧ (v.store.entry 2).count ≤ v.player.cursor) ∧
      (let s := playingAt 460544 3 none
       let v := emitted s fun t => decide (t * 256 ≤ 460800)
       v.player.state = .playing ∧ v.player.cursor = 4 ∧ ¬(v.store.entry 2).count ≤ v.player.cursor) ∧
      (let s := playingAt 255744 1 none
       let s := { s with
         guide := { wait := true }
         router := { routes := (Vector.replicate 16 {}).set 0 { guided with dests := { guide := true } } }
         player := { s.player with markers := #v[some 1000, none, some 999, some 1001] } }
       let v := emitted s fun t => decide (t * 256 ≤ 256000)
       s.Steady ∧ v.player.state = .waiting ∧ v.guide.expected.card = 2 ∧
         (s.player.acc < 1000 * 256 ∧ 1000 * 256 ≤ s.player.acc + s.player.tempo)) := by decide +kernel

theorem stoppedLaw_aboutToPlay : StoppedLaw aboutToPlay := by
  refine ⟨?_, fun _ => ⟨?_, rfl⟩⟩
  · intro k h
    have : aboutToPlay.engine.playback.down.mem k = false := by
      revert k
      decide +kernel
    simp_all
  · decide +kernel

theorem witness_StepsKeepThePlayerLaws :
    step aboutToPlay = .next (after (.play 2#8 0#32) (take2 up)) ∧ StoppedLaw aboutToPlay ∧ ExpectedLaw aboutToPlay :=
  ⟨aboutToPlay_steps, stoppedLaw_aboutToPlay, by decide +kernel, fun _ => by decide +kernel⟩

theorem witness_EditCommandsStartAndAbort :
    let s := take2 up
    s.Ready ∧ 15 < (16#8).toNat ∧ (1500#32).toNat ≤ (1500#32).toNat ∧ 1 < (2#8).toNat ∧
      ((2 : TakeId).val = (2#8).toNat ∧ (6 : TakeId).val = (6#8).toNat ∧ (2 : TakeId) ≠ 6 ∧ (1#8).toNat ≤ 1 ∧
        (3499#32).toNat < (0xFFFFFFFF#32).toNat) ∧
      127 < (128#8).toNat ∧ 87 < (88#8).toNat ∧ 512 < (513#16).toNat ∧
      ((127#8).toNat ≤ 127 ∧ (87#8).toNat ≤ 87 ∧ (255#8).toNat ≤ (255#8).toNat ∧ (512#16).toNat ≤ 512 ∧
        (0x81#8 : Byte) ≠ 0x80#8) ∧
      s.edit = .idle := by decide +kernel

/-- A copy of take 2 into take 6 that has written nothing yet. -/
def copying : CopyJob :=
  { src := 2, dst := 6, fromMs := 1500, toArg := 3300, toMs := 3300, append := false, base := 0, started := true, index := 3, time := 1800
    ctx := {}, saved := {}, written := 0 }

/-- The part while a copy runs. -/
def whileCopying (j : CopyJob) : State :=
  { take2 up with
    store := ((take2 up).store.setRead 2 true).setState 6 .editing, edit := .copy j }

theorem witness_EditCommandsStartAndAbort_running :
    (∀ e ∈ [EditJob.copy copying, .search ⟨2, 0, 8#7, 0, 87, 1, 255, 0, 500⟩, .scale ⟨2, 0, 9, 0, 87, 320, 0, 0, 500, 0⟩],
      ({ take2 up with edit := e } : State).Ready ∧ ({ take2 up with edit := e } : State).edit = e) ∧
      copying.src ≠ copying.dst := by decide +kernel

theorem witness_EditStepsReadOneRecord_copy :
    (up.Steady ∧ (∀ j, up.edit ≠ .copy j) ∧ (∀ j, up.edit ≠ .search j) ∧ ∀ j, up.edit ≠ .scale j) ∧
      ((whileCopying copying).Steady ∧ (whileCopying copying).edit = .copy copying) ∧
      ((take2 up).store.scan 2 500 = ⟨0, 0, false⟩) ∧
      (copying.index < ((whileCopying copying).store.entry 2).count ∧ copying.time < copying.toMs ∧
        copying.ctx.copies ((whileCopying copying).store.record 2 3).body = none) ∧
      (copying.ctx.copies ((whileCopying copying).store.record 2 5).body = some (.damper 0) ∧
        (whileCopying copying).recorder = none ∧ (whileCopying copying).bulk = none ∧ 2700 - 1500 + 0 ≤ 0 + 65535 ∧
        1 + (copying.ctx.write 1200 (.damper 0)).reserve ≤ (whileCopying copying).store.takeFree 6) ∧
      (¬(3500 < copying.toMs) ∧ copying.ctx.reserve = 0 ∧ copying.src ≠ copying.dst) := by
  refine ⟨⟨by decide, ?_, ?_, ?_⟩, by decide +kernel⟩ <;>
    · intro j h
      cases h

/-- A copy with a damper to chase, one that needs a GAP, one without room for a record, and one that closes with a key
open and the damper down, with room for that and without; the room a recording beside it needs. -/
theorem witness_EditStepsReadOneRecord_copy_writes :
    let first : CopyJob := { copying with started := false, index := 0, time := 500, fromMs := 600 }
    let opened : CopyJob :=
      { copying with index := 8, time := 3500, ctx := { openKeys := KeySet.none.add 67, damper := 90, last := 1600 } }
    let full (s : State) (free : List Nat) : State := { s with store := { s.store with free := free } }
    ((whileCopying first).Steady ∧ (whileCopying first).edit = .copy first ∧ first.started = false ∧
        (take2 up).store.scan 2 600 = ⟨90, 0, false⟩ ∧ first.src ≠ first.dst) ∧
      (0 + 65535 < 65536 ∧ 65535 ≤ 0 + 65535) ∧
      (copying.started = true ∧ 5 < ((whileCopying copying).store.entry 2).count ∧ 2700 < copying.toMs ∧
        copying.ctx.copies ((whileCopying copying).store.record 2 5).body = some (.damper 0) ∧
        (full (whileCopying copying) []).store.takeFree 6 < 1 + (copying.ctx.write 1200 (.damper 0)).reserve) ∧
      (¬(opened.index < ((whileCopying opened).store.entry 2).count ∧ opened.time < opened.toMs) ∧
        opened.ctx.reserve = 2 ∧ (full (whileCopying opened) [1]).store.takeFree 6 = 64 ∧
        (full (whileCopying opened) []).store.takeFree 6 = 0) ∧
      (∀ n ∈ [8, 9],
        let r := recordingWith 0 { openKeys := KeySet.none.add 40, damper := 9 } n
        r.recorder = some ⟨3, 0, 0, { openKeys := KeySet.none.add 40, damper := 9 }⟩ ∧ 2 ≤ r.store.takeFree 3) := by
  decide +kernel

theorem witness_EditStepsReadOneRecord_search :
    let s : State := take2 up
    s.Steady ∧ (s.store.entry 2).count ≤ 8 ∧ 7 < (s.store.entry 2).count ∧ (8#7 : BitVec 7) ≠ 0#7 ∧
      ((s.store.record 2 0).body = .damper 90 ∧ (8#7).getLsbD 3 = true ∧ 90 ≤ 90) ∧
      ((s.store.record 2 7).body = .noteOff 67 ∧ (8#7).getLsbD 1 = false ∧ (s.store.entry 2).count ≤ 7 + 1) := by
  decide +kernel

theorem witness_EditStepsReadOneRecord_scale :
    let s : State := take2 up
    (s.store.entry 2).count ≤ 8 ∧ 7 + 1 = (s.store.entry 2).count ∧ (s.store.record 2 7).body = .noteOff 67 ∧
      (1 + 1 < (s.store.entry 2).count ∧ (s.store.record 2 1).body = .noteOn 60 72 false ∧ 1000 ≤ 1000 ∧ 1000 < 1001 ∧
        60 ≤ (60 : Key).val ∧ (60 : Key).val ≤ 60 ∧ (s.store.chain 2)[1 / 64]? = some 0) := by decide +kernel

/-- A take whose last record is a NOTE_ON that a scaling chooses. -/
theorem witness_EditStepsReadOneRecord_scale_last :
    let s : State := holding 9 0 [⟨0, .noteOn 40 70 false⟩, ⟨10, .noteOn 47 100 false⟩] up
    s.Steady ∧ 1 + 1 = (s.store.entry 9).count ∧ (s.store.record 9 1).body = .noteOn 47 100 false ∧ 10 ≤ 10 ∧ 10 < 11 ∧
      47 ≤ (47 : Key).val ∧ (47 : Key).val ≤ 47 ∧ (s.store.chain 9)[1 / 64]? = some 0 := by decide +kernel

end Sys2Proof.Tests
end

section
/-! PROOFS. The velocity curves of the Touch Unit (R34): what the admission check `curveOk` gives, what the lookup
`curveAt` answers below, on and beyond the segments, that it never falls, and the obligation about both. The lemmas
about lists hold for a curve of any length. -/

namespace Sys2Proof.CurveLookup

open Sys2Proof.Machine

/-! ### The admission check -/

theorem curveOk_cons_cons {p q : Nat × Nat} {rest : List (Nat × Nat)} :
    curveOk (p :: q :: rest) = true ↔
      (1 ≤ p.1 ∧ p.1 ≤ 60000 ∧ 1 ≤ p.2 ∧ p.2 ≤ 127) ∧ (p.1 < q.1 ∧ p.2 ≤ q.2) ∧ curveOk (q :: rest) = true := by
  simp [curveOk, and_assoc]

theorem velocity_bounds_of_curveOk {l : List (Nat × Nat)} (hl : curveOk l = true) {p : Nat × Nat} (hp : p ∈ l) :
    1 ≤ p.2 ∧ p.2 ≤ 127 := by
  induction l with
  | nil => cases hp
  | cons a l ih =>
    cases l with
    | nil =>
      obtain rfl := List.mem_singleton.mp hp
      have hok : 1 ≤ p.1 ∧ p.1 ≤ 60000 ∧ 1 ≤ p.2 ∧ p.2 ≤ 127 := of_decide_eq_true hl
      exact hok.2.2
    | cons b rest =>
      obtain ⟨⟨-, -, hpos, hmax⟩, -, htail⟩ := curveOk_cons_cons.mp hl
      rcases List.mem_cons.mp hp with rfl | hp
      · exact ⟨hpos, hmax⟩
      · exact ih htail hp

theorem ascends_of_curveOk {l : List (Nat × Nat)} (hl : curveOk l = true) {i : Nat} (hi : i + 1 < l.length) :
    l[i].1 < l[i + 1].1 ∧ l[i].2 ≤ l[i + 1].2 := by
  induction l generalizing i with
  | nil => cases hi
  | cons p l ih =>
    cases l with
    | nil => simp at hi
    | cons q rest =>
      obtain ⟨-, hascends, htail⟩ := curveOk_cons_cons.mp hl
      cases i with
      | zero => exact hascends
      | succ i => exact ih htail (Nat.lt_of_succ_lt_succ hi)

/-! ### One segment -/

/-- The floored interpolation on the segment from breakpoint `p` to breakpoint `q` (R34). -/
def interpolate (p q : Nat × Nat) (x : Nat) : Nat := p.2 + (x - p.1) * (q.2 - p.2) / (q.1 - p.1)

theorem interpolate_of_le {p : Nat × Nat} {x : Nat} (hx : x ≤ p.1) (q : Nat × Nat) : interpolate p q x = p.2 := by
  simp [interpolate, Nat.sub_eq_zero_of_le hx]

theorem le_interpolate (p q : Nat × Nat) (x : Nat) : p.2 ≤ interpolate p q x := Nat.le_add_right _ _

theorem interpolate_le {p q : Nat × Nat} (hv : p.2 ≤ q.2) {x : Nat} (hx : x ≤ q.1) : interpolate p q x ≤ q.2 := by
  have hrise : (x - p.1) * (q.2 - p.2) / (q.1 - p.1) ≤ q.2 - p.2 :=
    Nat.div_le_of_le_mul (Nat.mul_le_mul_right _ (Nat.sub_le_sub_right hx _))
  unfold interpolate
  omega

theorem interpolate_mono (p q : Nat × Nat) : Monotone (interpolate p q) := fun _ _ h =>
  Nat.add_le_add_left (Nat.div_le_div_right (Nat.mul_le_mul_right _ (Nat.sub_le_sub_right h _))) _

/-! ### The lookup -/

theorem curveAt_cons_cons (p q : Nat × Nat) (rest : List (Nat × Nat)) (x : Nat) :
    curveAt (p :: q :: rest) x = if x < q.1 then interpolate p q x else curveAt (q :: rest) x := rfl

theorem curveAt_of_lt {p q : Nat × Nat} {x : Nat} (hx : x < q.1) (rest : List (Nat × Nat)) :
    curveAt (p :: q :: rest) x = interpolate p q x := by
  rw [curveAt_cons_cons, if_pos hx]

theorem curveAt_of_le {q : Nat × Nat} {x : Nat} (hx : q.1 ≤ x) (p : Nat × Nat) (rest : List (Nat × Nat)) :
    curveAt (p :: q :: rest) x = curveAt (q :: rest) x := by
  rw [curveAt_cons_cons, if_neg (Nat.not_lt.mpr hx)]

theorem curveAt_of_le_head {p : Nat × Nat} {l : List (Nat × Nat)} (hl : curveOk (p :: l) = true) {x : Nat}
    (hx : x ≤ p.1) : curveAt (p :: l) x = p.2 := by
  cases l with
  | nil => rfl
  | cons q rest =>
    obtain ⟨-, ⟨hspeed, -⟩, -⟩ := curveOk_cons_cons.mp hl
    rw [curveAt_of_lt (Nat.lt_of_le_of_lt hx hspeed), interpolate_of_le hx]

theorem curveAt_of_last_le {l : List (Nat × Nat)} (hne : l ≠ []) {x : Nat} (hx : ∀ p ∈ l, p.1 ≤ x) :
    curveAt l x = (l.getLast hne).2 := by
  induction l with
  | nil => exact absurd rfl hne
  | cons p l ih =>
    cases l with
    | nil => rfl
    | cons q rest =>
      rw [curveAt_of_le (hx q (by simp)), List.getLast_cons (List.cons_ne_nil q rest)]
      exact ih _ fun r hr => hx r (List.mem_cons_of_mem p hr)

/-- On segment `i`, with all breakpoints up to it at or below the speed, the lookup interpolates on that segment. -/
theorem curveAt_of_segment {l : List (Nat × Nat)} {i x : Nat} (hi : i + 1 < l.length)
    (hlow : ∀ (j : Nat) (hj : j ≤ i), l[j].1 ≤ x) (hhigh : x < l[i + 1].1) :
    curveAt l x = interpolate l[i] l[i + 1] x := by
  induction l generalizing i with
  | nil => cases hi
  | cons p l ih =>
    cases l with
    | nil => simp at hi
    | cons q rest =>
      cases i with
      | zero => exact curveAt_of_lt hhigh rest
      | succ i =>
        have hpast : q.1 ≤ x := hlow 1 (Nat.le_add_left 1 i)
        rw [curveAt_of_le hpast]
        exact ih (Nat.lt_of_succ_lt_succ hi) (fun j hj => hlow (j + 1) (Nat.succ_le_succ hj)) hhigh

theorem head_le_curveAt {p : Nat × Nat} {l : List (Nat × Nat)} (hl : curveOk (p :: l) = true) (x : Nat) :
    p.2 ≤ curveAt (p :: l) x := by
  induction l generalizing p with
  | nil => exact Nat.le_refl p.2
  | cons q rest ih =>
    obtain ⟨-, ⟨-, hv⟩, htail⟩ := curveOk_cons_cons.mp hl
    rcases Nat.lt_or_ge x q.1 with hx | hx
    · rw [curveAt_of_lt hx]
      exact le_interpolate p q x
    · rw [curveAt_of_le hx]
      exact hv.trans (ih htail)

/-- A faster stroke never reads a lower velocity (R34): within a segment the interpolation rises, and a speed past the
segment reads at least the segment's upper velocity. -/
theorem curveAt_mono {l : List (Nat × Nat)} (hl : curveOk l = true) : Monotone (curveAt l) := by
  induction l with
  | nil => exact fun _ _ _ => Nat.le_refl 1
  | cons p l ih =>
    cases l with
    | nil => exact fun _ _ _ => Nat.le_refl p.2
    | cons q rest =>
      intro x y hxy
      obtain ⟨-, ⟨-, hv⟩, htail⟩ := curveOk_cons_cons.mp hl
      rcases Nat.lt_or_ge y q.1 with hy | hy
      · rw [curveAt_of_lt hy, curveAt_of_lt (hxy.trans_lt hy)]
        exact interpolate_mono p q hxy
      · rw [curveAt_of_le hy]
        rcases Nat.lt_or_ge x q.1 with hx | hx
        · rw [curveAt_of_lt hx]
          exact (interpolate_le hv hx.le).trans (head_le_curveAt htail y)
        · rw [curveAt_of_le hx]
          exact ih htail hxy

/-! ### Curves of twelve breakpoints -/

theorem getElem_toList (c : Curve) (i : Fin 12) : c.toList[i.val]'(c.length_toList.symm ▸ i.isLt) = c.get i := rfl

theorem get_mem_toList (c : Curve) (i : Fin 12) : c.get i ∈ c.toList :=
  getElem_toList c i ▸ List.getElem_mem _

theorem exists_get_of_mem_toList {c : Curve} {p : Nat × Nat} (hp : p ∈ c.toList) : ∃ i, c.get i = p := by
  obtain ⟨i, hi, rfl⟩ := List.getElem_of_mem hp
  exact ⟨⟨i, c.length_toList ▸ hi⟩, rfl⟩

theorem toList_eq_first_cons (c : Curve) : c.toList = c.get 0 :: c.toList.drop 1 :=
  List.drop_eq_getElem_cons (l := c.toList) (i := 0) (by rw [Vector.length_toList]; omega)

theorem getLast_toList (c : Curve) (hne : c.toList ≠ []) : c.toList.getLast hne = c.get 11 := by
  simp only [List.getLast_eq_getElem, Vector.length_toList]
  rfl

theorem get_ascends {c : Curve} (hc : curveOk c.toList = true) (i : Fin 11) :
    (c.get i.castSucc).1 < (c.get i.succ).1 ∧ (c.get i.castSucc).2 ≤ (c.get i.succ).2 :=
  ascends_of_curveOk hc (i := i) (by rw [Vector.length_toList]; omega)

theorem speed_strictMono {c : Curve} (hc : curveOk c.toList = true) : StrictMono fun i => (c.get i).1 :=
  Fin.strictMono_iff_lt_succ.mpr fun i => (get_ascends hc i).1

theorem curveAt_of_le_first {c : Curve} (hc : curveOk c.toList = true) {x : Nat} (hx : x ≤ (c.get 0).1) :
    curveAt c.toList x = (c.get 0).2 := by
  rw [toList_eq_first_cons] at hc ⊢
  exact curveAt_of_le_head hc hx

theorem curveAt_of_last_speed_le {c : Curve} (hc : curveOk c.toList = true) {x : Nat} (hx : (c.get 11).1 ≤ x) :
    curveAt c.toList x = (c.get 11).2 := by
  have hne : c.toList ≠ [] := List.ne_nil_of_mem (get_mem_toList c 0)
  rw [curveAt_of_last_le hne fun p hp => ?_, getLast_toList]
  obtain ⟨i, rfl⟩ := exists_get_of_mem_toList hp
  exact ((speed_strictMono hc).monotone (Fin.le_last i)).trans hx

/-- The speeds ascend, so no two segments hold one speed; and the speed cannot be at or above every breakpoint, so
some breakpoint at or below it has its successor above it. -/
theorem existsUnique_segment {c : Curve} (hc : curveOk c.toList = true) {x : Nat} (hlow : (c.get 0).1 < x)
    (hhigh : x < (c.get 11).1) : ∃! i : Fin 11, (c.get i.castSucc).1 ≤ x ∧ x < (c.get i.succ).1 := by
  have hexists : ∃ i : Fin 11, (c.get i.castSucc).1 ≤ x ∧ x < (c.get i.succ).1 := by
    by_contra! hnone
    have hall : ∀ i : Fin 12, (c.get i).1 ≤ x := Fin.induction hlow.le hnone
    exact absurd hhigh (Nat.not_lt.mpr (hall 11))
  have hbelow {i j : Fin 11} (hi : (c.get i.castSucc).1 ≤ x) (hj : x < (c.get j.succ).1) : i ≤ j :=
    Fin.castSucc_lt_succ_iff.mp ((speed_strictMono hc).lt_iff_lt.mp (hi.trans_lt hj))
  obtain ⟨i, hi⟩ := hexists
  exact ⟨i, hi, fun j hj => le_antisymm (hbelow hj.1 hi.2) (hbelow hi.1 hj.2)⟩

theorem curveAt_segment {c : Curve} (hc : curveOk c.toList = true) {x : Nat} {i : Fin 11}
    (hlow : (c.get i.castSucc).1 ≤ x) (hhigh : x < (c.get i.succ).1) :
    curveAt c.toList x = interpolate (c.get i.castSucc) (c.get i.succ) x := by
  have hbelow : ∀ (j : Nat) (hj : j ≤ i), (c.get ⟨j, by omega⟩).1 ≤ x := fun j hj =>
    ((speed_strictMono hc).monotone (Fin.mk_le_of_le_val hj : (⟨j, by omega⟩ : Fin 12) ≤ i.castSucc)).trans hlow
  exact curveAt_of_segment (i := i) (by rw [Vector.length_toList]; omega) hbelow hhigh

theorem curveAt_bounds {c : Curve} (hc : curveOk c.toList = true) (x : Nat) :
    1 ≤ curveAt c.toList x ∧ curveAt c.toList x ≤ 127 := by
  have hfirst := velocity_bounds_of_curveOk hc (get_mem_toList c 0)
  have hlast := velocity_bounds_of_curveOk hc (get_mem_toList c 11)
  constructor
  · calc 1 ≤ (c.get 0).2 := hfirst.1
      _ = curveAt c.toList (min x (c.get 0).1) := (curveAt_of_le_first hc (min_le_right ..)).symm
      _ ≤ curveAt c.toList x := curveAt_mono hc (min_le_left ..)
  · calc curveAt c.toList x ≤ curveAt c.toList (max x (c.get 11).1) := curveAt_mono hc (le_max_left ..)
      _ = (c.get 11).2 := curveAt_of_last_speed_le hc (le_max_right ..)
      _ ≤ 127 := hlast.2

/-- Settles O28: the ends and the segment's value from the equations of `curveAt`, the bounds from the velocities of the
first and last breakpoints, and the order by induction on the curve. -/
theorem curveLookupInterpolates : Obligations.CurveLookupInterpolates := by
  intro c hc
  refine ⟨fun x => curveAt_of_le_first hc, fun x => curveAt_of_last_speed_le hc, fun x => existsUnique_segment hc,
    fun x i hlow hhigh => ?_, curveAt_bounds hc, fun x y hxy => curveAt_mono hc hxy⟩
  have hvelocity := (get_ascends hc i).2
  have hvalue := curveAt_segment hc hlow hhigh
  exact ⟨hvalue, hvalue ▸ le_interpolate _ _ x, hvalue ▸ interpolate_le hvelocity hhigh.le⟩

end Sys2Proof.CurveLookup
end

section
/-! PROOFS. GET_STATUS (R188): the step of the command at a part that takes it at once, the value of each byte of its
reply in the terms of section 11.7, and the obligation about both. -/

namespace Sys2Proof.StatusReport

open Sys2Proof.Machine

/-! ### The command's step -/

theorem exec_getStatus (s : State) : exec .getStatus s = endStep (hostCommand .getStatus cmdGetStatus s) := rfl

/-- GET_STATUS writes the reply slot alone, so the step ends with the transmitter's choice. -/
theorem exec_getStatus_of_ready {s : State} (h : s.Ready) :
    exec .getStatus s = .next (chooseTx (cmdGetStatus s)) := by
  have ⟨hrunning, _, _, hintake⟩ := h
  exact (exec_getStatus s).trans (endStep_hostCommand h rfl (Nat.zero_le 60) hrunning hintake)

/-! ### The bytes of the reply -/

/-- A take that may be none is written as all ones (R191). -/
theorem b8_takeCode (t? : Option TakeId) :
    b8 (takeCode t?) = match t? with | some t => b8 t.val | none => 0xFF#8 := by
  cases t? <;> rfl

theorem b8_recorderTake (r? : Option Recording) :
    b8 (takeCode (r?.map Recording.take)) = match r? with | some r => b8 r.take.val | none => 0xFF#8 := by
  cases r? <;> rfl

theorem b8_recorderState (r? : Option Recording) :
    b8 (if r?.isSome then 1 else 0) = if r? = none then 0#8 else 1#8 := by
  cases r? <;> rfl

theorem b8_editCode (e : EditJob) :
    b8 (editCode e) =
      match e with | .idle => 0xFF#8 | .copy _ => 0#8 | .search _ => 1#8 | .scale _ => 2#8 := by
  cases e <;> rfl

theorem busyVoices_eq_length_filter (e : Engine) :
    e.busyVoices = (e.voices.toList.filter fun v => v.state ≠ .free).length :=
  List.countP_eq_length_filter

theorem faultedKeys_eq_length_filter (s : State) :
    faultedKeys s = (s.keys.toList.filter fun k => k.state = .fault).length :=
  List.countP_eq_length_filter

/-- Settles O24: the step is the transmitter's choice after the reply is placed, and the reply's bytes are those of the
lemmas above. -/
theorem getStatusReports : Obligations.GetStatusReports := by
  intro s h
  rw [exec_getStatus_of_ready h, cmdGetStatus, chooseTx_answerData, b8_takeCode, b8_recorderState, b8_recorderTake,
    b8_editCode, busyVoices_eq_length_filter, faultedKeys_eq_length_filter]
  rfl

end Sys2Proof.StatusReport
end

section
/-! PROOFS. What every step is made of: the act of each row before the link's own work, and the closure conditions
under which a property of the state is kept by every step. A property that does not read a block meets the conditions
about that block's operations by the `of_…` lemmas; the laws of the manual meet the rest in the sections below. -/

namespace Sys2Proof.StepRows

open Sys2Proof.Machine

/-! ### The act of a row -/

/-- What a row of the table does before the link's own work at the end of the step. -/
def rowAct : Instr → State → State
  | .powerOnReset => wholeReset .power
  | .pinReset => wholeReset .pin
  | .commandReset => whenRunning takeCommandReset
  | .initializationEnd current supply eng ret => endInitialization current supply eng ret
  | .lineBreak => whenRunning takeBreak
  | .keySample key raw stamp => whenRunning (takeKeySample key raw stamp)
  | .keyFaultEntry key raw stamp => whenRunning (takeKeyFaultEntry key raw stamp)
  | .keyFaultRecovery key raw stamp => whenRunning (takeKeyFaultRecovery key raw stamp)
  | .pedalSample pedal raw stamp => whenRunning (takePedalSample pedal raw stamp)
  | .pedalFaultEntry pedal raw stamp => whenRunning (takePedalFaultEntry pedal raw stamp)
  | .pedalFaultRecovery pedal raw stamp => whenRunning (takePedalFaultRecovery pedal raw stamp)
  | .gapTimerExpiry => whenRunning takeGapExpiry
  | .outputSample => whenRunning takeOutputSample
  | .controlBlock => whenRunning takeBlockEvent
  | .railMeasurement current supply eng ret => whenRunning (takeMeasurement current supply eng ret)
  | .switchEvent eng ret => whenRunning (takeSwitchEvent eng ret)
  | .overcurrentFault current supply eng ret => whenRunning (takeOvercurrent current supply eng ret)
  | .settleComplete => whenRunning takeSettle
  | .clearWaitExpiry => whenRunning takeClearWait
  | .runLimitExpiry => whenRunning takeRunLimit
  | .playerTick => whenRunning takePlayerTick
  | .loopJump => whenRunning takeLoopJump
  | .takeEnd => whenRunning takeTakeEnd
  | .takeCopyStep => whenRunning takeCopyEvent
  | .takeSearchStep => whenRunning takeSearchEvent
  | .takeScaleStep => whenRunning takeScaleEvent
  | .byteReceived byte tail => whenRunning (takeByte byte (byteErrorOf byte tail))
  | .frameGapExpiry => whenRunning takeFrameGap
  | .ctsChange asserted => takeCts asserted
  | .frameSent => whenRunning takeFrameSent
  | .receiveLineRise => whenRunning takeLineRise
  | .unknownType type payload => hostCommand (.unknownType type payload) (runFrame ⟨type, payload⟩)
  | i => hostCommand i (runCommand i)

theorem exec_eq (i : Instr) (s : State) : exec i s = .next (pump (rowAct i s)) := by
  cases i <;> rfl

/-- Settles O1: the step's match on the queue, read at a front command. -/
theorem stepRunsTheFrontCommand : Obligations.StepRunsTheFrontCommand := by
  intro s c rest h
  unfold step
  rw [h]

/-- Settles O2: each row ends in the link's own work, which answers a next state. -/
theorem everyCommandAnswersNext : Obligations.EveryCommandAnswersNext := fun i s => ⟨_, exec_eq i s⟩

/-- A step is the act of the front row and the link's own work, or one microsecond. -/
theorem step_cases {s t : State} (h : step s = .next t) :
    (s.pending = [] ∧ t = idle s) ∨
      ∃ i rest, s.pending = i :: rest ∧ t = pump (rowAct i { s with pending := rest }) := by
  cases hp : s.pending with
  | nil =>
    simp only [step, hp] at h
    cases h
    exact .inl ⟨rfl, rfl⟩
  | cons i rest =>
    rw [stepRunsTheFrontCommand s i rest hp, exec_eq] at h
    cases h
    exact .inr ⟨i, rest, rfl, rfl⟩

/-! ### Closure conditions -/

/-- What keeps a property of the state. -/
def Keeps (P : State → Prop) (f : State → State) : Prop := ∀ s, P s → P (f s)

theorem Keeps.ite {P : State → Prop} {f : State → State} (hf : Keeps P f) (c : State → Prop)
    [∀ s, Decidable (c s)] : Keeps P fun s => if c s then f s else s := by
  intro s hs
  dsimp only
  split
  · exact hf s hs
  · exact hs

/-- Two states that agree in the link and in all that the laws of the manual read of the other blocks. -/
structure Quiet (s t : State) : Prop where
  running : t.running = s.running
  flash : t.flash = s.flash
  keys : t.keys = s.keys
  lS1 : t.touch.lS1 = s.touch.lS1
  recent : t.router.recent = s.router.recent
  engine : t.engine = s.engine
  mute : t.output.mute = s.output.mute
  railState : t.rail.state = s.rail.state
  settle : t.rail.settle = s.rail.settle
  enable : t.rail.enable = s.rail.enable
  driveIn : t.rail.driveIn = s.rail.driveIn
  driveOut : t.rail.driveOut = s.rail.driveOut
  store : t.store = s.store
  recorder : t.recorder = s.recorder
  bulk : t.bulk = s.bulk
  playState : t.player.state = s.player.state
  take : t.player.take = s.player.take
  openKeys : t.player.openKeys = s.player.openKeys
  passKind : t.player.passKind = s.player.passKind
  guide : t.guide = s.guide
  edit : t.edit = s.edit
  link : t.link = s.link

/-- Kept by settings that no law reads, by notices and by replies. -/
structure KeptByQuiet (P : State → Prop) : Prop where
  quiet : ∀ {s t}, Quiet s t → P s → P t
  raise : ∀ b, Keeps P (raise b)
  reply : ∀ r, Keeps P (placeReply r)

/-- Kept by what a routed event does at each of its destinations. -/
structure KeptByEvents (P : State → Prop) : Prop where
  engine : ∀ ev, Keeps P (engineEvent ev)
  recorder : ∀ ev, Keeps P (recorderEvent ev)
  guide : ∀ ev, Keeps P (guideEvent ev)
  offer : ∀ k, Keeps P (guideOffer k)

/-- Kept by the samples and commands of the Key Scanner and the Touch Unit. -/
structure KeptByKeys (P : State → Prop) : Prop where
  keySample : ∀ k raw stamp, Keeps P (takeKeySample k raw stamp)
  loadCal : ∀ lo hi ps, Keeps P (cmdLoadCal lo hi ps)
  calStart : ∀ lo hi, Keeps P (cmdCalStart lo hi)
  calEnd : Keeps P cmdCalEnd
  setTouch : ∀ a b c d h t, Keeps P (cmdSetTouch a b c d h t)

/-- Kept by the events and commands of the Rail Controller, but the completed settle. -/
structure KeptByRail (P : State → Prop) : Prop where
  measurement : ∀ c v eng ret, Keeps P (takeMeasurement c v eng ret)
  switchEvent : ∀ eng ret, Keeps P (takeSwitchEvent eng ret)
  clearWait : Keeps P takeClearWait
  runLimit : Keeps P takeRunLimit
  rail : ∀ t, Keeps P (cmdRail t)
  railClear : Keeps P cmdRailClear

/-- Kept by the events and commands of the Voice Engine and the Output Stage. -/
structure KeptByVoices (P : State → Prop) : Prop where
  controlBlock : Keeps P takeControlBlock
  outputSample : Keeps P formOutputSample
  loadMap : ∀ k n rh rd pan ls, Keeps P (cmdLoadMap k n rh rd pan ls)
  soundOff : Keeps P cmdSoundOff

/-- Kept by the Recorder's timer and by the commands of the Recorder and the Take Store. -/
structure KeptByTakes (P : State → Prop) : Prop where
  gapExpiry : Keeps P takeGapExpiry
  recordStart : ∀ t m, Keeps P (cmdRecordStart t m)
  recordStop : Keeps P cmdRecordStop
  takeErase : ∀ t, Keeps P (cmdTakeErase t)
  takeOpen : ∀ t, Keeps P (cmdTakeOpen t)
  takeWrite : ∀ t n rs, Keeps P (cmdTakeWrite t n rs)
  takeClose : ∀ t, Keeps P (cmdTakeClose t)

/-- Kept by the Player's tick and by the commands of the Player and the Guide. -/
structure KeptByPlayer (P : State → Prop) : Prop where
  tick : Keeps P takePlayerTick
  play : ∀ t ms, Keeps P (cmdPlay t ms)
  stop : Keeps P cmdStop
  pause : Keeps P cmdPause
  resume : Keeps P cmdResume
  locate : ∀ t, Keeps P (cmdLocate t)
  setGuide : ∀ w g, Keeps P (cmdSetGuide w g)
  guideSkip : Keeps P cmdGuideSkip

/-- Kept by the steps and commands of the Edit Unit. -/
structure KeptByEdit (P : State → Prop) : Prop where
  copyStep : Keeps P takeCopyEvent
  searchStep : Keeps P takeSearchEvent
  scaleStep : Keeps P takeScaleEvent
  takeCopy : ∀ a f t d m, Keeps P (cmdTakeCopy a f t d m)
  takeSearch : ∀ t i k lo hi vl vh, Keeps P (cmdTakeSearch t i k lo hi vl vh)
  takeScale : ∀ t f e lo hi q o, Keeps P (cmdTakeScale t f e lo hi q o)
  editAbort : Keeps P cmdEditAbort

/-- Kept by time, resets and the end of initialization. -/
structure KeptByTime (P : State → Prop) : Prop where
  time : ∀ n, Keeps P (advance n)
  reset : ∀ c, Keeps P (wholeReset c)
  initialization : ∀ c v eng ret, Keeps P (endInitialization c v eng ret)
  pending : ∀ p, Keeps P fun s => { s with pending := p }

/-- Kept by what the link does of itself: a frame joins or leaves the intake, the transmitter chooses or is freed, a
byte, a break, a line that rises. -/
structure KeptByLink (P : State → Prop) : Prop where
  choose : Keeps P chooseTx
  taken : ∀ f rest s, s.link.intake = f :: rest → P s → P (s.withLink { s.link with intake := rest })
  arrives : ∀ f, Keeps P (frameArrives f)
  framer : ∀ f n h i, Keeps P fun s =>
    (s.withLink { s.link with framer := f, gapUs := n, held := h, ignoring := i })
  cut : Keeps P fun s => (s.withLink { s.link with intake := [] })
  freed : Keeps P fun s => (s.withLink { s.link with tx := none })
  cts : ∀ a, Keeps P (takeCts a)

/-- Kept by everything a command of the host is made of. -/
structure KeptByCommands (P : State → Prop) : Prop where
  base : KeptByQuiet P
  keys : KeptByKeys P
  rail : KeptByRail P
  voices : KeptByVoices P
  takes : KeptByTakes P
  player : KeptByPlayer P
  edit : KeptByEdit P
  await : Keeps P fun s => (s.withLink { s.link with resetAwait := true })
  classes : ∀ c, Keeps P fun s => (s.withLink { s.link with classes := c })

/-- Kept by everything a step is made of, but the completed settle. -/
structure KeptBesidesSettle (P : State → Prop) : Prop extends KeptByCommands P where
  events : ∀ k stamp, Keeps P (routeEvent ⟨.live, stamp, k⟩)
  time : KeptByTime P
  link : KeptByLink P

/-- Kept by everything a step is made of. -/
structure KeptByRows (P : State → Prop) : Prop extends KeptBesidesSettle P where
  settle : Keeps P takeSettle

theorem KeptByQuiet.answer {P : State → Prop} (h : KeptByQuiet P) (code : Byte) (st : Status) :
    Keeps P (answer code st) := h.reply _

theorem KeptByQuiet.answerData {P : State → Prop} (h : KeptByQuiet P) (code : Byte) (d : List Byte) :
    Keeps P (answerData code d) := h.reply _

/-! ### Commands that change a setting at most -/

section
variable {P : State → Prop}

theorem KeptByCommands.runCommand (h : KeptByCommands P) (i : Instr) : Keeps P (runCommand i) := by
  intro s hs
  have quiet {t : State} (q : Quiet s t) (code : Byte) (st : Status) : P (answer code st t) :=
    h.base.answer code st _ (h.base.quiet q hs)
  cases i
  case getStatus => exact h.base.answerData _ _ _ hs
  case resetPart => exact h.base.reply _ _ (h.await _ hs)
  case setNoticeClass =>
    unfold Machine.runCommand cmdSetNoticeClass
    dsimp only
    split
    · exact h.base.answer _ _ _ (h.classes _ _ hs)
    · exact h.base.answer _ _ _ hs
  case loadCal => exact h.keys.loadCal _ _ _ _ hs
  case calStart => exact h.keys.calStart _ _ _ hs
  case calEnd => exact h.keys.calEnd _ hs
  case setTouch => exact h.keys.setTouch _ _ _ _ _ _ _ hs
  case setKeyGain =>
    unfold Machine.runCommand cmdSetKeyGain
    dsimp only
    split
    · exact quiet (by constructor <;> rfl) _ _
    · exact h.base.answer _ _ _ hs
  case getKey =>
    unfold Machine.runCommand cmdGetKey
    dsimp only
    split
    · exact h.base.answer _ _ _ hs
    · exact h.base.answerData _ _ _ hs
  case setCurve =>
    unfold Machine.runCommand cmdSetCurve
    dsimp only
    repeat' split
    · exact quiet (by constructor <;> rfl) _ _
    · exact quiet (by constructor <;> rfl) _ _
    all_goals exact h.base.answer _ _ _ hs
  case setSoft =>
    unfold Machine.runCommand cmdSetSoft
    dsimp only
    split
    · exact quiet (by constructor <;> rfl) _ _
    · exact h.base.answer _ _ _ hs
  case loadPedalCal =>
    unfold Machine.runCommand cmdLoadPedalCal
    dsimp only
    repeat' split
    · exact h.base.answer _ _ _ hs
    · exact quiet (by constructor <;> rfl) _ _
    · exact h.base.answer _ _ _ hs
  case setPedal =>
    unfold Machine.runCommand cmdSetPedal
    dsimp only
    split
    · exact quiet (by constructor <;> rfl) _ _
    · exact h.base.answer _ _ _ hs
  case getPedal =>
    unfold Machine.runCommand cmdGetPedal
    dsimp only
    split
    · exact h.base.answer _ _ _ hs
    · exact h.base.answerData _ _ _ hs
  case setRoute =>
    unfold Machine.runCommand cmdSetRoute
    dsimp only
    repeat' split
    · exact quiet (by constructor <;> rfl) _ _
    all_goals exact h.base.answer _ _ _ hs
  case getRoute =>
    unfold Machine.runCommand cmdGetRoute
    dsimp only
    split
    · exact h.base.answer _ _ _ hs
    · exact h.base.answerData _ _ _ hs
  case loadMap => exact h.voices.loadMap _ _ _ _ _ _ _ hs
  case setOutput =>
    unfold Machine.runCommand cmdSetOutput
    dsimp only
    repeat' split
    · exact quiet (by constructor <;> rfl) _ _
    all_goals exact h.base.answer _ _ _ hs
  case soundOff => exact h.voices.soundOff _ hs
  case rail => exact h.rail.rail _ _ hs
  case railClear => exact h.rail.railClear _ hs
  case setRail =>
    unfold Machine.runCommand cmdSetRail
    dsimp only
    split
    · exact quiet (by constructor <;> rfl) _ _
    · exact h.base.answer _ _ _ hs
  case recordStart => exact h.takes.recordStart _ _ _ hs
  case recordStop => exact h.takes.recordStop _ hs
  case takeInfo =>
    unfold Machine.runCommand cmdTakeInfo
    dsimp only
    split
    · exact h.base.answer _ _ _ hs
    · exact h.base.answerData _ _ _ hs
  case takeErase => exact h.takes.takeErase _ _ hs
  case takeOpen => exact h.takes.takeOpen _ _ hs
  case takeWrite => exact h.takes.takeWrite _ _ _ _ hs
  case takeClose => exact h.takes.takeClose _ _ hs
  case takeRead =>
    unfold Machine.runCommand cmdTakeRead
    dsimp only
    repeat' split
    case h_2.isFalse.isFalse.isFalse => exact h.base.answerData _ _ _ hs
    all_goals exact h.base.answer _ _ _ hs
  case play => exact h.player.play _ _ _ hs
  case stop => exact h.player.stop _ hs
  case pause => exact h.player.pause _ hs
  case resume => exact h.player.resume _ hs
  case locate => exact h.player.locate _ _ hs
  case setTempo =>
    unfold Machine.runCommand cmdSetTempo
    dsimp only
    split
    · exact quiet (by constructor <;> rfl) _ _
    · exact h.base.answer _ _ _ hs
  case setLoop =>
    unfold Machine.runCommand cmdSetLoop
    dsimp only
    repeat' split
    · exact quiet (by constructor <;> rfl) _ _
    · exact h.base.answer _ _ _ hs
    · exact quiet (by constructor <;> rfl) _ _
    · exact h.base.answer _ _ _ hs
    · exact quiet (by constructor <;> rfl) _ _
  case setPasses =>
    unfold Machine.runCommand cmdSetPasses
    dsimp only
    split
    · exact quiet (by constructor <;> rfl) _ _
    · exact h.base.answer _ _ _ hs
  case setMarkers => exact quiet (by constructor <;> rfl) _ _
  case setGuide => exact h.player.setGuide _ _ _ hs
  case guideSkip => exact h.player.guideSkip _ hs
  case takeCopy => exact h.edit.takeCopy _ _ _ _ _ _ hs
  case takeSearch => exact h.edit.takeSearch _ _ _ _ _ _ _ _ hs
  case takeScale => exact h.edit.takeScale _ _ _ _ _ _ _ _ hs
  case editAbort => exact h.edit.editAbort _ hs
  all_goals exact hs

theorem KeptByCommands.runFrame (h : KeptByCommands P) (f : Frame) : Keeps P (runFrame f) := by
  intro s hs
  unfold Machine.runFrame
  split
  · exact h.runCommand _ _ hs
  · exact h.base.reply _ _ hs

theorem KeptByCommands.takeCommand (h : KeptByCommands P) (hl : KeptByLink P) : Keeps P takeCommand := by
  intro s hs
  unfold Machine.takeCommand
  split
  · split
    · exact hs
    · rename_i f rest hi
      exact h.runFrame f _ (hl.taken f rest _ hi hs)
  · exact hs

theorem KeptByCommands.pump (h : KeptByCommands P) (hl : KeptByLink P) : Keeps P pump := by
  intro s hs
  unfold Machine.pump
  split
  · exact h.takeCommand hl _ (hl.choose _ (h.takeCommand hl _ (hl.choose _ hs)))
  · exact hs

variable (h : KeptBesidesSettle P)
include h

theorem KeptBesidesSettle.hostCommand (i : Instr) {take : State → State} (ht : Keeps P take) : Keeps P (hostCommand i take) := by
  intro s hs
  unfold Machine.hostCommand
  repeat' split
  · exact hs
  · exact hs
  · exact h.base.raise _ _ hs
  · exact ht _ hs
  · exact h.link.arrives _ _ hs

/-! ### Rows of the link -/

theorem KeptBesidesSettle.dropFrame (why : LinkReason) : Keeps P (dropFrame why) :=
  fun _ hs => h.base.raise _ _ (h.link.framer _ _ _ _ _ hs)

theorem KeptBesidesSettle.setFramer (f : Framer) : Keeps P (setFramer f) :=
  fun _ hs => h.link.framer _ _ _ _ _ hs

theorem KeptBesidesSettle.frameByte (b : Byte) : Keeps P (frameByte b) := by
  intro s hs
  unfold Machine.frameByte
  split
  · split
    · exact h.setFramer _ _ hs
    · exact hs
  · split
    · exact h.setFramer _ _ hs
    · exact h.dropFrame _ _ hs
  · dsimp only
    split <;> exact h.setFramer _ _ hs
  · unfold frameEnds
    split
    · exact h.link.arrives _ _ (h.link.framer _ _ _ _ _ hs)
    · exact h.dropFrame _ _ hs

theorem KeptBesidesSettle.byteError : Keeps P byteError := by
  intro s hs
  unfold Machine.byteError
  split
  · exact h.dropFrame _ _ hs
  · exact hs

theorem KeptBesidesSettle.settleHeld : Keeps P settleHeld := by
  intro s hs
  unfold Machine.settleHeld
  split
  · exact h.byteError _ (h.link.framer _ _ _ _ _ hs)
  · exact hs

theorem KeptBesidesSettle.overdueFrameGap : Keeps P overdueFrameGap := by
  intro s hs
  unfold Machine.overdueFrameGap
  split
  · exact h.dropFrame _ _ hs
  · exact hs

theorem KeptBesidesSettle.takeByte (b : Byte) (err : ByteError) : Keeps P (takeByte b err) := by
  intro s hs
  unfold Machine.takeByte
  split
  · exact hs
  · have hg := h.overdueFrameGap _ (h.settleHeld _ hs)
    cases err
    · exact h.frameByte b _ hg
    · exact h.byteError _ hg
    · exact h.link.framer _ _ _ _ _ hg

theorem KeptBesidesSettle.takeFrameGap : Keeps P takeFrameGap := by
  intro s hs
  unfold Machine.takeFrameGap
  split
  · exact h.dropFrame _ _ hs
  · exact hs

theorem KeptBesidesSettle.takeBreak : Keeps P takeBreak := by
  intro s hs
  unfold Machine.takeBreak
  split
  · exact hs
  · exact h.base.raise _ _ (h.link.framer .hunt 0 false true _ (h.link.cut _ hs))

theorem KeptBesidesSettle.takeLineRise : Keeps P takeLineRise := by
  intro s hs
  unfold Machine.takeLineRise
  split
  · exact h.link.framer _ _ _ _ _ hs
  · exact h.settleHeld _ hs

theorem KeptBesidesSettle.takeFrameSent : Keeps P takeFrameSent := by
  intro s hs
  unfold Machine.takeFrameSent
  repeat' split
  · exact hs
  · exact h.time.reset _ _ hs
  · exact h.link.freed _ hs
  · exact h.link.freed _ hs

theorem KeptBesidesSettle.takeCommandReset : Keeps P takeCommandReset := by
  intro s hs
  unfold Machine.takeCommandReset
  repeat' split
  · exact h.time.reset _ _ hs
  all_goals exact hs

/-! ### Rows of the other blocks -/

theorem KeptBesidesSettle.catchUp (stamp : W32) : Keeps P (catchUp stamp) := by
  intro s hs
  rcases catchUp_cases stamp s with hc | ⟨n, hc⟩ <;> rw [hc]
  · exact hs
  · exact h.time.time n _ hs

theorem KeptBesidesSettle.takePedalSample (p : Pedal) (raw : Raw) (stamp : W32) : Keeps P (takePedalSample p raw stamp) := by
  intro s hs
  have hc := h.catchUp stamp _ hs
  unfold Machine.takePedalSample
  dsimp only
  generalize Machine.catchUp stamp s = c at hc ⊢
  generalize samplePedal c.pedals.settings p (c.pedals.get p) raw.val = x
  obtain ⟨r, ev, sup⟩ := x
  have hp : P (c.withPedals (c.pedals.put p r)) := h.base.quiet (by constructor <;> rfl) hc
  have he : P (match ev with
      | some kind => routeEvent ⟨.live, stamp, kind⟩ (c.withPedals (c.pedals.put p r))
      | none => c.withPedals (c.pedals.put p r)) := by
    cases ev
    · exact hp
    · exact h.events _ _ _ hp
  cases sup
  · exact he
  · exact h.base.raise _ _ he
  · exact h.base.raise _ _ he

theorem KeptBesidesSettle.takeOutputSample : Keeps P takeOutputSample := by
  intro s hs
  unfold Machine.takeOutputSample
  refine h.voices.outputSample _ ?_
  split
  · exact h.voices.controlBlock _ hs
  · exact hs

theorem KeptBesidesSettle.takeBlockEvent : Keeps P takeBlockEvent := by
  intro s hs
  unfold Machine.takeBlockEvent
  split
  · exact h.voices.controlBlock _ hs
  · exact hs

theorem KeptBesidesSettle.takeOvercurrent (c v : Nat) (eng ret : Bool) : Keeps P (takeOvercurrent c v eng ret) := by
  intro s hs
  unfold Machine.takeOvercurrent
  dsimp only
  split
  · exact h.rail.measurement _ _ _ _ _ hs
  · exact hs

theorem KeptBesidesSettle.rowAct {i : Instr} (hi : i ≠ .settleComplete) : Keeps P (rowAct i) := by
  intro s hs
  have running {f : State → State} (hf : Keeps P f) : P (whenRunning f s) :=
    hf.ite (fun s => s.running = true) s hs
  have command : P (Machine.hostCommand i (Machine.runCommand i) s) :=
    h.hostCommand i (h.toKeptByCommands.runCommand i) s hs
  cases i with
  | powerOnReset => exact h.time.reset _ _ hs
  | pinReset => exact h.time.reset _ _ hs
  | commandReset => exact running h.takeCommandReset
  | initializationEnd => exact h.time.initialization _ _ _ _ _ hs
  | lineBreak => exact running h.takeBreak
  | keySample => exact running (h.keys.keySample _ _ _)
  | keyFaultEntry => exact running ((h.keys.keySample _ _ _).ite _)
  | keyFaultRecovery => exact running ((h.keys.keySample _ _ _).ite _)
  | pedalSample => exact running (h.takePedalSample _ _ _)
  | pedalFaultEntry => exact running ((h.takePedalSample _ _ _).ite _)
  | pedalFaultRecovery => exact running ((h.takePedalSample _ _ _).ite _)
  | gapTimerExpiry => exact running h.takes.gapExpiry
  | outputSample => exact running h.takeOutputSample
  | controlBlock => exact running h.takeBlockEvent
  | railMeasurement => exact running (h.rail.measurement _ _ _ _)
  | switchEvent => exact running (h.rail.switchEvent _ _)
  | overcurrentFault => exact running (h.takeOvercurrent _ _ _ _)
  | settleComplete => exact absurd rfl hi
  | clearWaitExpiry => exact running h.rail.clearWait
  | runLimitExpiry => exact running h.rail.runLimit
  | playerTick => exact running h.player.tick
  | loopJump => exact running (h.player.tick.ite _)
  | takeEnd => exact running (h.player.tick.ite _)
  | takeCopyStep => exact running h.edit.copyStep
  | takeSearchStep => exact running h.edit.searchStep
  | takeScaleStep => exact running h.edit.scaleStep
  | byteReceived => exact running (h.takeByte _ _)
  | frameGapExpiry => exact running h.takeFrameGap
  | ctsChange => exact h.link.cts _ _ hs
  | frameSent => exact running h.takeFrameSent
  | receiveLineRise => exact running h.takeLineRise
  | unknownType t p => exact h.hostCommand (.unknownType t p) (h.runFrame ⟨t, p⟩) s hs
  | _ => exact command

end

/-- What everything a step is made of keeps, the step keeps. -/
theorem KeptByRows.step {P : State → Prop} (h : KeptByRows P) {s t : State} (ht : step s = .next t) (hs : P s) :
    P t := by
  rcases step_cases ht with ⟨-, rfl⟩ | ⟨i, rest, -, rfl⟩
  · exact (h.time.time 1).ite (fun s => s.running = true) s hs
  · refine h.toKeptByCommands.pump h.link _ ?_
    have hq := h.time.pending rest _ hs
    by_cases hi : i = .settleComplete
    · subst hi
      exact h.settle.ite (fun s => s.running = true) _ hq
    · exact h.toKeptBesidesSettle.rowAct hi _ hq

end Sys2Proof.StepRows
end

section
/-! PROOFS. The closure conditions of a property that does not read a block: what replacing the block, notices and
replies keep, the operations of the block keep. One lemma per operation. -/

namespace Sys2Proof.StepRows

open Sys2Proof.Machine

theorem withChoices_quiet (s : State) (n : Nat) : Quiet s (s.withChoices n) := by constructor <;> rfl

theorem KeptByQuiet.draw {P : State → Prop} (h : KeptByQuiet P) (n : Nat) : Keeps P fun s => (drawChoice n s).2 :=
  fun s hs => h.quiet (withChoices_quiet s _) hs

theorem Keeps.foldl {P : State → Prop} {α : Type} {f : State → α → State} (hf : ∀ a, Keeps P fun s => f s a)
    (l : List α) : Keeps P fun s => l.foldl f s := by
  induction l with
  | nil => exact fun _ hs => hs
  | cons a l ih => exact fun s hs => ih _ (hf a s hs)

/-! ### Routed events -/

section
variable {P : State → Prop} (hb : KeptByQuiet P)
include hb

theorem KeptByQuiet.notify (ev : Event) : Keeps P (notifyEvent ev) := by
  intro s hs
  unfold notifyEvent
  split <;> exact hb.raise _ _ hs

/-- What the deliveries and the guide check keep, the Event Router keeps. -/
theorem KeptByEvents.route (h : KeptByEvents P) (ev : Event) : Keeps P (routeEvent ev) := by
  intro s hs
  have hc : P (guideCheck ev s) := by
    unfold guideCheck
    split
    · exact h.offer _ _ hs
    · exact hs
  exact deliver_keeps ev (fun n => hb.draw n) (h.engine ev) (h.recorder ev) (hb.notify ev) (h.guide ev) _ _ hc

theorem KeptByEvents.playback (h : KeptByEvents P) (kinds : List EventKind) : Keeps P (playbackEvents kinds) :=
  Keeps.foldl (fun k s hs => h.route hb ⟨.playback, s.clock.us, k⟩ s hs) kinds

theorem engineEvent_keeps (he : ∀ x, Keeps P fun s => s.withEngine x) (ev : Event) : Keeps P (engineEvent ev) := by
  intro s hs
  unfold engineEvent
  cases ev.kind with
  | noteOn k v r => exact Keeps.foldl (fun b => hb.raise b) _ _ (he _ s hs)
  | soft v => exact hs
  | noteOff k f => exact he _ s hs
  | silentPress k => exact he _ s hs
  | damper v => exact he _ s hs
  | sostOn => exact he _ s hs
  | sostOff => exact he _ s hs

/-! ### The Recorder -/

section
variable (hst : ∀ x, Keeps P fun s => s.withStore x) (hrec : ∀ x, Keeps P fun s => s.withRecorder x)
include hst hrec

theorem endRecording_keeps (r : Recording) (c : RecordEndCause) (time : Nat) :
    Keeps P (endRecording r c time) :=
  fun s hs => hb.raise _ _ (hrec _ _ (hst _ s hs))

theorem recordBody_keeps (r : Recording) (time : Nat) (b : Body) : Keeps P (recordBody r time b) := by
  intro s hs
  unfold recordBody
  split
  · exact hrec _ _ (hst _ s hs)
  · exact endRecording_keeps hb hst hrec _ _ _ s hs

theorem recordGap_keeps : Keeps P recordGap := by
  intro s hs
  unfold recordGap
  split
  · exact hs
  · exact recordBody_keeps hb hst hrec _ _ _ s hs

end

omit hb in
/-- What a gap expiry keeps, the overdue expiries keep. -/
theorem recordOverdueGaps_keeps (hg : Keeps P recordGap) (time : Nat) : Keeps P (recordOverdueGaps time) := by
  have gaps : ∀ n, Keeps P (recordGaps n) := by
    intro n
    induction n with
    | zero => exact fun _ hs => hs
    | succ n ih => exact fun s hs => ih _ (hg s hs)
  intro s hs
  unfold recordOverdueGaps
  split
  · exact hs
  · exact gaps _ s hs

omit hb in
theorem takeGapExpiry_keeps (hg : Keeps P recordGap) : Keeps P takeGapExpiry := by
  intro s hs
  unfold takeGapExpiry
  split
  · exact hs
  · split
    · exact hg s hs
    · exact hs

theorem recorderEvent_keeps (hst : ∀ x, Keeps P fun s => s.withStore x)
    (hrec : ∀ x, Keeps P fun s => s.withRecorder x) (ev : Event) : Keeps P (recorderEvent ev) := by
  intro s hs
  have hg := recordOverdueGaps_keeps (recordGap_keeps hb hst hrec)
  unfold recorderEvent
  split
  · exact hs
  · split
    · exact hs
    · dsimp only
      split
      · exact hg _ s hs
      · split
        · exact hg _ s hs
        · exact recordBody_keeps hb hst hrec _ _ _ _ (hg _ s hs)

/-! ### The Guide -/

section
variable (hg : ∀ x, Keeps P fun s => s.withGuide x) (hro : ∀ x, Keeps P fun s => s.withRouter x)
  (hp : ∀ x, Keeps P fun s => s.withPlayer x)

omit hb in
include hg in
theorem setExpected_keeps (ks : KeySet) : Keeps P (setExpected ks) := fun s hs => hg _ s hs

omit hb in
include hro in
theorem setRecent_keeps (l : List Press) : Keeps P (setRecent l) := fun s hs => hro _ s hs

theorem playerNotice_keeps (t : Option TakeId) (c : PlayCause) : Keeps P (playerNotice t c) :=
  fun _ hs => hb.raise _ _ hs

include hp in
theorem releaseWait_keeps : Keeps P releaseWait := by
  intro s hs
  unfold releaseWait
  split
  · exact playerNotice_keeps hb _ _ _ (hp _ s hs)
  · exact hs

include hg hro hp in
theorem guideOffer_keeps (k : Key) : Keeps P (guideOffer k) := by
  intro s hs
  unfold guideOffer
  split
  · exact releaseWait_keeps hb hp _ (hg _ s hs)
  · exact hro _ s hs

include hg in
theorem guideExpect_keeps (k : Key) (c : Bool) : Keeps P (guideExpect k c) := by
  intro s hs
  unfold guideExpect
  repeat' split
  · exact hb.raise _ _ hs
  · exact hb.raise _ _ hs
  · exact hb.raise _ _ (hg _ s hs)
  · exact hb.raise _ _ hs

include hg hro in
theorem guideEvent_keeps (ev : Event) : Keeps P (guideEvent ev) := by
  intro s hs
  unfold guideEvent
  split
  · split
    · exact guideExpect_keeps hb hg _ _ _ (hro _ s hs)
    · exact hb.raise _ _ hs
  · exact hb.raise _ _ hs
  all_goals exact hs

end

/-! ### The Rail Controller -/

section
variable (hr : ∀ x, Keeps P fun s => s.withRail x)
include hr

theorem railChange_keeps (r shown : Rail) (c : RailCause) (w : RailReason) : Keeps P (railChange r shown c w) :=
  fun s hs => hb.raise _ _ (hr _ s hs)

theorem railMovesOn_keeps (st : RailState) (c : RailCause) (was : Rail) : Keeps P (railMovesOn st c was) := by
  intro s hs
  obtain ⟨shown, -, h⟩ := railMovesOn_spec st c was s
  rw [h]
  exact railChange_keeps hb hr _ _ _ _ _ (hb.quiet (withChoices_quiet s _) hs)

theorem railReturned_keeps (og : RailOrigin) (was : Rail) : Keeps P (railReturned og was) := by
  intro s hs
  have moves := fun st c => railMovesOn_keeps hb hr st c was s hs
  unfold railReturned
  cases og <;> dsimp only <;> repeat' split
  · exact moves ..
  · exact moves ..
  · exact hs
  · exact hs
  · exact moves ..
  · exact hs
  · exact moves ..

theorem railReturn_keeps (c : RailCause) (w : RailReason) : Keeps P (railReturn c w) :=
  fun s hs => railReturned_keeps hb hr _ _ _ (railChange_keeps hb hr _ _ _ _ s hs)

theorem noteKeyboard_keeps (was : Bool) : Keeps P (noteKeyboard was) := by
  intro s hs
  unfold noteKeyboard railKeyboard
  dsimp only
  split
  · exact hs
  · split
    · exact hr _ s hs
    · exact hr _ s hs
    · split
      · exact hs
      · exact railChange_keeps hb hr _ _ _ _ s hs
    all_goals exact hs

theorem railMove_keeps : Keeps P railMove := by
  intro s hs
  unfold railMove
  dsimp only
  split <;> exact railChange_keeps hb hr _ _ _ _ s hs

theorem takeSettle_keeps : Keeps P takeSettle := by
  intro s hs
  unfold takeSettle railSettled railArrive
  repeat' split
  · exact railReturn_keeps hb hr _ _ s hs
  · exact railChange_keeps hb hr _ _ _ _ s hs
  · exact railMove_keeps hb hr s hs
  · exact railMove_keeps hb hr s hs
  · exact hs

theorem takeClearWait_keeps : Keeps P takeClearWait := by
  intro s hs
  unfold takeClearWait
  split
  · exact railReturn_keeps hb hr _ _ s hs
  · exact hs

theorem takeRunLimit_keeps : Keeps P takeRunLimit := by
  intro s hs
  unfold takeRunLimit railFault
  split
  · exact railChange_keeps hb hr _ _ _ _ s hs
  · exact hs

theorem switchJudge_keeps (e : RailEnd) (on : Bool) : Keeps P (switchJudge e on) := by
  intro s hs
  have change := fun r r' c w => railChange_keeps hb hr r r' c w s hs
  unfold switchJudge railRest railArrive
  dsimp only
  repeat' split
  all_goals first
    | exact hs
    | exact change ..

theorem switchOne_keeps (e : RailEnd) (on : Bool) : Keeps P (switchOne e on) := by
  intro s hs
  unfold switchOne railFault
  dsimp only
  split
  · exact railChange_keeps hb hr _ _ _ _ _ (hr _ s hs)
  · exact switchJudge_keeps hb hr _ _ _ (hr _ s hs)

theorem switchLevels_keeps (eng ret : Bool) : Keeps P (switchLevels eng ret) := by
  intro s hs
  have one := switchOne_keeps hb hr
  unfold switchLevels
  dsimp only
  repeat' split
  · exact hs
  · exact one _ _ s hs
  · exact one _ _ s hs
  · exact one _ _ _ (one _ _ s hs)
  · exact one _ _ _ (one _ _ s hs)
  · exact one _ _ _ (one _ _ _ (hr _ s hs))

end

/-- What each thing a measurement brings about keeps, all of them in any order keep. -/
theorem takeMeasureEvents_keeps (hf : ∀ e, Keeps P fun s => takeMeasureEvent s e) :
    ∀ n es, Keeps P (takeMeasureEvents n es)
  | 0, _, _, hs => hs
  | _ + 1, [], _, hs => hs
  | _ + 1, [e], s, hs => hf e s hs
  | n + 1, e :: f :: es, s, hs =>
    takeMeasureEvents_keeps hf n _ _ (hf _ _ (hb.draw (e :: f :: es).length s hs))

theorem takeMeasureEvent_keeps (hr : ∀ x, Keeps P fun s => s.withRail x) (e : MeasureEvent) :
    Keeps P fun s => takeMeasureEvent s e := by
  intro s hs
  cases e with
  | overcurrent =>
    dsimp only [takeMeasureEvent]
    split
    · exact railChange_keeps hb hr _ _ _ _ s hs
    · exact hs
  | switches eng ret => exact switchLevels_keeps hb hr eng ret s hs
  | clearWait => exact takeClearWait_keeps hb hr s hs
  | runLimit => exact takeRunLimit_keeps hb hr s hs

theorem railBegin_keeps (hr : ∀ x, Keeps P fun s => s.withRail x) (e : RailEnd) (og : RailOrigin) :
    Keeps P (railBegin e og) :=
  fun s hs => hb.answer _ _ _ (railChange_keeps hb hr _ _ _ _ s hs)

theorem railUnderWay_keeps (hr : ∀ x, Keeps P fun s => s.withRail x) (e : RailEnd) :
    Keeps P (railUnderWay e) := by
  intro s hs
  have change := fun r r' c w => railChange_keeps hb hr r r' c w s hs
  unfold railUnderWay railReverse railArrive
  dsimp only
  repeat' split
  · exact hb.answer _ _ _ hs
  · exact hb.answer _ _ _ (railReturn_keeps hb hr _ _ s hs)
  · exact hb.answer _ _ _ (change ..)
  · exact hb.answer _ _ _ (railChange_keeps hb hr _ _ _ _ _ (change ..))
  · exact hb.answer _ _ _ (change ..)
  · exact hb.answer _ _ _ (change ..)

theorem KeptByRail.of_withRail (hr : ∀ x, Keeps P fun s => s.withRail x) : KeptByRail P where
  measurement c v eng ret s hs :=
    takeMeasureEvents_keeps hb (takeMeasureEvent_keeps hb hr) _ _ _ (hr _ s hs)
  switchEvent eng ret := by
    intro s hs
    unfold takeSwitchEvent
    split
    · exact hs
    · exact switchLevels_keeps hb hr _ _ _ (hr _ s hs)
  clearWait := takeClearWait_keeps hb hr
  runLimit := takeRunLimit_keeps hb hr
  rail t := by
    intro s hs
    have answered := fun st => hb.answer 0x28#8 st s hs
    unfold cmdRail
    repeat' split
    · exact answered _
    · exact answered _
    · exact railBegin_keeps hb hr _ _ s hs
    · exact answered _
    · exact railBegin_keeps hb hr _ _ s hs
    · exact railBegin_keeps hb hr _ _ s hs
    · exact answered _
    all_goals exact railUnderWay_keeps hb hr _ s hs
  railClear := by
    intro s hs
    unfold cmdRailClear
    dsimp only
    split
    · exact hb.answer _ _ _ (railChange_keeps hb hr _ _ _ _ s hs)
    · exact hb.answer _ _ _ hs

/-! ### The Key Scanner and the Touch Unit -/

omit hb in
/-- A key sample in its parts: the record and its events, KEY_FAULT, the rail. -/
theorem takeKeySample_eq (key : Key) (raw : Raw) (stamp : W32) (s : State) :
    takeKeySample key raw stamp s =
      let c := catchUp stamp s
      let x := sampleKey c.touch (c.keys.get key) raw.val stamp
      noteKeyboard (keyboardClear c) (keyFaultNotice key raw.val x.2.2
        (x.2.1.foldl (fun s a => keyEvent key stamp a s) (c.withKey key x.1))) := rfl

section
variable (hk : ∀ x, Keeps P fun s => s.withKeys x)
include hk

omit hb in
theorem recalibrate_keeps (hev : ∀ k stamp, Keeps P (routeEvent ⟨.live, stamp, k⟩)) (key : Key) (k : KeyRecord) :
    Keeps P (recalibrate key k) := by
  intro s hs
  unfold recalibrate
  dsimp only
  split
  · exact hev _ _ _ (hk _ s hs)
  · exact hk _ s hs

theorem KeptByKeys.of_withKeys (hev : ∀ k stamp, Keeps P (routeEvent ⟨.live, stamp, k⟩))
    (ht : ∀ x, Keeps P fun s => s.withTouch x) (hn : ∀ was, Keeps P (noteKeyboard was))
    (hadv : ∀ n, Keeps P (advance n)) : KeptByKeys P where
  keySample k raw stamp := by
    intro s hs
    have hc : P (catchUp stamp s) := by
      rcases catchUp_cases stamp s with hc | ⟨n, hc⟩ <;> rw [hc]
      · exact hs
      · exact hadv n s hs
    rw [takeKeySample_eq]
    dsimp only
    generalize sampleKey _ _ _ _ = x
    refine hn _ _ ?_
    have hacts := Keeps.foldl (f := fun s a => keyEvent k stamp a s) (fun a s hs => hev _ _ s hs) x.2.1 _
      (hk ((catchUp stamp s).keys.set k.val x.1 k.isLt) _ hc)
    cases x.2.2
    · exact hacts
    · exact hb.raise _ _ hacts
    · exact hb.raise _ _ hacts
  loadCal lo hi ps := by
    intro s hs
    unfold cmdLoadCal
    dsimp only
    repeat' split
    · exact hb.answer _ _ _ hs
    · exact hb.answer _ _ _ hs
    · exact hb.answer _ _ _ hs
    · exact hb.answer _ _ _ (hn _ _ (Keeps.foldl (fun a s hs => recalibrate_keeps hk hev _ _ s hs) _ _ hs))
  calStart lo hi := by
    intro s hs
    unfold cmdCalStart
    dsimp only
    split
    · exact hb.answer _ _ _ hs
    · exact hb.answer _ _ _ (hn _ _ (Keeps.foldl (fun a s hs => recalibrate_keeps hk hev _ _ s hs) _ _ hs))
  calEnd := by
    intro s hs
    unfold cmdCalEnd
    dsimp only
    split
    · exact hb.answer _ _ _ hs
    · exact hb.answerData _ _ _ (hn _ _ (Keeps.foldl (fun a s hs => hk _ s hs) _ _ hs))
  setTouch a b c d h t := by
    intro s hs
    unfold cmdSetTouch
    dsimp only
    split
    · exact hb.answer _ _ _ (hn _ _ (ht _ s hs))
    · exact hb.answer _ _ _ hs

end

/-! ### The Voice Engine and the Output Stage -/

theorem offerFreed_keeps (hp : ∀ i, Keeps P fun s => s.withEngine (s.engine.takePending i)) :
    ∀ n is, Keeps P (offerFreed n is)
  | 0, _, _, hs => hs
  | _ + 1, [], _, hs => hs
  | _ + 1, [i], s, hs => hp i s hs
  | n + 1, i :: j :: is, s, hs => by
    unfold offerFreed
    split
    · exact hs
    · exact offerFreed_keeps hp n _ _ (hp _ _ (hb.draw (i :: j :: is).length s hs))

theorem KeptByVoices.of_withEngine (he : ∀ x, Keeps P fun s => s.withEngine x)
    (ho : ∀ x, Keeps P fun s => s.withOutput x) : KeptByVoices P where
  controlBlock s hs := offerFreed_keeps hb (fun _ s hs => he _ s hs) _ _ _ (he _ _ (ho _ s hs))
  outputSample s hs := offerFreed_keeps hb (fun _ s hs => he _ s hs) _ _ _ (he _ _ (ho _ s hs))
  loadMap k n rh rd pan ls := by
    intro s hs
    unfold cmdLoadMap
    dsimp only
    repeat' split
    · exact hb.answer _ _ _ hs
    · exact hb.answer _ _ _ hs
    · exact hb.answer _ _ _ hs
    · exact hb.answer _ _ _ (he _ s hs)
    · exact hb.answer _ _ _ (he _ s hs)
    · exact hb.answer _ _ _ hs
  soundOff s hs := hb.answer _ _ _ (he _ s hs)

/-! ### The commands of the Recorder and the Take Store -/

theorem KeptByTakes.of_withStore (hst : ∀ x, Keeps P fun s => s.withStore x)
    (hrec : ∀ x, Keeps P fun s => s.withRecorder x) (hbu : ∀ x, Keeps P fun s => s.withBulk x) :
    KeptByTakes P where
  gapExpiry := takeGapExpiry_keeps (recordGap_keeps hb hst hrec)
  recordStart t m := by
    intro s hs
    have answered := fun st => hb.answer 0x30#8 st s hs
    unfold cmdRecordStart
    dsimp only
    repeat' split
    all_goals first
      | exact answered _
      | exact hb.answer _ _ _ (hrec _ _ (hst _ s hs))
  recordStop := by
    intro s hs
    have hg := recordOverdueGaps_keeps (recordGap_keeps hb hst hrec)
    unfold cmdRecordStop
    split
    · exact hb.answer _ _ _ hs
    · dsimp only
      split
      · exact hb.answer _ _ _ (hg _ s hs)
      · exact endRecording_keeps hb hst hrec _ _ _ _ (hb.answer _ _ _ (hg _ s hs))
  takeErase t := by
    intro s hs
    unfold cmdTakeErase
    dsimp only
    repeat' split
    · exact hb.answer _ _ _ hs
    · exact hb.answer _ _ _ hs
    · exact hb.answer _ _ _ hs
    · exact hb.answer _ _ _ (hst _ s hs)
  takeOpen t := by
    intro s hs
    unfold cmdTakeOpen
    repeat' split
    · exact hb.answer _ _ _ hs
    · exact hb.answer _ _ _ hs
    · exact hb.answer _ _ _ hs
    · exact hb.answer _ _ _ (hbu _ _ (hst _ s hs))
  takeWrite t n rs := by
    intro s hs
    have answered := fun st => hb.answer 0x35#8 st s hs
    unfold cmdTakeWrite
    split
    · exact answered _
    · split
      · exact answered _
      · split
        · exact answered _
        · split
          · exact answered _
          · split
            · exact hb.answer _ _ _ (hbu _ _ (hst _ s hs))
            · exact answered _
  takeClose t := by
    intro s hs
    unfold cmdTakeClose
    repeat' split
    · exact hb.answer _ _ _ hs
    · exact hb.answer _ _ _ hs
    · exact hb.answer _ _ _ (hbu _ _ (hst _ s hs))

/-! ### The Edit Unit -/

section
variable (hst : ∀ x, Keeps P fun s => s.withStore x) (hed : ∀ x, Keeps P fun s => s.withEdit x)
include hst hed

theorem copyDone_keeps (j : CopyJob) (r : EditResult) (n : Nat) : Keeps P (copyDone j r n) :=
  fun s hs => hb.raise _ _ (hed _ _ (hst _ s hs))

theorem copyRollback_keeps (j : CopyJob) (r : EditResult) : Keeps P (copyRollback j r) :=
  fun s hs => copyDone_keeps hb hst hed _ _ _ _ (hst _ s hs)

theorem copyGo_keeps (j : CopyJob) (w : CopyResult) : Keeps P (copyGo j w) := by
  intro s hs
  unfold copyGo
  split
  · exact copyRollback_keeps hb hst hed _ _ _ (hst _ s hs)
  · exact hed _ _ (hst _ s hs)

theorem searchDone_keeps (j : SearchJob) (r : EditResult) (n t : Nat) : Keeps P (searchDone j r n t) :=
  fun s hs => hb.raise _ _ (hed _ _ (hst _ s hs))

theorem scaleDone_keeps (j : ScaleJob) (r : EditResult) : Keeps P (scaleDone j r) :=
  fun s hs => hb.raise _ _ (hed _ _ (hst _ s hs))

theorem copyStep_keeps (j : CopyJob) : Keeps P (copyStep j) := by
  intro s hs
  unfold copyStep copyFirst copyRead copyClose
  dsimp only
  repeat' split
  · exact copyGo_keeps hb hst hed _ _ s hs
  · exact copyGo_keeps hb hst hed _ _ s hs
  · exact copyGo_keeps hb hst hed _ _ s hs
  · exact copyRollback_keeps hb hst hed _ _ _ (hst _ s hs)
  · exact copyDone_keeps hb hst hed _ _ _ _ (hst _ s hs)

theorem searchStep_keeps (j : SearchJob) : Keeps P (searchStep j) := by
  intro s hs
  unfold searchStep
  dsimp only
  repeat' split
  · exact searchDone_keeps hb hst hed _ _ _ _ s hs
  · exact searchDone_keeps hb hst hed _ _ _ _ s hs
  · exact searchDone_keeps hb hst hed _ _ _ _ s hs
  · exact hed _ s hs

theorem scaleStep_keeps (j : ScaleJob) : Keeps P (scaleStep j) := by
  intro s hs
  unfold scaleStep
  dsimp only
  repeat' split
  · exact scaleDone_keeps hb hst hed _ _ s hs
  · exact scaleDone_keeps hb hst hed _ _ _ (hst _ s hs)
  · exact hed _ _ (hst _ s hs)

theorem KeptByEdit.of_withEdit : KeptByEdit P where
  copyStep := by
    intro s hs
    unfold takeCopyEvent
    split
    · exact copyStep_keeps hb hst hed _ s hs
    all_goals exact hs
  searchStep := by
    intro s hs
    unfold takeSearchEvent
    split
    · exact searchStep_keeps hb hst hed _ s hs
    all_goals exact hs
  scaleStep := by
    intro s hs
    unfold takeScaleEvent
    split
    · exact scaleStep_keeps hb hst hed _ s hs
    all_goals exact hs
  takeCopy a f t d m := by
    intro s hs
    have answered := fun st => hb.answer 0x50#8 st s hs
    unfold cmdTakeCopy startCopy
    dsimp only
    repeat' split
    all_goals first
      | exact answered _
      | exact hb.answer _ _ _ (hed _ _ (hst _ s hs))
  takeSearch t i k lo hi vl vh := by
    intro s hs
    have answered := fun st => hb.answer 0x51#8 st s hs
    unfold cmdTakeSearch
    repeat' split
    · exact answered _
    · exact answered _
    · exact answered _
    · exact answered _
    · exact answered _
    · exact hb.answer _ _ _ (hed _ _ (hst _ s hs))
  takeScale t f e lo hi q o := by
    intro s hs
    have answered := fun st => hb.answer 0x52#8 st s hs
    unfold cmdTakeScale
    repeat' split
    · exact answered _
    · exact answered _
    · exact answered _
    · exact answered _
    · exact answered _
    · exact hb.answer _ _ _ (hed _ _ (hst _ s hs))
  editAbort := by
    intro s hs
    have answered := hb.answer 0x53#8 .ok s hs
    unfold cmdEditAbort
    split
    · exact hb.answer _ _ _ hs
    · exact copyRollback_keeps hb hst hed _ _ _ answered
    · exact searchDone_keeps hb hst hed _ _ _ _ _ answered
    · exact scaleDone_keeps hb hst hed _ _ _ answered

end

/-! ### The Player -/

theorem reportMarkers_keeps (f : Nat → Bool) : Keeps P (reportMarkers f) := by
  refine Keeps.foldl (fun i s hs => ?_) _
  dsimp only
  split
  · split
    · exact hb.raise _ _ hs
    · exact hs
  · exact hs

section
variable (hp : ∀ x, Keeps P fun s => s.withPlayer x) (hpb : ∀ ks, Keeps P (playbackEvents ks))
include hp hpb

theorem emitDue_keeps (due : Nat → Bool) : ∀ l, Keeps P (emitDue due l)
  | [], _, hs => hs
  | (t, r) :: rest, s, hs => by
    have he : P (emitRecord r s) := hpb _ _ (hp _ s hs)
    unfold emitDue
    split
    · dsimp only
      split
      · exact playerNotice_keeps hb _ _ _ (hp _ _ he)
      · exact emitDue_keeps due rest _ he
    · exact hs

variable (hcl : Keeps P clearExpected) (hro : Keeps P clearRecent)
  (hst : ∀ t b, Keeps P fun s => s.withStore (s.store.withEntry t { s.store.entry t with played := b }))
  (hen : Keeps P engineStop)
  (hset : ∀ w g, Keeps P fun s => s.withGuide { s.guide with wait := w, grace := g })

include hcl hro hst hen in
theorem stopPlayer_keeps (c : PlayCause) : Keeps P (stopPlayer c) := by
  intro s hs
  unfold stopPlayer
  refine playerNotice_keeps hb _ _ _ (hp _ _ ?_)
  have hclear : P (clearRecent (clearExpected (engineStop (closePlayer s)))) :=
    hro _ (hcl _ (hen _ (hpb _ _ (hp _ s hs))))
  unfold clearPlayed
  split
  · exact hst _ _ _ hclear
  · exact hclear

include hcl in
theorem loopJump_keeps (a : Nat) : Keeps P (loopJump a) := by
  intro s hs
  unfold loopJump
  exact emitDue_keeps hb hp hpb _ _ _ (reportMarkers_keeps hb _ _ (hcl _ (hb.raise _ _ (hp _ _ (hpb _ _ (hp _ s hs))))))

theorem tickEmission_keeps : Keeps P tickEmission :=
  fun s hs => emitDue_keeps hb hp hpb _ _ _ (reportMarkers_keeps hb _ _ (hp _ s hs))

include hcl hro hst hen in
theorem takePlayerTick_keeps : Keeps P takePlayerTick := by
  intro s hs
  have ht : P (tickEmission s) := tickEmission_keeps hb hp hpb s hs
  unfold takePlayerTick tickEnd
  split
  · split
    · exact loopJump_keeps hb hp hpb hcl _ _ ht
    · split
      · exact stopPlayer_keeps hb hp hpb hcl hro hst hen _ _ ht
      · exact ht
  · exact hs

include hcl hro hst hen hset in
theorem KeptByPlayer.of_withPlayer : KeptByPlayer P where
  tick := takePlayerTick_keeps hb hp hpb hcl hro hst hen
  play t ms := by
    intro s hs
    have answered := fun st => hb.answer 0x40#8 st s hs
    unfold cmdPlay
    dsimp only
    repeat' split
    · exact answered _
    · exact answered _
    · exact answered _
    · exact answered _
    · exact answered _
    · exact hb.answer _ _ _ (playerNotice_keeps hb _ _ _ (reportMarkers_keeps hb _ _ (hpb _ _ (hp _ _ (hst _ _ s hs)))))
  stop := by
    intro s hs
    unfold cmdStop
    split
    · exact hb.answer _ _ _ hs
    · exact hb.answer _ _ _ (stopPlayer_keeps hb hp hpb hcl hro hst hen _ s hs)
  pause := by
    intro s hs
    have paused : P (pausePlayer s) :=
      playerNotice_keeps hb _ _ _ (hp _ _ (hcl _ (hen _ (hpb _ _ (hp _ s hs)))))
    unfold cmdPause
    split
    · exact hb.answer _ _ _ hs
    · exact hb.answer _ _ _ hs
    · exact hb.answer _ _ _ paused
    · exact hb.answer _ _ _ paused
  resume := by
    intro s hs
    unfold cmdResume
    split
    · exact hb.answer _ _ _ (playerNotice_keeps hb _ _ _ (hp _ _ (hpb _ _ (hp _ s hs))))
    · exact hb.answer _ _ _ hs
  locate t := by
    intro s hs
    have answered := fun st => hb.answer 0x44#8 st s hs
    have playing : P (locatePlaying t.toNat s) :=
      playerNotice_keeps hb _ _ _ (reportMarkers_keeps hb _ _ (hp _ _ (hcl _ (hpb _ _ (hp _ s hs)))))
    unfold cmdLocate
    repeat' split
    · exact answered _
    · exact answered _
    · exact hb.answer _ _ _ playing
    · exact answered _
    · exact hb.answer _ _ _ playing
    · exact answered _
    · exact hb.answer _ _ _ (playerNotice_keeps hb _ _ _ (hcl _ (hp _ s hs)))
  setGuide w g := by
    intro s hs
    unfold cmdSetGuide
    dsimp only
    split
    · exact hb.answer _ _ _ hs
    · split
      · exact hb.answer _ _ _ hs
      · refine hb.answer _ _ _ ?_
        split
        · exact hset _ _ s hs
        · exact releaseWait_keeps hb hp _ (hcl _ (hset _ _ s hs))
  guideSkip s hs := hb.answer _ _ _ (releaseWait_keeps hb hp _ (hcl s hs))

end

end

end Sys2Proof.StepRows
end

section
/-! PROOFS. What holds of a step whatever block takes it: the flash is never written, the link's queues keep their
capacities, and the link is left with nothing it could still do. -/

namespace Sys2Proof.StepRows

open Sys2Proof.Machine

/-! ### Properties of the link, the flash and the run alone -/

/-- Kept by replacing any block but the link. -/
structure KeptBySetters (P : State → Prop) : Prop where
  keys : ∀ x, Keeps P fun s => s.withKeys x
  touch : ∀ x, Keeps P fun s => s.withTouch x
  router : ∀ x, Keeps P fun s => s.withRouter x
  engine : ∀ x, Keeps P fun s => s.withEngine x
  output : ∀ x, Keeps P fun s => s.withOutput x
  rail : ∀ x, Keeps P fun s => s.withRail x
  store : ∀ x, Keeps P fun s => s.withStore x
  recorder : ∀ x, Keeps P fun s => s.withRecorder x
  bulk : ∀ x, Keeps P fun s => s.withBulk x
  player : ∀ x, Keeps P fun s => s.withPlayer x
  guide : ∀ x, Keeps P fun s => s.withGuide x
  edit : ∀ x, Keeps P fun s => s.withEdit x

section
variable {P : State → Prop} (hb : KeptByQuiet P)
include hb

theorem KeptByEvents.of_setters (h : KeptBySetters P) : KeptByEvents P where
  engine := engineEvent_keeps hb h.engine
  recorder := recorderEvent_keeps hb h.store h.recorder
  guide := guideEvent_keeps hb h.guide h.router
  offer := guideOffer_keeps hb h.guide h.router h.player

theorem KeptByCommands.of_setters (h : KeptBySetters P) (ht : ∀ n, Keeps P (advance n))
    (ha : Keeps P fun s => s.withLink { s.link with resetAwait := true })
    (hc : ∀ c, Keeps P fun s => s.withLink { s.link with classes := c }) : KeptByCommands P where
  base := hb
  keys := .of_withKeys hb h.keys (fun _ _ => (KeptByEvents.of_setters hb h).route hb _) h.touch
    (noteKeyboard_keeps hb h.rail) ht
  rail := .of_withRail hb h.rail
  voices := .of_withEngine hb h.engine h.output
  takes := .of_withStore hb h.store h.recorder h.bulk
  player := .of_withPlayer hb h.player ((KeptByEvents.of_setters hb h).playback hb) (fun s hs => h.guide _ s hs)
    (fun s hs => h.router _ s hs) (fun _ _ s hs => h.store _ s hs) (fun s hs => h.engine _ s hs)
    fun _ _ s hs => h.guide _ s hs
  edit := .of_withEdit hb h.store h.edit
  await := ha
  classes := hc

theorem KeptByRows.of_setters (h : KeptBySetters P) (ht : KeptByTime P) (hl : KeptByLink P)
    (ha : Keeps P fun s => s.withLink { s.link with resetAwait := true })
    (hc : ∀ c, Keeps P fun s => s.withLink { s.link with classes := c }) : KeptByRows P where
  toKeptByCommands := .of_setters hb h ht.time ha hc
  events _ _ := (KeptByEvents.of_setters hb h).route hb _
  time := ht
  link := hl
  settle := takeSettle_keeps hb h.rail

end

/-- A property that does not read the link is kept by what the link does of itself. -/
theorem KeptByLink.of_withLink {P : State → Prop} (hl : ∀ l, Keeps P fun s => s.withLink l) : KeptByLink P where
  choose s hs := hl _ s hs
  taken _ _ s _ hs := hl _ s hs
  arrives f := by
    intro s hs
    unfold frameArrives
    split <;> exact hl _ s hs
  framer _ _ _ _ s hs := hl _ s hs
  cut s hs := hl _ s hs
  freed s hs := hl _ s hs
  cts _ s hs := hl _ s hs

theorem KeptByQuiet.of_withLink {P : State → Prop} (hq : ∀ {s t}, Quiet s t → P s → P t)
    (hl : ∀ l, Keeps P fun s => s.withLink l) : KeptByQuiet P where
  quiet := hq
  raise _ s hs := hl _ s hs
  reply _ s hs := hl _ s hs

theorem endInitialization_keeps {P : State → Prop} (hb : KeptByQuiet P) (hr : ∀ x, Keeps P fun s => s.withRail x)
    (ho : ∀ x, Keeps P fun s => s.withOutput x) (hrun : Keeps P fun s => { s with running := true })
    (c v : Nat) (eng ret : Bool) : Keeps P (endInitialization c v eng ret) := by
  intro s hs
  unfold endInitialization
  split
  · exact hs
  · exact hb.raise _ _ (hrun _ (ho _ _ (hr _ s hs)))

/-! ### The flash (R96) -/

theorem keptByRows_flash (m : List Host.Cell) : KeptByRows fun s => s.flash = m := by
  have hl : ∀ l, Keeps (fun s : State => s.flash = m) fun s => s.withLink l := fun _ _ hs => hs
  have hb : KeptByQuiet fun s => s.flash = m := .of_withLink (fun q hs => q.flash.trans hs) hl
  refine .of_setters hb ?_ ?_ (.of_withLink hl) (fun _ hs => hs) fun _ _ hs => hs
  · constructor <;> exact fun _ _ hs => hs
  · exact ⟨fun _ _ hs => hs, fun _ _ hs => hs,
      endInitialization_keeps hb (fun _ _ hs => hs) (fun _ _ hs => hs) fun _ hs => hs, fun _ _ hs => hs⟩

/-- Settles O23: no block operation replaces the flash, and a reset keeps it. -/
theorem stepsNeverWriteTheFlash : Obligations.StepsNeverWriteTheFlash := fun s _ h =>
  (keptByRows_flash s.flash).step h rfl

/-! ### The capacities of the link (R181, R185) -/

/-- The notice queue and the intake keep their capacities. -/
def LinkBound (s : State) : Prop := s.link.notices.length ≤ 64 ∧ s.link.intake.length ≤ 4

theorem transmit_notices_length_le (l : Link) : l.transmit.notices.length ≤ l.notices.length := by
  rcases l.transmit_cases with h | ⟨-, -, r, -, h⟩ | ⟨-, -, -, n, rest, ho, h⟩ <;> rw [h]
  have := takeOldest_length ho
  exact Nat.le.intro this

theorem frameArrives_linkBound (f : Frame) : Keeps LinkBound (frameArrives f) := by
  rintro s ⟨hn, hi⟩
  unfold frameArrives
  split
  · rename_i hlt
    refine ⟨hn, ?_⟩
    simp only [State.withLink_link, List.length_append, List.length_singleton]
    omega
  · exact ⟨Link.note_bound _ _ _ hn, by simpa using hi⟩

theorem keptByQuiet_linkBound : KeptByQuiet LinkBound where
  quiet q hs := by
    unfold LinkBound
    rw [q.link]
    exact hs
  raise b s hs := ⟨Link.note_bound _ _ _ hs.1, by simpa using hs.2⟩
  reply _ _ hs := hs

theorem keptByLink_linkBound : KeptByLink LinkBound where
  choose s hs := ⟨(transmit_notices_length_le _).trans hs.1, by simpa using hs.2⟩
  taken f rest s hi hs := by
    refine ⟨hs.1, ?_⟩
    have := hs.2
    rw [hi, List.length_cons] at this
    exact Nat.le_of_succ_le this
  arrives := frameArrives_linkBound
  framer _ _ _ _ _ hs := hs
  cut _ hs := ⟨hs.1, Nat.zero_le 4⟩
  freed _ hs := hs
  cts _ _ hs := hs

theorem keptByRows_linkBound : KeptByRows LinkBound := by
  refine .of_setters keptByQuiet_linkBound ?_ ⟨fun n s hs => ?_, fun _ _ _ => ⟨Nat.zero_le 64, Nat.zero_le 4⟩, ?_,
    fun _ _ hs => hs⟩ keptByLink_linkBound (fun _ hs => hs) fun _ _ hs => hs
  · constructor <;> exact fun _ _ hs => hs
  · unfold LinkBound
    have hn : (s.link.advance n).notices = s.link.notices := by unfold Link.advance; split <;> rfl
    have hi : (s.link.advance n).intake = s.link.intake := by unfold Link.advance; split <;> rfl
    exact ⟨hn ▸ hs.1, hi ▸ hs.2⟩
  · exact endInitialization_keeps keptByQuiet_linkBound (fun _ _ hs => hs) (fun _ _ hs => hs) fun _ hs => hs

/-! ### The link after a step (R181, R184) -/

/-- The host commands: every frame but that of UNKNOWN_TYPE carries one. -/
def isCommand : Instr → Bool
  | .unknownType _ _ => false
  | i => (frameOf i).isSome

theorem isCommand_of_fixedLen {f : Frame} {n : Nat} {i j : Instr} (h : fixedLen f n i = .ok j)
    (hi : isCommand i = true) : isCommand j = true := by
  unfold fixedLen at h
  split at h
  · cases h
    exact hi
  · cases h

/-- What the decoder reads from a frame is a host command. -/
theorem isCommand_of_parseFrame {f : Frame} {i : Instr} (h : parseFrame f = .ok i) : isCommand i = true := by
  unfold parseFrame at h
  dsimp only at h
  split at h
  case h_4 | h_17 | h_28 =>
    split at h
    · cases h
      rfl
    · cases h
  case h_46 => cases h
  all_goals exact isCommand_of_fixedLen h rfl

theorem recordStop_slot (s : State) : (cmdRecordStop s).link.slot.isSome = true := by
  unfold cmdRecordStop endRecording
  dsimp only
  repeat' split
  · rfl
  · rfl
  · simp

theorem editAbort_slot (s : State) : (cmdEditAbort s).link.slot.isSome = true := by
  unfold cmdEditAbort copyRollback copyDone searchDone scaleDone editIdle
  split
  · rfl
  all_goals simp

/-- Every host command ends in its reply, or in a notice after it. -/
theorem runCommand_slot {i : Instr} (h : isCommand i = true) (s : State) :
    (runCommand i s).link.slot.isSome = true := by
  cases i
  case recordStop => exact recordStop_slot s
  case editAbort => exact editAbort_slot s
  all_goals first
    | exact absurd h Bool.false_ne_true
    | unfold runCommand
  all_goals
    dsimp only [cmdGetStatus, cmdResetPart, cmdSetNoticeClass, cmdLoadCal, cmdCalStart, cmdCalEnd, cmdSetTouch,
      cmdSetKeyGain, cmdGetKey, cmdSetCurve, cmdSetSoft, cmdLoadPedalCal, cmdSetPedal, cmdGetPedal, cmdSetRoute,
      cmdGetRoute, cmdLoadMap, cmdSetOutput, cmdSoundOff, cmdRail, railBegin, railUnderWay, cmdRailClear, cmdSetRail,
      cmdRecordStart, cmdTakeInfo, cmdTakeErase, cmdTakeOpen, cmdTakeWrite, cmdTakeClose, cmdTakeRead, cmdPlay,
      cmdStop, cmdPause, cmdResume, cmdLocate, cmdSetTempo, cmdSetLoop, cmdSetPasses, cmdSetGuide, cmdGuideSkip,
      cmdSetMarkers, cmdTakeCopy, cmdTakeSearch, cmdTakeScale]
    repeat' split
  all_goals rfl

/-- What a command keeps of the link: the transmitter, CTS and the intake. -/
theorem runCommand_link (i : Instr) (s : State) :
    (runCommand i s).link.tx = s.link.tx ∧ (runCommand i s).link.cts = s.link.cts ∧
      (runCommand i s).link.intake = s.link.intake := by
  let P : State → Prop := fun t => t.link.tx = s.link.tx ∧ t.link.cts = s.link.cts ∧ t.link.intake = s.link.intake
  have hb : KeptByQuiet P := by
    refine ⟨fun q hs => ?_, fun b t hs => ?_, fun _ _ hs => hs⟩
    · dsimp only [P]
      rw [q.link]
      exact hs
    · simpa [P] using hs
  have hc : KeptByCommands P := by
    refine .of_setters hb ?_ (fun n t hs => ?_) (fun _ hs => hs) fun _ _ hs => hs
    · constructor <;> exact fun _ _ hs => hs
    · have hcore := advance_core n t
      have htx : (advance n t).link.tx = t.link.tx := (congrArg Link.tx hcore :)
      have hcts : (advance n t).link.cts = t.link.cts := (congrArg Link.cts hcore :)
      have hin : (advance n t).link.intake = t.link.intake := (congrArg Link.intake hcore :)
      exact ⟨htx.trans hs.1, hcts.trans hs.2.1, hin.trans hs.2.2⟩
  exact hc.runCommand i s ⟨rfl, rfl, rfl⟩

/-- The decoder takes nothing, or the oldest frame, and then a reply stands in the slot. -/
theorem takeCommand_cases (s : State) :
    (takeCommand s = s ∧ (s.link.intake = [] ∨ s.link.slot.isSome = true ∨ s.link.resetAwait = true)) ∨
      (s.link.intake ≠ [] ∧ s.link.slot = none ∧ s.link.resetAwait = false ∧
        (takeCommand s).link.slot.isSome = true ∧ (takeCommand s).link.tx = s.link.tx ∧
        (takeCommand s).link.cts = s.link.cts) := by
  by_cases ho : s.link.decoderOpen = true
  · have hopen : s.link.slot = none ∧ s.link.resetAwait = false := by simpa [Link.decoderOpen] using ho
    cases hi : s.link.intake with
    | nil => exact .inl ⟨takeCommand_of_nil hi, .inl rfl⟩
    | cons f rest =>
      refine .inr ⟨by simp, hopen.1, hopen.2, ?_⟩
      have ht : takeCommand s = runFrame f (s.withLink { s.link with intake := rest }) := by
        unfold takeCommand
        simp [ho, hi]
      rw [ht]
      unfold runFrame
      cases hp : parseFrame f with
      | error st => exact ⟨rfl, rfl, rfl⟩
      | ok i =>
        obtain ⟨htx, hcts, -⟩ := runCommand_link i (s.withLink { s.link with intake := rest })
        exact ⟨runCommand_slot (isCommand_of_parseFrame hp) _, htx, hcts⟩
  · have hc : s.link.decoderOpen = false := by simpa using ho
    refine .inl ⟨takeCommand_of_closed hc, .inr ?_⟩
    cases hs : s.link.slot with
    | some r => exact .inl rfl
    | none => exact .inr (by simpa [Link.decoderOpen, hs] using hc)

/-- A reply that has left the slot at the transmitter's choice is on the line. -/
theorem transmit_tx_of_slot {l : Link} (h : l.slot.isSome = true) (hs : l.transmit.slot = none) :
    l.transmit.tx.isSome = true := by
  rcases l.transmit_cases with he | ⟨-, -, r, -, he⟩ | ⟨-, -, hn, -⟩
  · rw [he] at hs
    simp [hs] at h
  · rw [he]
    rfl
  · simp [hn] at h

/-- The end of a step leaves the link of a running part settled: if the second choice of the transmitter still leaves
the line idle with CTS asserted, then nothing waits to be sent, so the decoder had no frame to take before it either,
and has none after it. -/
theorem pump_settled {s : State} (hr : s.running = true) : (pump s).link.Settled := by
  unfold pump
  rw [if_pos hr]
  generalize hb : takeCommand (chooseTx s) = b
  have hsend := b.link.transmit_settles
  rcases takeCommand_cases (chooseTx b) with ⟨he, hwait⟩ | ⟨hi, hslot, hawait, hd, htx, hcts⟩
  · rw [he]
    exact ⟨hwait, by simpa using hsend⟩
  · refine ⟨.inr (.inl hd), ?_⟩
    rw [htx, hcts]
    rcases hsend with h | h | ⟨h, -⟩
    · exact .inl h
    · exact .inr (.inl (by simpa using h))
    · left
      rcases takeCommand_cases (chooseTx s) with ⟨hsame, hwait⟩ | ⟨-, -, -, hreply, -⟩
      · have hbs : chooseTx b = chooseTx s := by rw [← hb, hsame, chooseTx_chooseTx]
        rw [hbs] at hi hslot hawait
        simp only [hi, hslot, hawait, Option.isSome_none, Bool.false_eq_true, or_self] at hwait
      · exact transmit_tx_of_slot (hb ▸ hreply) h

theorem advance_settled {s : State} (n : Nat) (h : s.link.Settled) : (advance n s).link.Settled := by
  show (s.link.advance n).Settled
  unfold Link.advance
  split <;> exact h

/-- A command keeps whether the part runs. -/
theorem pump_running (s : State) : (pump s).running = s.running := by
  have hl : ∀ l, Keeps (fun t : State => t.running = s.running) fun t => t.withLink l := fun _ _ ht => ht
  have hb : KeptByQuiet fun t => t.running = s.running := .of_withLink (fun q ht => q.running.trans ht) hl
  have hc : KeptByCommands fun t => t.running = s.running := by
    refine .of_setters hb ?_ (fun _ _ ht => ht) (fun _ ht => ht) fun _ _ ht => ht
    constructor <;> exact fun _ _ ht => ht
  exact hc.pump (.of_withLink hl) s rfl

/-- Settles O20: whatever the row did, the end of the step settles the link of a running part; time changes the GAP
timer alone. -/
theorem stepsLeaveTheLinkSettled : Obligations.StepsLeaveTheLinkSettled := by
  intro s t hs ht hr
  rcases step_cases ht with ⟨-, rfl⟩ | ⟨i, rest, -, rfl⟩
  · unfold idle whenRunning at hr ⊢
    split at hr
    · rename_i hrun
      rw [if_pos hrun]
      exact advance_settled 1 (hs hrun)
    · contradiction
  · exact pump_settled ((pump_running _).symm.trans hr)

end Sys2Proof.StepRows
end

section
/-! PROOFS. The Voice Engine's count of a key (R81) and the keys marked down for held sounds (section 5.3): what each
operation of the engine does to them, and the laws of voices along every step. -/

namespace Sys2Proof.Machine

open Sys2Proof.StepRows

/-! ### Vectors -/

@[simp] theorem vmap_toList {α β : Type} {n : Nat} (f : α → β) (v : Vector α n) :
    (vmap f v).toList = v.toList.map f := rfl

@[simp] theorem vset_toList {α : Type} {n : Nat} (v : Vector α n) (i : Nat) (x : α) :
    (vset v i x).toList = v.toList.set i x := rfl

theorem vgetD_eq_getElem {α : Type} {n : Nat} (v : Vector α n) {i : Nat} (h : i < v.toList.length) (d : α) :
    vgetD v i d = v.toList[i] := by
  simp only [vgetD, List.getD_eq_getElem?_getD, List.getElem?_eq_getElem h, Option.getD_some]

theorem vset_of_le {α : Type} {n : Nat} (v : Vector α n) {i : Nat} (h : n ≤ i) (x : α) : vset v i x = v := by
  apply Vector.toList_inj.1
  rw [vset_toList, List.set_eq_of_length_le (by simpa using h)]

/-! ### The least of a list -/

/-- The place `leastIndex` names holds its measure. -/
theorem leastIndex_spec {α : Type} {f : α → Option Nat} {l : List α} {i m : Nat}
    (h : leastIndex f l = some (i, m)) : ∃ hi : i < l.length, f l[i] = some m := by
  induction l generalizing i m with
  | nil => cases h
  | cons x xs ih =>
    have tail {j n : Nat} (hj : (leastIndex f xs).map (fun (i, m) => (i + 1, m)) = some (j, n)) :
        ∃ hi : j < (x :: xs).length, f (x :: xs)[j] = some n := by
      obtain ⟨⟨k, n'⟩, hk, he⟩ := Option.map_eq_some_iff.1 hj
      cases he
      obtain ⟨hlt, hf⟩ := ih hk
      exact ⟨Nat.succ_lt_succ hlt, hf⟩
    unfold leastIndex at h
    split at h
    · exact tail h
    · rename_i n hx _
      cases h
      exact ⟨Nat.zero_lt_succ _, hx⟩
    · rename_i n j n' hx hj
      split at h
      · cases h
        exact ⟨Nat.zero_lt_succ _, hx⟩
      · cases h
        exact tail hj

theorem leastIndex_eq_none {α : Type} {f : α → Option Nat} {l : List α} (h : leastIndex f l = none) :
    ∀ x ∈ l, f x = none := by
  induction l with
  | nil => simp
  | cons y ys ih =>
    unfold leastIndex at h
    split at h
    · rename_i hy
      intro x hx
      rcases List.mem_cons.1 hx with rfl | hx
      · exact hy
      · exact ih (by simpa using h) x hx
    · cases h
    · split at h <;> cases h

/-! ### The count of a key (R81) -/

/-- A voice counts for a key: HELD or RELEASED with the key. -/
def countsFor (k : Key) (v : Voice) : Bool := decide ((v.state = .held ∨ v.state = .released) ∧ v.key = k)

/-- The voices of a key in HELD or RELEASED. -/
def voiceCount (k : Key) (vs : Vector Voice 96) : Nat := vs.toList.countP (countsFor k)

/-- The waiting entries of a key. -/
def waitCount (k : Key) (q : List PendingStart) : Nat := q.countP fun p => decide (p.key = k)

theorem keyCount_eq (e : Engine) (k : Key) : e.keyCount k = voiceCount k e.voices + waitCount k e.queue := rfl

theorem voiceCount_vmap_le {f : Voice → Voice} {k : Key} (hf : ∀ v, countsFor k (f v) = true → countsFor k v = true)
    (vs : Vector Voice 96) : voiceCount k (vmap f vs) ≤ voiceCount k vs := by
  unfold voiceCount
  rw [vmap_toList, List.countP_map]
  exact List.countP_mono_left fun v _ => hf v

theorem voiceCount_vset {vs : Vector Voice 96} {i : Nat} (hi : i < vs.toList.length) (k : Key) (x : Voice) :
    voiceCount k (vset vs i x) + (if countsFor k vs.toList[i] = true then 1 else 0) =
      voiceCount k vs + if countsFor k x = true then 1 else 0 := by
  unfold voiceCount
  rw [vset_toList, List.countP_set hi]
  have : (if countsFor k vs.toList[i] = true then 1 else 0) ≤ vs.toList.countP (countsFor k) := by
    split
    · rename_i h
      exact List.countP_pos_iff.2 ⟨_, List.getElem_mem hi, h⟩
    · exact Nat.zero_le _
  omega

theorem voiceCount_vset_le (vs : Vector Voice 96) (i : Nat) (k : Key) (x : Voice) :
    voiceCount k (vset vs i x) ≤ voiceCount k vs + if countsFor k x = true then 1 else 0 := by
  by_cases hi : i < vs.toList.length
  · have := voiceCount_vset hi k x
    omega
  · rw [vset_of_le vs (by simpa using hi)]
    exact Nat.le_add_right _ _

theorem countsFor_cut (k : Key) (v : Voice) : countsFor k v.cut = false := by
  unfold Voice.cut countsFor
  split <;> simp_all

theorem countsFor_of_release {s : Source} {j k : Key} {v : Voice} (h : countsFor k (v.release s j) = true) :
    countsFor k v = true := by
  unfold Voice.release at h
  split at h
  · simp_all [countsFor]
  · exact h

theorem waitCount_release (s : Source) (j k : Key) (q : List PendingStart) :
    waitCount k (q.map (PendingStart.release s j)) = waitCount k q := by
  unfold waitCount
  rw [List.countP_map]
  congr 1
  funext p
  simp only [Function.comp, PendingStart.release]
  split <;> rfl

theorem waitCount_eraseP_le (k : Key) (f : PendingStart → Bool) (q : List PendingStart) :
    waitCount k (q.eraseP f) ≤ waitCount k q := List.eraseP_sublist.countP_le

theorem waitCount_eraseP {k : Key} {q : List PendingStart} (h : (q.any fun p => decide (p.key = k)) = true) :
    waitCount k (q.eraseP fun p => decide (p.key = k)) + 1 = waitCount k q := by
  obtain ⟨p, hp, hk⟩ := List.any_eq_true.1 h
  obtain ⟨a, l₁, l₂, -, ha, hq, he⟩ := List.exists_of_eraseP (p := fun p : PendingStart => decide (p.key = k)) hp hk
  rw [he, hq]
  simp only [waitCount, List.countP_append, List.countP_cons, ha, if_true]
  omega

/-- Voices and waiting entries of no key become more. -/
def Fewer (e e' : Engine) : Prop := ∀ k, e'.keyCount k ≤ e.keyCount k

theorem Fewer.law {e e' : Engine} (h : Fewer e e') (he : VoiceLaw e) : VoiceLaw e' := fun k => (h k).trans (he k)

theorem Fewer.trans {e f g : Engine} (h : Fewer e f) (h' : Fewer f g) : Fewer e g := fun k => (h' k).trans (h k)

/-- The same voices and waiting entries. -/
theorem Fewer.of_eq {e e' : Engine} (hv : e'.voices = e.voices) (hq : e'.queue = e.queue) : Fewer e e' := fun k => by
  rw [keyCount_eq, keyCount_eq, hv, hq]

theorem withSource_fewer (e : Engine) (s : Source) (x : SourceState) : Fewer e (e.withSource s x) :=
  .of_eq (by simp) (by simp)

theorem releaseKey_fewer (e : Engine) (s : Source) (j : Key) : Fewer e (e.releaseKey s j) := fun k => by
  rw [keyCount_eq, keyCount_eq]
  exact Nat.add_le_add (voiceCount_vmap_le (fun _ => countsFor_of_release) _) (waitCount_release s j k _).le

theorem cutVoice_fewer (e : Engine) (i : Nat) : Fewer e (e.cutVoice i) := fun k => by
  have := voiceCount_vset_le e.voices i k (vgetD e.voices i {}).cut
  rw [countsFor_cut] at this
  exact Nat.add_le_add_right this _

/-- Cutting a voice that counts for a key lowers the count. -/
theorem cutVoice_keyCount {e : Engine} {i : Nat} {k : Key} (hi : i < e.voices.toList.length)
    (hc : countsFor k e.voices.toList[i] = true) : (e.cutVoice i).keyCount k + 1 = e.keyCount k := by
  have := voiceCount_vset hi k (vgetD e.voices i {}).cut
  rw [countsFor_cut, hc] at this
  simp only [Bool.false_eq_true, if_true, if_false, Nat.add_zero] at this
  simp only [keyCount_eq, Engine.cutVoice]
  omega

/-- Starting a note on a voice adds at most one to its key's count. -/
theorem startVoice_keyCount (e : Engine) (i : Nat) (j : Key) (s : Source) (v layer : Nat) (st : VoiceState) (k : Key) :
    (e.startVoice i j s v layer st).keyCount k ≤ e.keyCount k + if j = k then 1 else 0 := by
  have := voiceCount_vset_le e.voices i k
    { state := st, key := j, source := s, sound := (e.map.get j).bind fun m => m.sound layer, pos := 0,
      level := level0 v, seq := e.nextSeq, cutPos := 0 }
  have hle : (if countsFor k
      { state := st, key := j, source := s, sound := (e.map.get j).bind fun m => m.sound layer, pos := 0,
        level := level0 v, seq := e.nextSeq, cutPos := 0 } = true then 1 else 0) ≤ if j = k then 1 else 0 := by
    by_cases hjk : j = k
    · rw [if_pos hjk]
      split <;> omega
    · simp [countsFor, hjk]
  simp only [keyCount_eq, Engine.startVoice]
  omega

theorem takePending_fewer (e : Engine) (i : Nat) : Fewer e (e.takePending i) := fun k => by
  unfold Engine.takePending
  split
  · exact le_rfl
  · rename_i p rest hq
    have := startVoice_keyCount { e with queue := rest } i p.key p.source p.velocity p.layer
      (if p.released then .released else .held) k
    rw [keyCount_eq e, hq]
    simp only [keyCount_eq { e with queue := rest }] at this
    have hw : waitCount k (p :: rest) = waitCount k rest + if p.key = k then 1 else 0 := by
      simp [waitCount, List.countP_cons]
    omega

/-! ### Starting a note (R81 to R83) -/

theorem oldestOfKey_spec {e : Engine} {k : Key} {i : Nat} (h : e.oldestOfKey k = some i) :
    ∃ hi : i < e.voices.toList.length, countsFor k e.voices.toList[i] = true := by
  obtain ⟨⟨j, m⟩, hj, rfl⟩ := Option.map_eq_some_iff.1 h
  obtain ⟨hi, hf⟩ := leastIndex_spec hj
  refine ⟨hi, ?_⟩
  split at hf
  · rename_i hc
    exact decide_eq_true hc
  · cases hf

theorem voiceCount_of_oldestOfKey {e : Engine} {k : Key} (h : e.oldestOfKey k = none) :
    voiceCount k e.voices = 0 := by
  have hn := leastIndex_eq_none (Option.map_eq_none_iff.1 h)
  refine List.countP_eq_zero.2 fun v hv hc => ?_
  have := hn v hv
  rw [if_pos (of_decide_eq_true hc)] at this
  cases this

theorem waitCount_eq_zero {k : Key} {q : List PendingStart} (h : ¬(q.any fun p => decide (p.key = k)) = true) :
    waitCount k q = 0 := by
  refine List.countP_eq_zero.2 fun p hp hk => h (List.any_eq_true.2 ⟨p, hp, hk⟩)

/-- At its limit of four a key gives up an entry or a voice. -/
theorem limitKey_spec (e : Engine) (k : Key) (h : e.keyCount k ≤ 4) :
    Fewer e (e.limitKey k).2 ∧ (e.limitKey k).2.keyCount k ≤ 3 := by
  unfold Engine.limitKey
  split
  · rename_i hlt
    exact ⟨fun _ => le_rfl, Nat.le_of_lt_succ hlt⟩
  · rename_i hfull
    split
    · rename_i hany
      have := waitCount_eraseP hany
      refine ⟨fun j => Nat.add_le_add_left (waitCount_eraseP_le j _ _) _, ?_⟩
      rw [keyCount_eq] at h ⊢
      dsimp only
      omega
    · rename_i hnone
      have hw := waitCount_eq_zero hnone
      split
      · rename_i i hi
        obtain ⟨hlt, hc⟩ := oldestOfKey_spec hi
        have := cutVoice_keyCount hlt hc
        exact ⟨cutVoice_fewer e i, by dsimp only; omega⟩
      · rename_i hno
        rw [keyCount_eq, hw, voiceCount_of_oldestOfKey hno] at hfull
        exact absurd (by decide) hfull

/-- Finding a note a voice adds at most one to its key's count, and lets at most one more note wait. -/
theorem allocate_keyCount (e : Engine) (j : Key) (s : Source) (v layer : Nat) (k : Key) :
    (e.allocate j s v layer).2.keyCount k ≤ e.keyCount k + if j = k then 1 else 0 := by
  unfold Engine.allocate
  split
  · exact startVoice_keyCount ..
  · split
    · exact Nat.le_add_right _ _
    · have hqueue (f : Engine) (hf : Fewer e f) :
          ({ f with queue := f.queue ++ [⟨j, s, v, layer, false⟩] } : Engine).keyCount k ≤
            e.keyCount k + if j = k then 1 else 0 := by
        have := hf k
        rw [keyCount_eq] at this ⊢
        simp only [waitCount, List.countP_append, List.countP_singleton, decide_eq_true_eq] at this ⊢
        omega
      dsimp only
      split
      · exact hqueue _ (cutVoice_fewer e _)
      · exact hqueue e fun _ => le_rfl

theorem noteOn_voiceLaw {e : Engine} (h : VoiceLaw e) (s : Source) (k : Key) (v : Nat) :
    VoiceLaw (e.noteOn s k v).2 := by
  have hdown : VoiceLaw (e.markDown s k) := (withSource_fewer e s _).law h
  unfold Engine.noteOn
  dsimp only
  split
  · exact hdown
  · have hrel : VoiceLaw ((e.markDown s k).releaseKey s k) := (releaseKey_fewer _ s k).law hdown
    obtain ⟨hfewer, hroom⟩ := limitKey_spec _ k (hrel k)
    intro j
    refine (allocate_keyCount ..).trans ?_
    by_cases hj : k = j
    · subst hj
      rw [if_pos rfl]
      omega
    · rw [if_neg hj]
      exact (hfewer j).trans (hrel j)

/-! ### Held sounds are marked down (section 5.3) -/

/-- A HELD voice's key is marked down for its source. -/
def HeldDown (e : Engine) (v : Voice) : Prop := v.state = .held → (e.source v.source).down.mem v.key = true

/-- The key of a waiting entry that is not released is marked down for its source. -/
def WaitDown (e : Engine) (p : PendingStart) : Prop := p.released = false → (e.source p.source).down.mem p.key = true

theorem heldLaw_iff (e : Engine) :
    HeldLaw e ↔ (∀ v ∈ e.voices.toList, HeldDown e v) ∧ ∀ p ∈ e.queue, WaitDown e p := Iff.rfl

/-- The keys marked down are the same, every voice of `e'` that is HELD was HELD with the same key and source, and
every waiting entry waited. -/
theorem HeldLaw.of_subset {e e' : Engine} (h : HeldLaw e) (hd : ∀ s, (e'.source s).down = (e.source s).down)
    (hv : ∀ v ∈ e'.voices.toList, v.state = .held →
      ∃ u ∈ e.voices.toList, u.state = .held ∧ u.source = v.source ∧ u.key = v.key)
    (hq : ∀ p ∈ e'.queue, p ∈ e.queue) : HeldLaw e' := by
  refine ⟨fun v hm hs => ?_, fun p hm hr => ?_⟩
  · obtain ⟨u, hu, hus, hsrc, hkey⟩ := hv v hm hs
    rw [hd, ← hsrc, ← hkey]
    exact h.1 u hu hus
  · rw [hd]
    exact h.2 p (hq p hm) hr

/-- Replacing every voice by one that is HELD only where it was keeps the law. -/
theorem HeldLaw.vmap {e : Engine} (h : HeldLaw e) {f : Voice → Voice}
    (hf : ∀ v, (f v).state = .held → v.state = .held ∧ v.source = (f v).source ∧ v.key = (f v).key)
    {q : List PendingStart} (hq : ∀ p ∈ q, p ∈ e.queue) :
    HeldLaw { e with voices := Sys2Proof.vmap f e.voices, queue := q } := by
  refine h.of_subset (fun s => by cases s <;> rfl) (fun v hv hs => ?_) hq
  obtain ⟨u, hu, rfl⟩ := List.mem_map.1 hv
  exact ⟨u, hu, hf u hs⟩

theorem source_withSource_of_ne {s r : Source} (h : r ≠ s) (e : Engine) (x : SourceState) :
    (e.withSource s x).source r = e.source r := by
  cases s <;> cases r <;> first | rfl | exact absurd rfl h

theorem down_withSource {e : Engine} {s : Source} {x : SourceState} (hx : x.down = (e.source s).down) (r : Source) :
    ((e.withSource s x).source r).down = (e.source r).down := by
  by_cases hr : r = s
  · rw [hr, Engine.source_withSource, hx]
  · rw [source_withSource_of_ne hr]

/-- Replacing a source's state but not its keys down keeps the law. -/
theorem HeldLaw.withSource {e : Engine} (h : HeldLaw e) {s : Source} {x : SourceState}
    (hx : x.down = (e.source s).down) : HeldLaw (e.withSource s x) :=
  h.of_subset (down_withSource hx) (fun v hv hs => ⟨v, by simpa using hv, hs, rfl, rfl⟩) (by simp)

theorem mem_add (ks : KeySet) (j k : Key) : (ks.add j).mem k = (decide (j = k) || ks.mem k) := by
  unfold KeySet.add KeySet.mem
  simp only [Vector.get_eq_getElem, Vector.getElem_set, Fin.ext_iff]
  by_cases h : j.val = k.val <;> simp [h]

theorem mem_remove (ks : KeySet) (j k : Key) : (ks.remove j).mem k = (!decide (j = k) && ks.mem k) := by
  unfold KeySet.remove KeySet.mem
  simp only [Vector.get_eq_getElem, Vector.getElem_set, Fin.ext_iff]
  by_cases h : j.val = k.val <;> simp [h]

@[simp] theorem mem_none (k : Key) : KeySet.none.mem k = false := by
  simp [KeySet.none, KeySet.mem, Vector.get_eq_getElem]

theorem markDown_mem (e : Engine) (s : Source) (j : Key) (r : Source) (k : Key) :
    ((e.markDown s j).source r).down.mem k = ((decide (r = s) && decide (j = k)) || (e.source r).down.mem k) := by
  unfold Engine.markDown
  by_cases hr : r = s
  · rw [hr, Engine.source_withSource, mem_add]
    simp
  · rw [source_withSource_of_ne hr]
    simp [hr]

theorem HeldLaw.markDown {e : Engine} (h : HeldLaw e) (s : Source) (j : Key) : HeldLaw (e.markDown s j) := by
  refine ⟨fun v hv hs => ?_, fun p hp hr => ?_⟩
  · rw [markDown_mem, h.1 v (by simpa [Engine.markDown] using hv) hs, Bool.or_true]
  · rw [markDown_mem, h.2 p (by simpa [Engine.markDown] using hp) hr, Bool.or_true]

theorem release_held {s : Source} {k : Key} {v : Voice} (h : (v.release s k).state = .held) :
    v.release s k = v ∧ ¬(v.source = s ∧ v.key = k) := by
  unfold Voice.release at h ⊢
  split at h
  · cases h
  · rename_i hn
    rw [if_neg hn]
    exact ⟨rfl, fun hsk => hn ⟨h, hsk⟩⟩

theorem release_waits {s : Source} {k : Key} {p : PendingStart} (h : (p.release s k).released = false) :
    p.release s k = p ∧ ¬(p.source = s ∧ p.key = k) := by
  unfold PendingStart.release at h ⊢
  split at h
  · cases h
  · rename_i hn
    rw [if_neg hn]
    exact ⟨rfl, hn⟩

/-- Releasing the sound of a key needs the key's mark no longer. -/
theorem heldLaw_releaseKey {e : Engine} {s : Source} {k : Key}
    (hv : ∀ v ∈ e.voices.toList, v.state = .held → ¬(v.source = s ∧ v.key = k) →
      (e.source v.source).down.mem v.key = true)
    (hq : ∀ p ∈ e.queue, p.released = false → ¬(p.source = s ∧ p.key = k) →
      (e.source p.source).down.mem p.key = true) : HeldLaw (e.releaseKey s k) := by
  have hsrc : ∀ r, (e.releaseKey s k).source r = e.source r := fun r => by cases r <;> rfl
  refine ⟨fun v hm hs => ?_, fun p hm hr => ?_⟩
  · obtain ⟨u, hu, rfl⟩ := List.mem_map.1 (show v ∈ e.voices.toList.map (Voice.release s k) from hm)
    obtain ⟨he, hne⟩ := release_held hs
    rw [he] at hs ⊢
    rw [hsrc]
    exact hv u hu hs hne
  · obtain ⟨u, hu, rfl⟩ := List.mem_map.1 (show p ∈ e.queue.map (PendingStart.release s k) from hm)
    obtain ⟨he, hne⟩ := release_waits hr
    rw [he] at hr ⊢
    rw [hsrc]
    exact hq u hu hr hne

theorem HeldLaw.releaseKey {e : Engine} (h : HeldLaw e) (s : Source) (k : Key) : HeldLaw (e.releaseKey s k) :=
  heldLaw_releaseKey (fun v hv hs _ => h.1 v hv hs) fun p hp hr _ => h.2 p hp hr

theorem HeldLaw.noteOff {e : Engine} (h : HeldLaw e) (s : Source) (k : Key) : HeldLaw (e.noteOff s k) := by
  have down {r : Source} {j : Key} (hne : ¬(r = s ∧ j = k)) (hd : (e.source r).down.mem j = true) :
      ((e.withSource s { e.source s with down := (e.source s).down.remove k }).source r).down.mem j = true := by
    by_cases hr : r = s
    · subst hr
      have hkj : k ≠ j := fun he => hne ⟨rfl, he.symm⟩
      rw [Engine.source_withSource, mem_remove, hd]
      simp [hkj]
    · rw [source_withSource_of_ne hr, hd]
  refine heldLaw_releaseKey (fun v hv hs hne => down hne ?_) fun p hp hr hne => down hne ?_
  · exact h.1 v (by simpa using hv) hs
  · exact h.2 p (by simpa using hp) hr

theorem cut_not_held (v : Voice) : v.cut.state ≠ .held := by
  unfold Voice.cut
  split <;> simp_all

/-- Replacing one voice by one whose key is marked down if it is HELD keeps the law. -/
theorem HeldLaw.vset {e : Engine} (h : HeldLaw e) (i : Nat) {x : Voice} (hx : HeldDown e x) {n : W32} :
    HeldLaw { e with voices := Sys2Proof.vset e.voices i x, nextSeq := n } := by
  have hsrc : ∀ r, ({ e with voices := Sys2Proof.vset e.voices i x, nextSeq := n } : Engine).source r = e.source r :=
    fun r => by cases r <;> rfl
  refine ⟨fun v hv hs => ?_, fun p hp hr => ?_⟩
  · rw [hsrc]
    rcases List.mem_or_eq_of_mem_set (show v ∈ e.voices.toList.set i x from hv) with hv | rfl
    · exact h.1 v hv hs
    · exact hx hs
  · rw [hsrc]
    exact h.2 p hp hr

theorem HeldLaw.cutVoice {e : Engine} (h : HeldLaw e) (i : Nat) : HeldLaw (e.cutVoice i) :=
  h.vset (n := e.nextSeq) i fun hs => absurd hs (cut_not_held _)

theorem HeldLaw.withQueue {e : Engine} (h : HeldLaw e) {q : List PendingStart}
    (hq : ∀ p ∈ q, p ∈ e.queue ∨ WaitDown e p) : HeldLaw { e with queue := q } := by
  have hsrc : ∀ r, ({ e with queue := q } : Engine).source r = e.source r := fun r => by cases r <;> rfl
  refine ⟨fun v hv hs => ?_, fun p hp hr => ?_⟩
  · rw [hsrc]
    exact h.1 v hv hs
  · rw [hsrc]
    rcases hq p hp with hp | hp
    · exact h.2 p hp hr
    · exact hp hr

theorem limitKey_source (e : Engine) (k : Key) (s : Source) : (e.limitKey k).2.source s = e.source s := by
  unfold Engine.limitKey
  repeat' split
  all_goals cases s <;> rfl

theorem HeldLaw.limitKey {e : Engine} (h : HeldLaw e) (k : Key) : HeldLaw (e.limitKey k).2 := by
  unfold Engine.limitKey
  repeat' split
  · exact h
  · exact h.withQueue fun p hp => .inl (List.mem_of_mem_eraseP hp)
  · exact h.cutVoice _
  · exact h

theorem HeldLaw.allocate {e : Engine} (h : HeldLaw e) {s : Source} {k : Key} (v layer : Nat)
    (hk : (e.source s).down.mem k = true) : HeldLaw (e.allocate k s v layer).2 := by
  unfold Engine.allocate
  split
  · exact h.vset _ fun _ => hk
  · split
    · exact h
    · dsimp only
      split
      · refine (h.cutVoice _).withQueue fun p hp => ?_
        rcases List.mem_append.1 hp with hp | hp
        · exact .inl hp
        · obtain rfl := List.mem_singleton.1 hp
          exact .inr fun _ => by cases s <;> exact hk
      · refine h.withQueue fun p hp => ?_
        rcases List.mem_append.1 hp with hp | hp
        · exact .inl hp
        · obtain rfl := List.mem_singleton.1 hp
          exact .inr fun _ => hk

theorem HeldLaw.noteOn {e : Engine} (h : HeldLaw e) (s : Source) (k : Key) (v : Nat) :
    HeldLaw (e.noteOn s k v).2 := by
  have hdown := h.markDown s k
  have hmem : ((e.markDown s k).source s).down.mem k = true := by simp [markDown_mem]
  unfold Engine.noteOn
  dsimp only
  split
  · exact hdown
  · refine ((hdown.releaseKey s k).limitKey k).allocate _ _ ?_
    rw [limitKey_source]
    cases s <;> exact hmem

theorem HeldLaw.takePending {e : Engine} (h : HeldLaw e) (i : Nat) : HeldLaw (e.takePending i) := by
  unfold Engine.takePending
  split
  · exact h
  · rename_i p rest hq
    have hrest : HeldLaw { e with queue := rest } := h.withQueue fun x hx => .inl (by rw [hq]; exact List.mem_cons_of_mem p hx)
    refine hrest.vset i fun hs => ?_
    dsimp only at hs
    split at hs
    · cases hs
    · rename_i hr
      have := h.2 p (by rw [hq]; exact List.mem_cons_self) (by simpa using hr)
      cases hsrc : p.source <;> rw [hsrc] at this <;> exact this

/-! ### Both laws along every step -/

/-- What the laws ask of one operation of the engine. -/
structure KeepsVoiceLaws (f : Engine → Engine) : Prop where
  voice : ∀ {e}, VoiceLaw e → VoiceLaw (f e)
  held : ∀ {e}, HeldLaw e → HeldLaw (f e)

theorem blockVoice_state (e : Engine) (v : Voice) :
    (e.blockVoice v).key = v.key ∧ (e.blockVoice v).source = v.source ∧
      ((e.blockVoice v).state = v.state ∨ (e.blockVoice v).state = .free) := by
  unfold Engine.blockVoice
  split
  · dsimp only
    split <;> simp_all
  · dsimp only
    split <;> simp_all
  · simp

theorem advance_state (v : Voice) :
    v.advance.key = v.key ∧ v.advance.source = v.source ∧
      (v.advance.state = v.state ∨ v.advance.state = .free) := by
  unfold Voice.advance
  split
  · simp
  · simp
  · dsimp only
    exact ⟨rfl, rfl, (ite_eq_or_eq ..).symm⟩

theorem cut_state (v : Voice) :
    v.cut.key = v.key ∧ v.cut.source = v.source ∧ (v.cut.state = v.state ∨ v.cut.state = .cut) := by
  unfold Voice.cut
  split <;> simp_all

/-- A property of the engine that setting the voices to some that are no more, and waiting entries starting on voices,
keep. -/
theorem keptByRows_engine {Q : Engine → Prop} (hev : ∀ ev, Keeps (fun s => Q s.engine) (engineEvent ev))
    (hstop : ∀ {e}, Q e → Q e.playerStop) (hpend : ∀ i {e}, Q e → Q (e.takePending i))
    (hmap : ∀ {f : Voice → Voice} {e}, (∀ v, (f v).key = v.key ∧ (f v).source = v.source ∧
        ((f v).state = v.state ∨ (f v).state = .free ∨ (f v).state = .cut)) →
      ∀ {q m}, (∀ g : PendingStart → Bool, q = e.queue.filter g → Q e →
        Q { e with voices := vmap f e.voices, queue := q, map := m }))
    (hreset : Q {}) : KeptByRows fun s => Q s.engine := by
  have hl : ∀ l, Keeps (fun s => Q s.engine) fun s => s.withLink l := fun _ _ hs => hs
  have hb : KeptByQuiet fun s => Q s.engine := .of_withLink (fun {s t} q hs => by rw [q.engine]; exact hs) hl
  have he : KeptByEvents fun s => Q s.engine := by
    refine ⟨hev, ?_, ?_, ?_⟩
    · exact recorderEvent_keeps hb (fun _ _ hs => hs) fun _ _ hs => hs
    · exact guideEvent_keeps hb (fun _ _ hs => hs) fun _ _ hs => hs
    · exact guideOffer_keeps hb (fun _ _ hs => hs) (fun _ _ hs => hs) fun _ _ hs => hs
  have hstore {s : State} {f : Voice → Voice} (hf : ∀ v, (f v).key = v.key ∧ (f v).source = v.source ∧
      ((f v).state = v.state ∨ (f v).state = .free)) (hs : Q s.engine) :
      Q (storeVoices (vmap f s.engine.voices) s).engine := by
    refine offerFreed_keeps hb (fun i t ht => hpend i ht) _ _ (s.withEngine _) ?_
    refine hmap (q := s.engine.queue) (fun v => ⟨(hf v).1, (hf v).2.1, ?_⟩) (fun _ => true) (by simp) hs
    rcases (hf v).2.2 with h | h
    · exact .inl h
    · exact .inr (.inl h)
  have hcut : ∀ v : Voice, v.cut.key = v.key ∧ v.cut.source = v.source ∧
      (v.cut.state = v.state ∨ v.cut.state = .free ∨ v.cut.state = .cut) := fun v =>
    ⟨(cut_state v).1, (cut_state v).2.1, (cut_state v).2.2.imp_right .inr⟩
  have hinstall (k : Key) (m : Option MapEntry) {s : State} (hs : Q s.engine) : Q (s.engine.installMap k m) := by
    refine hmap (fun v => ?_) (fun p => decide (p.key ≠ k)) rfl hs
    split
    · exact hcut v
    · exact ⟨rfl, rfl, .inl rfl⟩
  refine { base := hb, events := fun _ _ => he.route hb _, keys := ?_, rail := ?_, voices := ?_, takes := ?_,
           player := ?_, edit := ?_, await := fun _ hs => hs, classes := fun _ _ hs => hs, time := ?_,
           link := .of_withLink hl, settle := takeSettle_keeps hb fun _ _ hs => hs }
  · exact .of_withKeys hb (fun _ _ hs => hs) (fun _ _ => he.route hb _) (fun _ _ hs => hs)
      (noteKeyboard_keeps hb fun _ _ hs => hs) fun _ _ hs => hs
  · exact .of_withRail hb fun _ _ hs => hs
  · refine ⟨fun s hs => ?_, fun s hs => ?_, fun k n rh rd pan ls s hs => ?_, fun s hs => ?_⟩
    · exact hstore (s := s.withOutput _) (fun v => blockVoice_state s.engine v) hs
    · exact hstore (s := s.withOutput _) advance_state hs
    · unfold cmdLoadMap
      dsimp only
      repeat' split
      · exact hs
      · exact hs
      · exact hs
      · exact hinstall _ _ hs
      · exact hinstall _ _ hs
      · exact hs
    · exact hmap hcut (fun _ => false) (by simp) hs
  · exact .of_withStore hb (fun _ _ hs => hs) (fun _ _ hs => hs) fun _ _ hs => hs
  · exact .of_withPlayer hb (fun _ _ hs => hs) (he.playback hb) (fun _ hs => hs) (fun _ hs => hs) (fun _ _ _ hs => hs)
      (fun _ hs => hstop hs) fun _ _ _ hs => hs
  · exact .of_withEdit hb (fun _ _ hs => hs) fun _ _ hs => hs
  · exact ⟨fun _ _ hs => hs, fun _ _ _ => hreset,
      endInitialization_keeps hb (fun _ _ hs => hs) (fun _ _ hs => hs) fun _ hs => hs, fun _ _ hs => hs⟩

theorem raises_engine (ns : List NoticeBody) (s : State) :
    (ns.foldl (fun s n => raise n s) s).engine = s.engine := by
  induction ns generalizing s with
  | nil => rfl
  | cons n ns ih => exact ih _

theorem engineEvent_voiceLaw (ev : Event) : Keeps (fun s => VoiceLaw s.engine) (engineEvent ev) := by
  intro s hs
  unfold engineEvent
  cases ev.kind with
  | noteOn k v r =>
    dsimp only
    rw [raises_engine]
    exact noteOn_voiceLaw hs _ _ _
  | noteOff k f => exact (releaseKey_fewer _ _ _).law ((withSource_fewer _ _ _).law hs)
  | silentPress k => exact (withSource_fewer _ _ _).law hs
  | damper v => exact (withSource_fewer _ _ _).law hs
  | soft v => exact hs
  | sostOn =>
    show VoiceLaw (s.engine.sostOn ev.source)
    unfold Engine.sostOn
    dsimp only
    split
    · exact hs
    · exact (withSource_fewer _ _ _).law hs
  | sostOff => exact (withSource_fewer _ _ _).law hs

theorem engineEvent_heldLaw (ev : Event) : Keeps (fun s => HeldLaw s.engine) (engineEvent ev) := by
  intro s hs
  unfold engineEvent
  cases ev.kind with
  | noteOn k v r =>
    dsimp only
    rw [raises_engine]
    exact HeldLaw.noteOn hs _ _ _
  | noteOff k f => exact HeldLaw.noteOff hs _ _
  | silentPress k => exact HeldLaw.markDown hs _ _
  | damper v => exact HeldLaw.withSource hs rfl
  | soft v => exact hs
  | sostOn =>
    show HeldLaw (s.engine.sostOn ev.source)
    unfold Engine.sostOn
    dsimp only
    split
    · exact hs
    · exact HeldLaw.withSource hs rfl
  | sostOff => exact HeldLaw.withSource hs rfl

theorem keptByRows_voiceLaw : KeptByRows fun s => VoiceLaw s.engine := by
  refine keptByRows_engine engineEvent_voiceLaw (fun h => Fewer.law (.of_eq rfl rfl) h)
    (fun i _ h => (takePending_fewer _ i).law h) (fun {f e} hf q m g hq h => Fewer.law (fun k => ?_) h) fun k => ?_
  rotate_left
  · simp [keyCount_eq, voiceCount, waitCount, countsFor]
  rw [keyCount_eq, keyCount_eq, hq]
  refine Nat.add_le_add (voiceCount_vmap_le (fun v hc => ?_) _) (List.filter_sublist.countP_le)
  have := hf v
  simp only [countsFor, decide_eq_true_eq] at hc ⊢
  grind

theorem keptByRows_heldLaw : KeptByRows fun s => HeldLaw s.engine := by
  refine keptByRows_engine engineEvent_heldLaw (fun h => ?_) (fun i _ h => HeldLaw.takePending h i)
    (fun {f e} hf q m g hq h => ?_) ?_
  · exact h.of_subset (fun s => by cases s <;> rfl) (fun v hv hs => ⟨v, hv, hs, rfl, rfl⟩) fun _ hp => hp
  · have := h.vmap (f := f) (q := q) (fun v hs => ?_) fun p hp => ?_
    · exact this.of_subset (fun s => by cases s <;> rfl) (fun v hv hs => ⟨v, hv, hs, rfl, rfl⟩) fun _ hp => hp
    · obtain ⟨hk, hsrc, hst⟩ := hf v
      grind
    · rw [hq] at hp
      exact List.mem_of_mem_filter hp
  · refine ⟨fun v hv hs => ?_, by simp⟩
    obtain rfl : v = {} := by simpa using hv
    cases hs

/-- Settles O45: the count of a key grows only by a note that its limit has made room for; a note is HELD only after its
key is marked down, and the mark goes only with the release of the key's sound. -/
theorem stepsKeepTheVoiceLaws : Obligations.StepsKeepTheVoiceLaws := fun _ _ ht =>
  ⟨keptByRows_voiceLaw.step ht, keptByRows_heldLaw.step ht⟩

end Sys2Proof.Machine
end

section
/-! PROOFS. The capacities of the queues and lists along every step: the pending starts (R84), the mute gain (R100), the
recent presses (R67) and the expected set (R161); with those of the link, the obligation about all of them. -/

namespace Sys2Proof.Machine

open Sys2Proof.StepRows

/-! ### Pending starts (R84) -/

/-- The pending-start queue keeps its capacity. -/
def QueueBound (e : Engine) : Prop := e.queue.length ≤ 16

theorem limitKey_queueBound {e : Engine} (h : QueueBound e) (k : Key) : QueueBound (e.limitKey k).2 := by
  unfold Engine.limitKey
  repeat' split
  · exact h
  · exact List.eraseP_sublist.length_le.trans h
  · exact h
  · exact h

theorem allocate_queueBound {e : Engine} (h : QueueBound e) (k : Key) (s : Source) (v layer : Nat) :
    QueueBound (e.allocate k s v layer).2 := by
  unfold Engine.allocate
  split
  · exact h
  · split
    · exact h
    · rename_i hroom
      have happend (f : Engine) (hf : f.queue = e.queue) :
          QueueBound { f with queue := f.queue ++ [⟨k, s, v, layer, false⟩] } := by
        simp only [QueueBound, hf, List.length_append, List.length_singleton]
        omega
      dsimp only
      split
      · exact happend _ rfl
      · exact happend e rfl

theorem noteOn_queueBound {e : Engine} (h : QueueBound e) (s : Source) (k : Key) (v : Nat) :
    QueueBound (e.noteOn s k v).2 := by
  have hdown : QueueBound (e.markDown s k) := by simpa [QueueBound, Engine.markDown] using h
  unfold Engine.noteOn
  dsimp only
  split
  · exact hdown
  · refine allocate_queueBound (limitKey_queueBound ?_ k) ..
    simpa [QueueBound, Engine.releaseKey] using hdown

theorem engineEvent_queueBound (ev : Event) : Keeps (fun s => QueueBound s.engine) (engineEvent ev) := by
  intro s hs
  have withSource (x : SourceState) : QueueBound (s.engine.withSource ev.source x) := by
    simpa [QueueBound] using hs
  unfold engineEvent
  cases ev.kind with
  | noteOn k v r =>
    dsimp only
    rw [raises_engine]
    exact noteOn_queueBound hs ..
  | noteOff k f => simpa [QueueBound, Engine.noteOff, Engine.releaseKey] using hs
  | silentPress k => exact withSource _
  | damper v => exact withSource _
  | soft v => exact hs
  | sostOn =>
    show QueueBound (s.engine.sostOn ev.source)
    unfold Engine.sostOn
    dsimp only
    split
    · exact hs
    · exact withSource _
  | sostOff => exact withSource _

theorem takePending_queueBound {e : Engine} (h : QueueBound e) (i : Nat) : QueueBound (e.takePending i) := by
  unfold Engine.takePending
  split
  · exact h
  · rename_i p rest hq
    unfold QueueBound at h
    rw [hq, List.length_cons] at h
    exact Nat.le_of_succ_le h

theorem keptByRows_queueBound : KeptByRows fun s => QueueBound s.engine :=
  keptByRows_engine engineEvent_queueBound (fun h => h) (fun i _ h => takePending_queueBound h i)
    (fun _ _ _ _ hq h => by
      unfold QueueBound at h ⊢
      rw [hq]
      exact (List.length_filter_le ..).trans h) (Nat.zero_le 16)

/-! ### The mute gain (R100) -/

/-- The mute gain stays in its range. -/
def MuteBound (s : State) : Prop := s.output.mute ≤ 480

theorem muteStep_le {m : Nat} (h : m ≤ 480) (holds : Bool) : muteStep holds m ≤ 480 := by
  unfold muteStep
  split
  · omega
  · split <;> omega

theorem storeVoices_muteBound (after : Vector Voice 96) : Keeps MuteBound (storeVoices after) := fun s hs =>
  offerFreed_keeps (P := MuteBound)
    ⟨fun q h => by unfold MuteBound; rw [q.mute]; exact h, fun _ _ h => h, fun _ _ h => h⟩
    (fun _ _ h => h) _ _ _ hs

theorem keptByRows_muteBound : KeptByRows MuteBound := by
  have hl : ∀ l, Keeps MuteBound fun s => s.withLink l := fun _ _ hs => hs
  have hb : KeptByQuiet MuteBound := .of_withLink (fun q h => by unfold MuteBound; rw [q.mute]; exact h) hl
  have he : KeptByEvents MuteBound := by
    refine ⟨?_, ?_, ?_, ?_⟩
    · exact engineEvent_keeps hb fun _ _ hs => hs
    · exact recorderEvent_keeps hb (fun _ _ hs => hs) fun _ _ hs => hs
    · exact guideEvent_keeps hb (fun _ _ hs => hs) fun _ _ hs => hs
    · exact guideOffer_keeps hb (fun _ _ hs => hs) (fun _ _ hs => hs) fun _ _ hs => hs
  refine { base := hb, events := fun _ _ => he.route hb _, keys := ?_, rail := ?_, voices := ?_, takes := ?_,
           player := ?_, edit := ?_, await := fun _ hs => hs, classes := fun _ _ hs => hs, time := ?_,
           link := .of_withLink hl, settle := takeSettle_keeps hb fun _ _ hs => hs }
  · exact .of_withKeys hb (fun _ _ hs => hs) (fun _ _ => he.route hb _) (fun _ _ hs => hs)
      (noteKeyboard_keeps hb fun _ _ hs => hs) fun _ _ hs => hs
  · exact .of_withRail hb fun _ _ hs => hs
  · refine ⟨fun s hs => ?_, fun s hs => ?_, fun k n rh rd pan ls s hs => ?_, fun s hs => hs⟩
    · exact storeVoices_muteBound _ (s.withOutput _) hs
    · exact storeVoices_muteBound _ (s.withOutput _) (muteStep_le hs _)
    · unfold cmdLoadMap
      dsimp only
      repeat' split
      all_goals exact hs
  · exact .of_withStore hb (fun _ _ hs => hs) (fun _ _ hs => hs) fun _ _ hs => hs
  · exact .of_withPlayer hb (fun _ _ hs => hs) (he.playback hb) (fun _ hs => hs) (fun _ hs => hs) (fun _ _ _ hs => hs)
      (fun _ hs => hs) fun _ _ _ hs => hs
  · exact .of_withEdit hb (fun _ _ hs => hs) fun _ _ hs => hs
  · refine ⟨fun _ _ hs => hs, fun _ _ _ => le_rfl, fun c v eng ret s hs => ?_, fun _ _ hs => hs⟩
    unfold endInitialization
    split
    · exact hs
    · show (if _ then 0 else 480) ≤ 480
      split <;> omega

/-! ### The Guide (R67, R161) -/

/-- The recent-press list and the expected set keep their capacities. -/
def GuideBound (s : State) : Prop := s.router.recent.length ≤ 10 ∧ s.guide.expected.card ≤ 10

theorem card_eq (ks : KeySet) : ks.card = (List.finRange 88).countP fun k => ks.mem k :=
  List.countP_eq_length_filter.symm

@[simp] theorem card_none : KeySet.none.card = 0 := by
  rw [card_eq]
  exact List.countP_eq_zero.2 fun k _ => by simp

theorem card_remove_le (ks : KeySet) (k : Key) : (ks.remove k).card ≤ ks.card := by
  rw [card_eq, card_eq]
  refine List.countP_mono_left fun j _ h => ?_
  rw [mem_remove, Bool.and_eq_true] at h
  exact h.2

/-- A list without repetitions holds a value at most once. -/
theorem countP_eq_le_one {α : Type} [DecidableEq α] {l : List α} (h : l.Nodup) (a : α) :
    (l.countP fun b => decide (a = b)) ≤ 1 := by
  have hc : (l.countP fun b => decide (a = b)) = l.count a := by
    unfold List.count
    congr 1
    funext b
    by_cases hab : a = b
    · simp [hab]
    · simp [hab, Ne.symm hab]
  rw [hc]
  exact List.nodup_iff_count_le_one.1 h a

theorem card_add_le (ks : KeySet) (k : Key) : (ks.add k).card ≤ ks.card + 1 := by
  rw [card_eq, card_eq]
  have hone := countP_eq_le_one (List.nodup_finRange 88) k
  have hsplit : ((List.finRange 88).countP fun j => (ks.add k).mem j) ≤
      ((List.finRange 88).countP fun j => ks.mem j) + (List.finRange 88).countP fun j => decide (k = j) := by
    induction List.finRange 88 with
    | nil => exact le_rfl
    | cons j l ih =>
      simp only [List.countP_cons, mem_add, Bool.or_eq_true]
      by_cases h1 : ks.mem j = true <;> by_cases h2 : decide (k = j) = true <;> simp only [mem_add] at ih <;>
        simp only [h1, h2, or_true, true_or, or_self, if_true] <;> omega
  exact hsplit.trans (Nat.add_le_add_left hone _)

theorem appendPress_length_le (p : Press) {l : List Press} (h : l.length ≤ 10) : (appendPress p l).length ≤ 10 := by
  unfold appendPress
  rw [List.length_append, List.length_singleton]
  split
  · rw [List.length_drop]
    omega
  · omega

theorem consult_length_le (now : W32) (grace : Nat) (k : Key) (l : List Press) :
    (consult now grace k l).2.length ≤ l.length :=
  (List.eraseP_sublist.length_le).trans (List.length_filter_le ..)

theorem keptByQuiet_guideBound : KeptByQuiet GuideBound :=
  .of_withLink (fun q h => by unfold GuideBound; rw [q.recent, q.guide]; exact h) fun _ _ hs => hs

theorem keptByEvents_guideBound : KeptByEvents GuideBound where
  engine := engineEvent_keeps keptByQuiet_guideBound fun _ _ hs => hs
  recorder := recorderEvent_keeps keptByQuiet_guideBound (fun _ _ hs => hs) fun _ _ hs => hs
  guide ev := by
    intro s hs
    have hexpect (k : Key) (c : Bool) : Keeps GuideBound (guideExpect k c) := by
      intro t ht
      unfold guideExpect
      repeat' split
      · exact ht
      · exact ht
      · rename_i hroom
        exact ⟨ht.1, (card_add_le _ k).trans hroom⟩
      · exact ht
    unfold guideEvent
    split
    · split
      · exact hexpect _ _ _ ⟨(consult_length_le ..).trans hs.1, hs.2⟩
      · exact hs
    all_goals exact hs
  offer k := by
    intro s hs
    unfold guideOffer
    split
    · exact releaseWait_keeps keptByQuiet_guideBound (fun _ _ h => h) _ ⟨hs.1, (card_remove_le _ k).trans hs.2⟩
    · exact ⟨appendPress_length_le _ hs.1, hs.2⟩

theorem keptByRows_guideBound : KeptByRows GuideBound := by
  have hb := keptByQuiet_guideBound
  have he := keptByEvents_guideBound
  refine { base := hb, events := fun _ _ => he.route hb _, keys := ?_, rail := ?_, voices := ?_, takes := ?_,
           player := ?_, edit := ?_, await := fun _ hs => hs, classes := fun _ _ hs => hs, time := ?_,
           link := .of_withLink fun _ _ hs => hs, settle := takeSettle_keeps hb fun _ _ hs => hs }
  · exact .of_withKeys hb (fun _ _ hs => hs) (fun _ _ => he.route hb _) (fun _ _ hs => hs)
      (noteKeyboard_keeps hb fun _ _ hs => hs) fun _ _ hs => hs
  · exact .of_withRail hb fun _ _ hs => hs
  · exact .of_withEngine hb (fun _ _ hs => hs) fun _ _ hs => hs
  · exact .of_withStore hb (fun _ _ hs => hs) (fun _ _ hs => hs) fun _ _ hs => hs
  · exact .of_withPlayer hb (fun _ _ hs => hs) (he.playback hb)
      (fun _ hs => ⟨hs.1, by simp [clearExpected, setExpected]⟩) (fun _ hs => ⟨Nat.zero_le 10, hs.2⟩)
      (fun _ _ _ hs => hs) (fun _ hs => hs) fun _ _ _ hs => hs
  · exact .of_withEdit hb (fun _ _ hs => hs) fun _ _ hs => hs
  · exact ⟨fun _ _ hs => hs, fun _ _ _ => ⟨Nat.zero_le 10, card_none.trans_le (Nat.zero_le 10)⟩,
      endInitialization_keeps hb (fun _ _ hs => hs) (fun _ _ hs => hs) fun _ hs => hs, fun _ _ hs => hs⟩

/-- Settles O21: each capacity along the step by its own lemma. -/
theorem stepsKeepTheCapacities : Obligations.StepsKeepTheCapacities := by
  rintro s t ⟨hnotices, hintake, hrecent, hexpected, hqueue, hmute⟩ ht
  obtain ⟨hnotices', hintake'⟩ := keptByRows_linkBound.step ht ⟨hnotices, hintake⟩
  obtain ⟨hrecent', hexpected'⟩ := keptByRows_guideBound.step ht ⟨hrecent, hexpected⟩
  exact ⟨hnotices', hintake', hrecent', hexpected', keptByRows_queueBound.step ht hqueue,
    keptByRows_muteBound.step ht hmute⟩

end Sys2Proof.Machine
end

section
/-! PROOFS. The law of the rail (R104, R110) along every step, and what a step that enters MOVING found: a rest state
meets the law whatever the keyboard is, a change of the keyboard-clear condition reaches the rail in the same step, and
MOVING is entered by a completed settle alone. -/

namespace Sys2Proof.Machine

open Sys2Proof.StepRows

/-! ### The law at a rail record -/

/-- The law of the rail at a record and a value of the keyboard-clear condition; MOVING stands only where `A` does. -/
def RailOk (A : Prop) (r : Rail) (clear : Bool) : Prop :=
  r.OutputLaw ∧ ((r.state = .waitClear ∨ r.state = .paused) → r.settle.isSome = clear) ∧
    (r.state = .moving → clear = true ∧ A)

/-- The law of the rail at a state, where MOVING stands only where `A` does. -/
def RailInv (A : Prop) (s : State) : Prop := RailOk A s.rail (keyboardClear s)

theorem railInv_iff {A : Prop} {s : State} :
    RailInv A s ↔ RailLaw s ∧ (s.rail.state = .moving → A) := by
  unfold RailInv RailOk
  constructor
  · rintro ⟨ho, hw, hm⟩
    exact ⟨⟨ho, hw, fun h => (hm h).1⟩, fun h => (hm h).2⟩
  · rintro ⟨⟨ho, hw, hm⟩, ha⟩
    exact ⟨ho, hw, fun h => ⟨hm h, ha h⟩⟩

/-- The states of a rail at rest: the move and the motor are off. -/
def RailState.atRest : RailState → Bool
  | .unknown | .retracted | .engaged | .fault => true
  | .waitClear | .moving | .paused => false

theorem enterRest_ok {A : Prop} {st : RailState} (h : st.atRest = true) (r : Rail) (why : Option FaultReason)
    (clear : Bool) : RailOk A (r.enterRest st why) clear := by
  refine ⟨⟨fun _ => ⟨rfl, rfl, rfl⟩, by simp [Rail.enterRest, Rail.motorOff], rfl⟩, fun hs => ?_, fun hs => ?_⟩
  · rcases hs with hs | hs <;> rw [show st = _ from hs] at h <;> cases h
  · rw [show st = _ from hs] at h
    cases h

/-- With the motor off, outside MOVING, only the settle is left to check. -/
theorem railOk_of_off {A : Prop} {r : Rail} {clear : Bool} (hm : r.state ≠ .moving)
    (ho : r.enable = false ∧ r.driveIn = false ∧ r.driveOut = false)
    (hs : (r.state = .waitClear ∨ r.state = .paused) → r.settle.isSome = clear) : RailOk A r clear := by
  obtain ⟨he, hi, hout⟩ := ho
  exact ⟨⟨fun _ => ⟨he, hi, hout⟩, by simp [hi], by simp [he, hi, hout]⟩, hs, fun h => absurd h hm⟩

/-- Driving the motor in MOVING with the keyboard clear. -/
theorem motorOn_ok {A : Prop} {r : Rail} {clear : Bool} (hs : r.state = .moving) (hc : clear = true) (ha : A) :
    RailOk A r.motorOn clear := by
  unfold Rail.motorOn
  split <;> simp [RailOk, Rail.OutputLaw, Rail.motorOff, hs, hc, ha]

/-! ### The Rail Controller's operations -/

section
variable {A : Prop} {s : State}

theorem railInv_base : KeptByQuiet (RailInv A) := by
  refine .of_withLink (fun {s t} q hs => ?_) fun _ _ hs => hs
  have hclear : keyboardClear t = keyboardClear s := by
    unfold keyboardClear
    rw [q.keys, q.lS1]
  unfold RailInv RailOk Rail.OutputLaw at hs ⊢
  rw [hclear, q.railState, q.settle, q.enable, q.driveIn, q.driveOut]
  exact hs

theorem railChange_inv {r : Rail} (h : RailOk A r (keyboardClear s)) (shown : Rail) (c : RailCause) (w : RailReason) :
    RailInv A (railChange r shown c w s) := h

theorem railMovesOn_inv {st : RailState} (h : st.atRest = true) (c : RailCause) (was : Rail) (s : State) :
    RailInv A (railMovesOn st c was s) := by
  obtain ⟨shown, -, he⟩ := railMovesOn_spec st c was s
  rw [he]
  exact railChange_inv (enterRest_ok h ..) ..

theorem railReturned_inv (og : RailOrigin) (was : Rail) (hs : RailInv A s) : RailInv A (railReturned og was s) := by
  unfold railReturned
  cases og <;> dsimp only <;> repeat' split
  · exact railMovesOn_inv rfl ..
  · exact railMovesOn_inv rfl ..
  · exact hs
  · exact hs
  · exact railMovesOn_inv rfl ..
  · exact hs
  · exact railMovesOn_inv rfl ..

theorem railReturn_inv (c : RailCause) (w : RailReason) (s : State) : RailInv A (railReturn c w s) :=
  railReturned_inv _ _ (railChange_inv (enterRest_ok (by cases s.rail.origin.getD .unknown <;> rfl) ..) ..)

theorem railArrive_inv (e : RailEnd) (s : State) : RailInv A (railArrive e s) :=
  railChange_inv (enterRest_ok (by cases e <;> rfl) ..) ..

theorem railFault_inv (why : FaultReason) (s : State) : RailInv A (railFault why s) :=
  railChange_inv (enterRest_ok rfl ..) ..

/-- The law at the keyboard-clear condition before a change, and the change told to the rail, give the law after it. -/
theorem noteKeyboard_inv {was : Bool} (h : RailOk A s.rail was) : RailInv A (noteKeyboard was s) := by
  obtain ⟨ho, hw, hm⟩ := h
  unfold noteKeyboard
  dsimp only
  split
  · rename_i heq
    exact ⟨ho, heq ▸ hw, heq ▸ hm⟩
  · rename_i hne
    unfold railKeyboard
    split
    · rename_i hs
      refine railOk_of_off (by simp [hs]) (ho.1 (by simp [hs])) fun _ => ?_
      show (if keyboardClear s then some 0 else none).isSome = keyboardClear s
      cases keyboardClear s <;> rfl
    · rename_i hs
      refine railOk_of_off (by simp [hs]) (ho.1 (by simp [hs])) fun _ => ?_
      show (if keyboardClear s then some 0 else none).isSome = keyboardClear s
      cases keyboardClear s <;> rfl
    · rename_i hs
      have hclear := (hm hs).1
      split
      · rename_i hnow
        exact absurd (hnow.trans hclear.symm) hne
      · rename_i hnow
        exact railChange_inv (railOk_of_off (by simp) ⟨rfl, rfl, rfl⟩ fun _ => by simp [hnow]) ..
    all_goals
      rename_i hs
      refine ⟨ho, ?_, ?_⟩ <;> simp [hs]

/-- Only a completed settle enters MOVING, and with the keyboard clear. -/
theorem takeSettle_inv (hs : RailInv A s) (ha : s.rail.settleDue = true → A) : RailInv A (takeSettle s) := by
  obtain ⟨ho, hw, hm⟩ := hs
  unfold takeSettle
  split
  · rename_i hdue
    have hclear : keyboardClear s = true := by
      unfold Rail.settleDue at hdue
      simp only [Bool.and_eq_true, decide_eq_true_eq] at hdue
      rw [← hw hdue.1]
      cases hset : s.rail.settle with
      | some n => rfl
      | none => rw [hset] at hdue; exact absurd hdue.2 Bool.false_ne_true
    have hmove : RailInv A (railMove s) := by
      unfold railMove
      dsimp only
      split <;> exact railChange_inv (motorOn_ok rfl hclear (ha hdue)) ..
    unfold railSettled
    repeat' split
    · exact railReturn_inv ..
    · exact railArrive_inv ..
    · exact hmove
    · exact hmove
  · exact ⟨ho, hw, hm⟩

theorem takeClearWait_inv (hs : RailInv A s) : RailInv A (takeClearWait s) := by
  unfold takeClearWait
  split
  · exact railReturn_inv ..
  · exact hs

theorem takeRunLimit_inv (hs : RailInv A s) : RailInv A (takeRunLimit s) := by
  unfold takeRunLimit
  split
  · exact railFault_inv ..
  · exact hs

theorem switchJudge_inv (e : RailEnd) (on : Bool) (hs : RailInv A s) : RailInv A (switchJudge e on s) := by
  unfold switchJudge railRest
  dsimp only
  split
  · split
    · exact railChange_inv (enterRest_ok rfl ..) ..
    · exact hs
  · split
    · exact railChange_inv (enterRest_ok rfl ..) ..
    · exact hs
  · split
    · exact railChange_inv (enterRest_ok (by cases e <;> rfl) ..) ..
    · exact hs
  · split
    · split
      · exact hs
      · exact hs
    · split
      · split
        · exact railArrive_inv ..
        · exact hs
      · exact hs
  · split
    · exact railArrive_inv ..
    · exact hs
  · split
    · exact railArrive_inv ..
    · exact hs
  · exact hs

theorem switchOne_inv (e : RailEnd) (on : Bool) (hs : RailInv A s) : RailInv A (switchOne e on s) := by
  unfold switchOne
  dsimp only
  split
  · exact railFault_inv ..
  · refine switchJudge_inv e on ?_
    cases e <;> exact hs

theorem switchLevels_inv (eng ret : Bool) (hs : RailInv A s) : RailInv A (switchLevels eng ret s) := by
  unfold switchLevels
  dsimp only
  repeat' split
  · exact hs
  · exact switchOne_inv _ _ hs
  · exact switchOne_inv _ _ hs
  · exact switchOne_inv _ _ (switchOne_inv _ _ hs)
  · exact switchOne_inv _ _ (switchOne_inv _ _ hs)
  · exact switchOne_inv _ _ (switchOne_inv _ _ hs)

theorem takeMeasureEvent_inv (e : MeasureEvent) (hs : RailInv A s) : RailInv A (takeMeasureEvent s e) := by
  cases e with
  | overcurrent =>
    dsimp only [takeMeasureEvent]
    split
    · exact railFault_inv ..
    · exact hs
  | switches eng ret => exact switchLevels_inv eng ret hs
  | clearWait => exact takeClearWait_inv hs
  | runLimit => exact takeRunLimit_inv hs

theorem read_inv (c v : Nat) (eng ret : Bool) (hs : RailInv A s) :
    RailInv A (s.withRail (s.rail.read c v eng ret).1) := by
  unfold Rail.read Rail.countCurrent
  dsimp only
  split <;> exact hs

theorem railBegin_inv {e : RailEnd} {og : RailOrigin} (hs : RailInv A s) (hm : s.rail.state ≠ .moving) :
    RailInv A (railBegin e og s) := by
  show RailOk A (s.rail.startWait e og (keyboardClear s)) (keyboardClear s)
  refine railOk_of_off (fun h => by cases h) (hs.1.1 hm) fun _ => ?_
  show (if keyboardClear s then some 0 else none).isSome = keyboardClear s
  cases keyboardClear s <;> rfl

theorem railReverse_inv (e : RailEnd) (hs : RailInv A s) (hm : s.rail.state = .moving) :
    RailInv A (railReverse e s) := by
  unfold railReverse
  dsimp only
  split
  · exact railArrive_inv ..
  · obtain ⟨hclear, ha⟩ := hs.2.2 hm
    exact railChange_inv (motorOn_ok (r := { s.rail with
      target := some e, direction := some e.direction, runUs := 0, overCount := 0 }) hm hclear ha) ..

theorem railUnderWay_inv (e : RailEnd) (hs : RailInv A s) : RailInv A (railUnderWay e s) := by
  unfold railUnderWay
  dsimp only
  split
  · exact hs
  · split
    · split
      · exact railReturn_inv (A := A) ..
      · exact hs
    · rename_i hm
      exact railReverse_inv e hs hm
    · exact hs

theorem cmdRail_inv (t : Byte) (hs : RailInv A s) : RailInv A (cmdRail t s) := by
  unfold cmdRail
  split
  · exact hs
  · split
    · rename_i hst
      split
      · exact hs
      · exact railBegin_inv hs (by simp [hst])
    · rename_i hst
      split
      · exact hs
      · exact railBegin_inv hs (by simp [hst])
    · rename_i hst
      exact railBegin_inv hs (by simp [hst])
    · exact hs
    all_goals exact railUnderWay_inv _ hs

theorem switchState_atRest (r : Rail) : r.switchState.atRest = true := by
  unfold Rail.switchState
  split <;> rfl

theorem cmdRailClear_inv (hs : RailInv A s) : RailInv A (cmdRailClear s) := by
  unfold cmdRailClear
  dsimp only
  split
  · exact enterRest_ok (switchState_atRest _) ..
  · exact hs

end

/-! ### Along every step -/

section
variable (A : Prop)

theorem keptByRail_railInv : KeptByRail (RailInv A) where
  measurement c v eng ret _ hs :=
    takeMeasureEvents_keeps railInv_base (fun e _ ht => takeMeasureEvent_inv e ht) _ _ _ (read_inv c v eng ret hs)
  switchEvent eng ret := by
    intro s hs
    unfold takeSwitchEvent
    split
    · exact hs
    · exact switchLevels_inv eng ret hs
  clearWait _ hs := takeClearWait_inv hs
  runLimit _ hs := takeRunLimit_inv hs
  rail t _ hs := cmdRail_inv t hs
  railClear _ hs := cmdRailClear_inv hs

theorem advance_railInv (n : Nat) : Keeps (RailInv A) (advance n) := by
  rintro s ⟨ho, hw, hm⟩
  refine ⟨ho, fun h => ?_, hm⟩
  show (s.rail.settle.map _).isSome = keyboardClear s
  rw [Option.isSome_map]
  exact hw h

/-- A step of the keys that leaves the rail as it was, and then the change of the keyboard-clear condition. -/
theorem noteKeyboard_of_rail_eq {s t : State} (hs : RailInv A s) (h : t.rail = s.rail) :
    RailInv A (noteKeyboard (keyboardClear s) t) := noteKeyboard_inv (h ▸ hs)

theorem recalibrate_rail (k : Key) (r : KeyRecord) (s : State) : (recalibrate k r s).rail = s.rail := by
  unfold recalibrate
  dsimp only
  split
  · exact (keyEvent_frame ..).rail
  · rfl

theorem foldl_rail {α : Type} {f : State → α → State} (hf : ∀ s a, (f s a).rail = s.rail) (l : List α) (s : State) :
    (l.foldl f s).rail = s.rail :=
  Keeps.foldl (P := fun t => t.rail = s.rail) (fun a t ht => (hf t a).trans ht) l s rfl

theorem keptByKeys_railInv : KeptByKeys (RailInv A) where
  keySample k raw stamp := by
    intro s hs
    have hc : RailInv A (catchUp stamp s) := by
      rcases catchUp_cases stamp s with hc | ⟨n, hc⟩ <;> rw [hc]
      · exact hs
      · exact advance_railInv A n s hs
    rw [takeKeySample_eq]
    refine noteKeyboard_of_rail_eq A hc ?_
    rw [(keyFaultNotice_frame ..).rail]
    exact foldl_rail (fun s a => (keyEvent_frame ..).rail) _ _
  loadCal lo hi ps := by
    intro s hs
    unfold cmdLoadCal
    dsimp only
    repeat' split
    · exact hs
    · exact hs
    · exact hs
    · exact noteKeyboard_of_rail_eq A hs (foldl_rail (fun s a => recalibrate_rail ..) _ _)
  calStart lo hi := by
    intro s hs
    unfold cmdCalStart
    dsimp only
    split
    · exact hs
    · exact noteKeyboard_of_rail_eq A hs (foldl_rail (fun s a => recalibrate_rail ..) _ _)
  calEnd := by
    intro s hs
    unfold cmdCalEnd
    dsimp only
    split
    · exact hs
    · exact noteKeyboard_of_rail_eq A hs (foldl_rail (f := fun s k => s.withKey k (judgeCapture (s.keys.get k)).2)
        (fun _ _ => rfl) _ _)
  setTouch a b c d h t := by
    intro s hs
    unfold cmdSetTouch
    dsimp only
    split
    · exact noteKeyboard_of_rail_eq A hs rfl
    · exact hs

theorem keptBesidesSettle_railInv : KeptBesidesSettle (RailInv A) := by
  have hb : KeptByQuiet (RailInv A) := railInv_base
  have he : KeptByEvents (RailInv A) := by
    refine ⟨?_, ?_, ?_, ?_⟩
    · exact engineEvent_keeps hb fun _ _ hs => hs
    · exact recorderEvent_keeps hb (fun _ _ hs => hs) fun _ _ hs => hs
    · exact guideEvent_keeps hb (fun _ _ hs => hs) fun _ _ hs => hs
    · exact guideOffer_keeps hb (fun _ _ hs => hs) (fun _ _ hs => hs) fun _ _ hs => hs
  refine { base := hb, events := fun _ _ => he.route hb _, keys := keptByKeys_railInv A, rail := keptByRail_railInv A,
           voices := ?_, takes := ?_, player := ?_, edit := ?_, await := fun _ hs => hs, classes := fun _ _ hs => hs,
           time := ?_, link := .of_withLink fun _ _ hs => hs }
  · exact .of_withEngine hb (fun _ _ hs => hs) fun _ _ hs => hs
  · exact .of_withStore hb (fun _ _ hs => hs) (fun _ _ hs => hs) fun _ _ hs => hs
  · exact .of_withPlayer hb (fun _ _ hs => hs) (he.playback hb) (fun _ hs => hs) (fun _ hs => hs) (fun _ _ _ hs => hs)
      (fun _ hs => hs) fun _ _ _ hs => hs
  · exact .of_withEdit hb (fun _ _ hs => hs) fun _ _ hs => hs
  · refine ⟨advance_railInv A, fun _ _ _ => ?_, fun c v eng ret s hs => ?_, fun _ _ hs => hs⟩
    · exact railOk_of_off (fun h => by cases h) ⟨rfl, rfl, rfl⟩ fun h => by rcases h with h | h <;> cases h
    · unfold endInitialization
      split
      · exact hs
      · exact enterRest_ok (switchState_atRest _) ..

end

/-- Settles O50, with `A` read as "the rail was in MOVING or its settle had completed": every operation but a completed
settle keeps the law with `A`, and that one finds `A`. -/
theorem stepsKeepTheRailLaw : Obligations.StepsKeepTheRailLaw := by
  intro s t hs ht
  let A : Prop := s.rail.state = .moving ∨ s.rail.settleDue = true
  have hA : RailInv A s := railInv_iff.2 ⟨hs, .inl⟩
  have hk := keptBesidesSettle_railInv A
  have hT : RailInv A t := by
    rcases step_cases ht with ⟨-, rfl⟩ | ⟨i, rest, -, rfl⟩
    · exact (advance_railInv A 1).ite (fun s => s.running = true) s hA
    · refine hk.toKeptByCommands.pump hk.link _ ?_
      by_cases hi : i = .settleComplete
      · subst hi
        show RailInv A (whenRunning takeSettle _)
        unfold whenRunning
        split
        · exact takeSettle_inv (s := { s with pending := rest }) hA .inr
        · exact hA
      · exact hk.rowAct hi _ hA
  obtain ⟨hlaw, hmove⟩ := railInv_iff.1 hT
  refine ⟨hlaw, fun hbefore hafter => ?_⟩
  have hdue := (hmove hafter).resolve_left hbefore
  unfold Rail.settleDue at hdue
  simp only [Bool.and_eq_true, decide_eq_true_eq] at hdue
  obtain ⟨hst, hset⟩ := hdue
  cases hn : s.rail.settle with
  | none => rw [hn] at hset; exact absurd hset Bool.false_ne_true
  | some n =>
    rw [hn] at hset
    exact ⟨hst, by rw [← hs.2.1 hst, hn]; rfl, n, rfl, of_decide_eq_true hset⟩

end Sys2Proof.Machine
end

section
/-! PROOFS. The Event Router (chapter 4): the destinations of an event, and its delivery. Each delivery acts on state of
its own, so in whatever order they come each block is as its own delivery alone leaves it, and the notices are those of
the deliveries in that order. -/

namespace Sys2Proof.Machine

open Sys2Proof.StepRows

/-! ### The members of a destination set -/

/-- A member of a destination set (R56). -/
inductive Member where
  | engine | recorder | notify | guide

/-- The delivery of an event to a member (R64). -/
def Member.act (ev : Event) : Member → State → State
  | .engine => engineEvent ev
  | .recorder => recorderEvent ev
  | .notify => notifyEvent ev
  | .guide => guideEvent ev

/-- The members of a set in the order the deliveries are listed. -/
def Dests.members (d : Dests) : List Member :=
  (if d.engine then [.engine] else []) ++ (if d.recorder then [.recorder] else []) ++
    (if d.notify then [.notify] else []) ++ (if d.guide then [.guide] else [])

theorem deliveries_eq (d : Dests) (ev : Event) : deliveries d ev = d.members.map (Member.act ev) := by
  unfold deliveries Dests.members
  cases d.engine <;> cases d.recorder <;> cases d.notify <;> cases d.guide <;> rfl

theorem members_nodup (d : Dests) : d.members.Nodup := by
  unfold Dests.members
  cases d.engine <;> cases d.recorder <;> cases d.notify <;> cases d.guide <;> simp

theorem mem_members (d : Dests) (m : Member) :
    m ∈ d.members ↔ (match m with
      | .engine => d.engine | .recorder => d.recorder | .notify => d.notify | .guide => d.guide) = true := by
  unfold Dests.members
  cases d.engine <;> cases d.recorder <;> cases d.notify <;> cases d.guide <;> cases m <;> simp

/-! ### Deliveries on states that agree -/

/-- A relation of states that replacing the Recorder's blocks and notices keep, and under which the Recorder reads the
same. -/
structure RecorderAgrees (R : State → State → Prop) : Prop where
  store : ∀ {s t}, R s t → t.store = s.store
  recorder : ∀ {s t}, R s t → t.recorder = s.recorder
  us : ∀ {s t}, R s t → t.clock.us = s.clock.us
  raise : ∀ b {s t}, R s t → R (raise b s) (raise b t)
  withStore : ∀ x {s t}, R s t → R (s.withStore x) (t.withStore x)
  withRecorder : ∀ x {s t}, R s t → R (s.withRecorder x) (t.withRecorder x)

section
variable {R : State → State → Prop} (h : RecorderAgrees R)
include h

theorem RecorderAgrees.endRecording (r : Recording) (c : RecordEndCause) (time : Nat) {s t : State} (hr : R s t) :
    R (endRecording r c time s) (endRecording r c time t) := by
  unfold Machine.endRecording
  rw [h.store hr]
  exact h.raise _ (h.withRecorder _ (h.withStore _ hr))

theorem RecorderAgrees.recordBody (r : Recording) (time : Nat) (b : Body) {s t : State} (hr : R s t) :
    R (recordBody r time b s) (recordBody r time b t) := by
  unfold Machine.recordBody
  rw [h.store hr]
  split
  · exact h.withRecorder _ (h.withStore _ hr)
  · exact h.endRecording _ _ _ hr

theorem RecorderAgrees.recordGap {s t : State} (hr : R s t) : R (recordGap s) (recordGap t) := by
  unfold Machine.recordGap
  rw [h.recorder hr]
  split
  · exact hr
  · exact h.recordBody _ _ _ hr

theorem RecorderAgrees.recordOverdueGaps (time : Nat) {s t : State} (hr : R s t) :
    R (recordOverdueGaps time s) (recordOverdueGaps time t) := by
  have gaps : ∀ n {s t}, R s t → R (recordGaps n s) (recordGaps n t) := by
    intro n
    induction n with
    | zero => exact fun hr => hr
    | succ n ih => exact fun hr => ih (h.recordGap hr)
  unfold Machine.recordOverdueGaps
  rw [h.recorder hr]
  split
  · exact hr
  · exact gaps _ hr

theorem RecorderAgrees.recorderEvent (ev : Event) {s t : State} (hr : R s t) :
    R (recorderEvent ev s) (recorderEvent ev t) := by
  unfold Machine.recorderEvent
  rw [h.recorder hr, h.us hr]
  split
  · exact hr
  · rename_i r0 _
    split
    · exact hr
    · have hg := h.recordOverdueGaps (r0.eventTime s.clock.us ev.stamp) hr
      dsimp only
      rw [h.recorder hg]
      split
      · exact hg
      · split
        · exact hg
        · exact h.recordBody _ _ _ hg

end

/-- A relation of states that replacing the engine and notices keep, and under which the engine reads the same. -/
theorem engineEvent_agrees {R : State → State → Prop} (he : ∀ {s t}, R s t → t.engine = s.engine)
    (hb : ∀ b {s t}, R s t → R (raise b s) (raise b t)) (hw : ∀ x {s t}, R s t → R (s.withEngine x) (t.withEngine x))
    (ev : Event) {s t : State} (hr : R s t) : R (engineEvent ev s) (engineEvent ev t) := by
  have raises : ∀ (ns : List NoticeBody) {s t}, R s t →
      R (ns.foldl (fun s n => Machine.raise n s) s) (ns.foldl (fun s n => Machine.raise n s) t) := by
    intro ns
    induction ns with
    | nil => exact fun hr => hr
    | cons n ns ih => exact fun hr => ih (hb n hr)
  unfold engineEvent
  rw [he hr]
  cases ev.kind with
  | noteOn k v r => exact raises _ (hw _ hr)
  | soft v => exact hr
  | noteOff k f => exact hw _ hr
  | silentPress k => exact hw _ hr
  | damper v => exact hw _ hr
  | sostOn => exact hw _ hr
  | sostOff => exact hw _ hr

/-- A relation of states that replacing the Guide's blocks and notices keep, and under which the Guide reads the
same. -/
theorem guideEvent_agrees {R : State → State → Prop} (hg : ∀ {s t}, R s t → t.guide = s.guide)
    (ho : ∀ {s t}, R s t → t.router = s.router) (hms : ∀ {s t}, R s t → t.clock.ms = s.clock.ms)
    (hb : ∀ b {s t}, R s t → R (raise b s) (raise b t)) (hwg : ∀ x {s t}, R s t → R (s.withGuide x) (t.withGuide x))
    (hwr : ∀ x {s t}, R s t → R (s.withRouter x) (t.withRouter x)) (ev : Event) {s t : State} (hr : R s t) :
    R (guideEvent ev s) (guideEvent ev t) := by
  have expect (k : Key) (c : Bool) {s t : State} (hr : R s t) : R (guideExpect k c s) (guideExpect k c t) := by
    unfold guideExpect setExpected
    rw [hg hr]
    repeat' split
    · exact hb _ hr
    · exact hb _ hr
    · exact hb _ (hwg _ hr)
    · exact hb _ hr
  unfold guideEvent guideWaitOn setRecent
  rw [hg hr, ho hr, hms hr]
  split
  · split
    · exact expect _ _ (hwr _ hr)
    · exact hb _ hr
  · exact hb _ hr
  all_goals exact hr

/-! ### Each delivery acts on state of its own -/

theorem act_withChoices (ev : Event) (m : Member) (s : State) (c : Nat) :
    m.act ev (s.withChoices c) = (m.act ev s).withChoices c := by
  let R : State → State → Prop := fun s t => t = s.withChoices c
  cases m with
  | engine =>
    refine engineEvent_agrees (R := R) ?_ ?_ ?_ ev rfl <;> · intros; subst_vars; rfl
  | recorder =>
    have h : RecorderAgrees R := by constructor <;> · intros; subst_vars; rfl
    exact h.recorderEvent ev rfl
  | notify =>
    show notifyEvent ev _ = (notifyEvent ev s).withChoices c
    unfold notifyEvent
    split <;> rfl
  | guide =>
    refine guideEvent_agrees (R := R) ?_ ?_ ?_ ?_ ?_ ?_ ev rfl <;> · intros; subst_vars; rfl

/-- The engine after a delivery to it depends on the engine alone. -/
theorem engineEvent_engine (ev : Event) {s t : State} (h : t.engine = s.engine) :
    (engineEvent ev t).engine = (engineEvent ev s).engine :=
  engineEvent_agrees (R := fun s t => t.engine = s.engine) (fun h => h) (fun _ _ _ h => h) (fun _ _ _ _ => rfl) ev h

/-- What the Recorder reads. -/
def SameRecorder (s t : State) : Prop :=
  t.store = s.store ∧ t.recorder = s.recorder ∧ t.clock.us = s.clock.us

theorem recorderEvent_same (ev : Event) {s t : State} (h : SameRecorder s t) :
    SameRecorder (recorderEvent ev s) (recorderEvent ev t) := by
  have hR : RecorderAgrees SameRecorder :=
    ⟨fun h => h.1, fun h => h.2.1, fun h => h.2.2, fun _ _ _ h => h, fun _ _ _ h => ⟨rfl, h.2⟩,
      fun _ _ _ h => ⟨h.1, rfl, h.2.2⟩⟩
  exact hR.recorderEvent ev h

/-- What the Guide reads. -/
def SameGuide (s t : State) : Prop := t.guide = s.guide ∧ t.router = s.router ∧ t.clock.ms = s.clock.ms

theorem guideEvent_same (ev : Event) {s t : State} (h : SameGuide s t) :
    SameGuide (guideEvent ev s) (guideEvent ev t) :=
  guideEvent_agrees (R := SameGuide) (fun h => h.1) (fun h => h.2.1) (fun h => h.2.2) (fun _ _ _ h => h)
    (fun _ _ _ h => ⟨rfl, h.2⟩) (fun _ _ _ h => ⟨h.1, rfl, h.2.2⟩) ev h

theorem engineEvent_only (ev : Event) (s : State) : (((engineEvent ev s).withEngine s.engine).withLink s.link) = s := by
  have raises : ∀ (ns : List NoticeBody) (t : State),
      ((ns.foldl (fun s n => raise n s) t).withEngine s.engine).withLink s.link =
        (t.withEngine s.engine).withLink s.link := by
    intro ns
    induction ns with
    | nil => exact fun _ => rfl
    | cons n ns ih => exact fun t => ih _
  unfold engineEvent
  cases ev.kind with
  | noteOn k v r => exact raises _ _
  | _ => rfl

theorem recorderEvent_only (ev : Event) (s : State) :
    (((recorderEvent ev s).withStore s.store).withRecorder s.recorder).withLink s.link = s := by
  let P : State → Prop := fun t => ((t.withStore s.store).withRecorder s.recorder).withLink s.link = s
  have hst : ∀ x, Keeps P fun t => t.withStore x := fun _ _ h => h
  have hrec : ∀ x, Keeps P fun t => t.withRecorder x := fun _ _ h => h
  have body (r : Recording) (time : Nat) (b : Body) : Keeps P (recordBody r time b) := by
    intro t ht
    unfold recordBody
    split
    · exact ht
    · exact ht
  have gap : Keeps P recordGap := by
    intro t ht
    unfold recordGap
    split
    · exact ht
    · exact body _ _ _ t ht
  have gaps := recordOverdueGaps_keeps gap
  have hs : P s := rfl
  show P (recorderEvent ev s)
  unfold recorderEvent
  split
  · exact hs
  · split
    · exact hs
    · dsimp only
      split
      · exact gaps _ s hs
      · split
        · exact gaps _ s hs
        · exact body _ _ _ _ (gaps _ s hs)

theorem guideEvent_only (ev : Event) (s : State) :
    (((guideEvent ev s).withGuide s.guide).withRouter s.router).withLink s.link = s := by
  let P : State → Prop := fun t => ((t.withGuide s.guide).withRouter s.router).withLink s.link = s
  have hb (b : NoticeBody) : Keeps P (raise b) := fun _ h => h
  have expect (k : Key) (c : Bool) : Keeps P (guideExpect k c) := by
    intro t ht
    unfold guideExpect
    repeat' split
    · exact hb _ _ ht
    · exact hb _ _ ht
    · exact hb _ _ (ht : P (setExpected _ t))
    · exact hb _ _ ht
  have hs : P s := rfl
  show P (guideEvent ev s)
  unfold guideEvent
  split
  · split
    · exact expect _ _ _ (hs : P (setRecent _ s))
    · exact hb _ _ hs
  · exact hb _ _ hs
  all_goals exact hs

theorem notifyEvent_only (ev : Event) (s : State) : (notifyEvent ev s).withLink s.link = s := by
  unfold notifyEvent
  split <;> rfl

/-! ### The order of the deliveries -/

/-- Deliveries in turn. -/
def deliverIn (ev : Event) (ms : List Member) (s : State) : State := ms.foldl (fun x m => m.act ev x) s

theorem deliverIn_cons (ev : Event) (m : Member) (ms : List Member) (s : State) :
    deliverIn ev (m :: ms) s = deliverIn ev ms (m.act ev s) := rfl

theorem deliverIn_withChoices (ev : Event) (ms : List Member) (s : State) (c : Nat) :
    deliverIn ev ms (s.withChoices c) = (deliverIn ev ms s).withChoices c := by
  induction ms generalizing s with
  | nil => rfl
  | cons m ms ih => rw [deliverIn_cons, act_withChoices, ih, deliverIn_cons]

/-- The deliveries drawn come in some order, each once. -/
theorem deliverFreely_order (ev : Event) : ∀ (n : Nat) (ms : List Member) (s : State), ms.length ≤ n →
    ∃ order c, order.Perm ms ∧
      deliverFreely n (ms.map (Member.act ev)) s = (deliverIn ev order s).withChoices c
  | 0, ms, s, h => by
    obtain rfl : ms = [] := List.length_eq_zero_iff.1 (Nat.le_zero.1 h)
    exact ⟨[], s.choices, .nil, rfl⟩
  | n + 1, [], s, _ => ⟨[], s.choices, .nil, rfl⟩
  | n + 1, [m], s, _ => ⟨[m], (m.act ev s).choices, .refl _, rfl⟩
  | n + 1, m :: m' :: ms, s, h => by
    generalize hl : m :: m' :: ms = l at h
    have hpos : 0 < l.length := by rw [← hl]; exact Nat.zero_lt_succ _
    have hc : Config.pick s.choices % l.length < l.length := Nat.mod_lt _ hpos
    generalize hcdef : Config.pick s.choices % l.length = c at hc
    have hfree : deliverFreely (n + 1) (l.map (Member.act ev)) s =
        deliverFreely n ((l.eraseIdx c).map (Member.act ev)) (l[c].act ev (s.withChoices (s.choices + 1))) := by
      subst hl
      have hget : (List.map (Member.act ev) (m :: m' :: ms)).getD c id = Member.act ev (m :: m' :: ms)[c] := by
        rw [List.getD_eq_getElem?_getD, List.getElem?_map, List.getElem?_eq_getElem hc]
        rfl
      show deliverFreely n ((List.map (Member.act ev) (m :: m' :: ms)).eraseIdx
          (Config.pick s.choices % (List.map (Member.act ev) (m :: m' :: ms)).length))
        ((List.map (Member.act ev) (m :: m' :: ms)).getD
          (Config.pick s.choices % (List.map (Member.act ev) (m :: m' :: ms)).length) id
          (s.withChoices (s.choices + 1))) = _
      rw [List.length_map, hcdef, List.eraseIdx_map, hget]
    have hlen : (l.eraseIdx c).length ≤ n := by
      rw [List.length_eraseIdx_of_lt hc]
      omega
    obtain ⟨order, d, hperm, heq⟩ := deliverFreely_order ev n (l.eraseIdx c) (l[c].act ev (s.withChoices (s.choices + 1))) hlen
    refine ⟨l[c] :: order, d, ?_, ?_⟩
    · exact (List.Perm.cons _ hperm).trans (List.getElem_cons_eraseIdx_perm hc)
    · rw [hfree, heq, act_withChoices, deliverIn_withChoices, deliverIn_cons]
      rfl

/-- An event is delivered to each member of the set once, in some order; when at most one of the deliveries places a
notice, in the order of the list and with no choice drawn. -/
theorem deliver_order (d : Dests) (ev : Event) (s : State) :
    ∃ order c, order.Perm d.members ∧ deliver d ev s = (deliverIn ev order s).withChoices c ∧
      (((deliveries d ev).filter fun f => decide ((f s).link ≠ s.link)).length ≤ 1 →
        deliver d ev s = deliverIn ev d.members s) := by
  have hin : (deliveries d ev).foldl (fun s f => f s) s = deliverIn ev d.members s := by
    rw [deliveries_eq, List.foldl_map]
    rfl
  unfold deliver
  dsimp only
  split
  · rename_i hfree
    obtain ⟨order, c, hperm, heq⟩ := deliverFreely_order ev (deliveries d ev).length d.members s
      (by rw [deliveries_eq, List.length_map])
    refine ⟨order, c, hperm, ?_, fun hfew => ?_⟩
    · rw [← heq, deliveries_eq]
    · rw [← List.countP_eq_length_filter] at hfew
      exact absurd hfree.2 (Nat.not_lt.2 hfew)
  · exact ⟨d.members, (deliverIn ev d.members s).choices, .refl _, hin, fun _ => hin⟩

/-! ### What the deliveries leave in each block -/

section
variable (ev : Event)

theorem act_engine (m : Member) (s : State) (h : m ≠ .engine) : (m.act ev s).engine = s.engine := by
  cases m with
  | engine => exact absurd rfl h
  | recorder => exact (congrArg State.engine (recorderEvent_only ev s) :)
  | notify => exact (congrArg State.engine (notifyEvent_only ev s) :)
  | guide => exact (congrArg State.engine (guideEvent_only ev s) :)

theorem act_sameRecorder (m : Member) (s : State) (h : m ≠ .recorder) : SameRecorder s (m.act ev s) := by
  cases m with
  | recorder => exact absurd rfl h
  | engine =>
    have := engineEvent_only ev s
    exact ⟨(congrArg State.store this :), (congrArg State.recorder this :), (congrArg (fun s => s.clock.us) this :)⟩
  | notify =>
    have := notifyEvent_only ev s
    exact ⟨(congrArg State.store this :), (congrArg State.recorder this :), (congrArg (fun s => s.clock.us) this :)⟩
  | guide =>
    have := guideEvent_only ev s
    exact ⟨(congrArg State.store this :), (congrArg State.recorder this :), (congrArg (fun s => s.clock.us) this :)⟩

theorem act_sameGuide (m : Member) (s : State) (h : m ≠ .guide) : SameGuide s (m.act ev s) := by
  cases m with
  | guide => exact absurd rfl h
  | engine =>
    have := engineEvent_only ev s
    exact ⟨(congrArg State.guide this :), (congrArg State.router this :), (congrArg (fun s => s.clock.ms) this :)⟩
  | notify =>
    have := notifyEvent_only ev s
    exact ⟨(congrArg State.guide this :), (congrArg State.router this :), (congrArg (fun s => s.clock.ms) this :)⟩
  | recorder =>
    have := recorderEvent_only ev s
    exact ⟨(congrArg State.guide this :), (congrArg State.router this :), (congrArg (fun s => s.clock.ms) this :)⟩

/-- The blocks no delivery reaches. -/
theorem act_rest (m : Member) (s : State) :
    { m.act ev s with
      engine := s.engine, recorder := s.recorder, store := s.store, router := s.router, guide := s.guide
      link := s.link } = s := by
  let f : State → State := fun t => { t with
    engine := s.engine, recorder := s.recorder, store := s.store, router := s.router, guide := s.guide
    link := s.link }
  cases m with
  | engine => exact (congrArg f (engineEvent_only ev s) :)
  | recorder => exact (congrArg f (recorderEvent_only ev s) :)
  | notify => exact (congrArg f (notifyEvent_only ev s) :)
  | guide => exact (congrArg f (guideEvent_only ev s) :)

theorem deliverIn_rest (ms : List Member) (s : State) :
    { deliverIn ev ms s with
      engine := s.engine, recorder := s.recorder, store := s.store, router := s.router, guide := s.guide
      link := s.link } = s := by
  induction ms generalizing s with
  | nil => rfl
  | cons m ms ih =>
    have hm := congrArg (fun t : State => { t with
      engine := s.engine, recorder := s.recorder, store := s.store, router := s.router, guide := s.guide
      link := s.link }) (ih (m.act ev s))
    exact hm.trans (act_rest ev m s)

theorem deliverIn_engine {ms : List Member} (hn : ms.Nodup) (s : State) :
    (Member.engine ∈ ms → (deliverIn ev ms s).engine = (engineEvent ev s).engine) ∧
      (Member.engine ∉ ms → (deliverIn ev ms s).engine = s.engine) := by
  induction ms generalizing s with
  | nil => simp [deliverIn]
  | cons m ms ih =>
    obtain ⟨hm, hms⟩ := List.nodup_cons.1 hn
    obtain ⟨hin, hout⟩ := ih hms (m.act ev s)
    by_cases he : m = .engine
    · subst he
      exact ⟨fun _ => hout hm, fun h => absurd List.mem_cons_self h⟩
    · have hs := act_engine ev m s he
      refine ⟨fun h => ?_, fun h => ?_⟩
      · rw [deliverIn_cons, hin ((List.mem_cons.1 h).resolve_left (Ne.symm he)), engineEvent_engine ev hs]
      · rw [deliverIn_cons, hout fun h' => h (List.mem_cons_of_mem m h'), hs]

theorem deliverIn_recorder {ms : List Member} (hn : ms.Nodup) (s : State) :
    (Member.recorder ∈ ms → SameRecorder (recorderEvent ev s) (deliverIn ev ms s)) ∧
      (Member.recorder ∉ ms → SameRecorder s (deliverIn ev ms s)) := by
  have trans {a b c : State} (h : SameRecorder a b) (k : SameRecorder b c) : SameRecorder a c :=
    ⟨k.1.trans h.1, k.2.1.trans h.2.1, k.2.2.trans h.2.2⟩
  induction ms generalizing s with
  | nil => exact ⟨fun h => absurd h List.not_mem_nil, fun _ => ⟨rfl, rfl, rfl⟩⟩
  | cons m ms ih =>
    obtain ⟨hm, hms⟩ := List.nodup_cons.1 hn
    obtain ⟨hin, hout⟩ := ih hms (m.act ev s)
    by_cases he : m = .recorder
    · subst he
      exact ⟨fun _ => hout hm, fun h => absurd List.mem_cons_self h⟩
    · have hs := act_sameRecorder ev m s he
      refine ⟨fun h => ?_, fun h => ?_⟩
      · exact trans (recorderEvent_same ev hs) (hin ((List.mem_cons.1 h).resolve_left (Ne.symm he)))
      · exact trans hs (hout fun h' => h (List.mem_cons_of_mem m h'))

theorem deliverIn_guide {ms : List Member} (hn : ms.Nodup) (s : State) :
    (Member.guide ∈ ms → SameGuide (guideEvent ev s) (deliverIn ev ms s)) ∧
      (Member.guide ∉ ms → SameGuide s (deliverIn ev ms s)) := by
  have trans {a b c : State} (h : SameGuide a b) (k : SameGuide b c) : SameGuide a c :=
    ⟨k.1.trans h.1, k.2.1.trans h.2.1, k.2.2.trans h.2.2⟩
  induction ms generalizing s with
  | nil => exact ⟨fun h => absurd h List.not_mem_nil, fun _ => ⟨rfl, rfl, rfl⟩⟩
  | cons m ms ih =>
    obtain ⟨hm, hms⟩ := List.nodup_cons.1 hn
    obtain ⟨hin, hout⟩ := ih hms (m.act ev s)
    by_cases he : m = .guide
    · subst he
      exact ⟨fun _ => hout hm, fun h => absurd List.mem_cons_self h⟩
    · have hs := act_sameGuide ev m s he
      refine ⟨fun h => ?_, fun h => ?_⟩
      · exact trans (guideEvent_same ev hs) (hin ((List.mem_cons.1 h).resolve_left (Ne.symm he)))
      · exact trans hs (hout fun h' => h (List.mem_cons_of_mem m h'))

end

end Sys2Proof.Machine
end

section
/-! PROOFS. The Event Router (chapter 4): the route table, the final destination set, and the delivery of an event. -/

namespace Sys2Proof.Machine

open Sys2Proof.StepRows

/-! ### The routed set -/

theorem covers_iff (r : Route) (ev : Event) :
    r.covers ev = true ↔ r.enabled = true ∧ (ev.source = .live → r.live = true) ∧
      (ev.source = .playback → r.playback = true) ∧ r.kinds.getLsbD ev.kind.code = true ∧
      ∀ k, ev.kind.key? = some k → r.keyLow ≤ k.val ∧ k.val ≤ r.keyHigh := by
  unfold Route.covers
  cases ev.source <;> cases ev.kind.key? <;> simp [and_assoc]

theorem routedSet_default (routes : Vector Route 16) (ev : Event)
    (h : ∀ i : Fin 16, (routes.get i).covers ev = false) : routedSet routes ev = defaultDests ev.source := by
  have hnone : (routes.toList.find? fun r => r.covers ev) = none := by
    refine List.find?_eq_none.2 fun r hr => ?_
    obtain ⟨i, hi, rfl⟩ := List.mem_iff_getElem.1 hr
    have hi' : i < 16 := by simpa using hi
    exact ne_true_of_eq_false (h ⟨i, hi'⟩)
  rw [routedSet, hnone]

theorem routedSet_first (routes : Vector Route 16) (ev : Event) (i : Fin 16) (hi : (routes.get i).covers ev = true)
    (hj : ∀ j : Fin 16, j < i → (routes.get j).covers ev = false) :
    routedSet routes ev = (routes.get i).dests := by
  have hsome : (routes.toList.find? fun r => r.covers ev) = some (routes.get i) := by
    refine List.find?_eq_some_iff_getElem.2 ⟨hi, i.val, by simp, rfl, fun j hji => ?_⟩
    exact (Bool.not_eq_true' _).mpr (hj ⟨j, hji.trans i.isLt⟩ hji)
  rw [routedSet, hsome]

/-! ### The final set -/

/-- A key event of the Player, the only one the Guide takes (R61). -/
def Event.guided (ev : Event) : Bool := decide (ev.source = .playback) && ev.kind.key?.isSome

theorem resolveGuide_eq (kind : PassKind) (ev : Event) (d : Dests) :
    resolveGuide kind ev d =
      { engine := d.engine || (ev.guided && d.guide && decide (kind = .listen)), recorder := d.recorder
        notify := d.notify, guide := d.guide && ev.guided && decide (kind = .practice) } := by
  unfold resolveGuide Event.guided
  cases ev.source <;> cases ev.kind.key? <;> cases kind <;> simp

/-- Whether the engine holds what an event releases (R62, R63). -/
def heldByEngine (s : State) (ev : Event) : Bool :=
  match ev.kind with
  | .noteOff k _ => (s.engine.source ev.source).down.mem k
  | .sostOff => (s.engine.source ev.source).sost
  | _ => false

/-- Whether the recording holds what an event releases (R62, R63). -/
def heldByRecorder (s : State) (ev : Event) : Bool :=
  match s.recorder, ev.kind with
  | some r, .noteOff k _ => r.ctx.openKeys.mem k
  | some r, .sostOff => r.ctx.sost
  | _, _ => false

theorem followThrough_eq (s : State) (ev : Event) (d : Dests) :
    followThrough s ev d =
      { d with engine := d.engine || heldByEngine s ev, recorder := d.recorder || heldByRecorder s ev } := by
  unfold followThrough heldByEngine heldByRecorder
  cases ev.kind <;> cases s.recorder <;> simp

theorem finalSet_eq (s : State) (ev : Event) :
    finalSet s ev =
      let d := routedSet s.router.routes ev
      { engine := d.engine || (ev.guided && d.guide && decide (s.player.passKind = .listen)) || heldByEngine s ev
        recorder := d.recorder || heldByRecorder s ev
        notify := d.notify
        guide := d.guide && ev.guided && decide (s.player.passKind = .practice) } := by
  rw [finalSet, followThrough_eq, resolveGuide_eq]

/-! ### The delivery of an event -/

theorem deliver_blocks (d : Dests) (ev : Event) (u : State) :
    (deliver d ev u).engine = (if d.engine then (engineEvent ev u).engine else u.engine) ∧
      (deliver d ev u).recorder = (if d.recorder then (recorderEvent ev u).recorder else u.recorder) ∧
      (deliver d ev u).store = (if d.recorder then (recorderEvent ev u).store else u.store) ∧
      (deliver d ev u).router = (if d.guide then (guideEvent ev u).router else u.router) ∧
      (deliver d ev u).guide = (if d.guide then (guideEvent ev u).guide else u.guide) ∧
      { deliver d ev u with
        engine := u.engine, recorder := u.recorder, store := u.store, router := u.router, guide := u.guide
        link := u.link, choices := u.choices } = u := by
  obtain ⟨order, c, hperm, heq, -⟩ := deliver_order d ev u
  have hn : order.Nodup := hperm.symm.nodup (members_nodup d)
  have hmem (m : Member) : m ∈ order ↔ m ∈ d.members := hperm.mem_iff
  obtain ⟨hein, heout⟩ := deliverIn_engine ev hn u
  obtain ⟨hrin, hrout⟩ := deliverIn_recorder ev hn u
  obtain ⟨hgin, hgout⟩ := deliverIn_guide ev hn u
  simp only [hmem, mem_members] at hein heout hrin hrout hgin hgout
  have hrest := congrArg (fun t : State => { t with choices := u.choices }) (deliverIn_rest ev order u)
  rw [heq]
  refine ⟨?_, ?_, ?_, ?_, ?_, hrest⟩
  · split
    · next h => exact hein h
    · next h => exact heout h
  · split
    · next h => exact (hrin h).2.1
    · next h => exact (hrout h).2.1
  · split
    · next h => exact (hrin h).1
    · next h => exact (hrout h).1
  · split
    · next h => exact (hgin h).2.1
    · next h => exact (hgout h).2.1
  · split
    · next h => exact (hgin h).1
    · next h => exact (hgout h).1

theorem deliver_notices (d : Dests) (ev : Event) (u : State) :
    (∃ order : List (State → State), order.Perm (deliveries d ev) ∧
      (deliver d ev u).link = (order.foldl (fun x g => g x) u).link) ∧
      (((deliveries d ev).filter fun g => decide ((g u).link ≠ u.link)).length ≤ 1 →
        (deliver d ev u).link = ((deliveries d ev).foldl (fun x g => g x) u).link ∧
          (deliver d ev u).choices = u.choices) := by
  obtain ⟨order, c, hperm, heq, hfew⟩ := deliver_order d ev u
  have hmap (ms : List Member) : deliverIn ev ms u = (ms.map (Member.act ev)).foldl (fun x g => g x) u := by
    rw [List.foldl_map]
    rfl
  refine ⟨⟨order.map (Member.act ev), ?_, ?_⟩, fun h => ?_⟩
  · rw [deliveries_eq]
    exact hperm.map _
  · rw [heq, ← hmap]
    rfl
  · have hd : deliver d ev u = deliverIn ev d.members u := hfew h
    refine ⟨by rw [hd, hmap, deliveries_eq], ?_⟩
    rw [hd]
    exact (congrArg State.choices (deliverIn_rest ev d.members u) :)

/-- Settles O37: the final set is the routed set resolved for the Guide and followed through, and the deliveries, in
whatever order they come, act each on state of its own. -/
theorem destinationsFollowTheRoutes : Obligations.DestinationsFollowTheRoutes := by
  intro s ev code key own d guided heldE heldR
  have hcode : code = ev.kind.code := by
    simp only [code] <;> cases ev.kind <;> rfl
  have hkey : key = ev.kind.key? := by
    simp only [key] <;> cases ev.kind <;> rfl
  have hguided : guided = ev.guided := by simp only [guided, hkey, Event.guided]
  have hheldE : heldE = heldByEngine s ev := by
    simp only [heldE, own, heldByEngine, Engine.source] <;> cases ev.kind <;> cases ev.source <;> rfl
  have hheldR : heldR = heldByRecorder s ev := rfl
  refine ⟨fun r => ?_, fun h => ?_, fun i hi hj => routedSet_first _ ev i hi hj, ?_, ?_, ?_⟩
  · rw [hcode, hkey]
    exact covers_iff r ev
  · refine (routedSet_default _ ev h).trans ?_
    cases ev.source <;> rfl
  · rw [hguided, hheldE, hheldR]
    exact finalSet_eq s ev
  · rw [hkey]
    unfold notifyEvent
    cases ev.kind.key? <;> rfl
  · intro u f each t
    have ht : t = deliver f ev u := rfl
    obtain ⟨he, hr, hs, ho, hg, hrest⟩ := deliver_blocks f ev u
    obtain ⟨horder, hfew⟩ := deliver_notices f ev u
    exact ⟨he, hr, hs, ho, hg, horder, hfew, hrest⟩

end Sys2Proof.Machine
end

section
/-! PROOFS. The steps of host commands that are heard and taken at once, and what the coded fields of commands name. -/

namespace Sys2Proof.Machine

open Sys2Proof.StepRows

/-! ### The step of a command -/

theorem runCommand_running (i : Instr) (s : State) : (runCommand i s).running = s.running := by
  let P : State → Prop := fun t => t.running = s.running
  have hb : KeptByQuiet P := ⟨fun q hs => q.running.trans hs, fun _ _ hs => hs, fun _ _ hs => hs⟩
  have hc : KeptByCommands P := by
    refine .of_setters hb ?_ (fun _ _ hs => hs) (fun _ hs => hs) fun _ _ hs => hs
    constructor <;> exact fun _ _ hs => hs
  exact hc.runCommand i s rfl

theorem rowAct_of_isCommand {i : Instr} (hc : isCommand i = true) (s : State) :
    rowAct i s = hostCommand i (runCommand i) s := by
  cases i <;> first | rfl | exact absurd hc Bool.false_ne_true

/-- The frame of a command that can be sent fits the line. -/
theorem frame_fits {i : Instr} {f : Frame} (hw : i.wf = true) (hf : frameOf i = some f) :
    f.payload.length ≤ 60 := by
  have h : Laws.Wire.Statement i := by
    cases i
    case loadCal lo hi ps => exact Laws.Wire.loadCal lo hi ps
    case loadMap k n rh rd pan ls => exact Laws.Wire.loadMap k n rh rd pan ls
    case takeWrite t n rs => exact Laws.Wire.takeWrite t n rs
    case unknownType t p => exact Laws.Wire.unknownType t p
    case setCurve c ss vs => exact Laws.Wire.setCurve c ss vs
    all_goals cases hf <;> exact Laws.Wire.fits rfl (by simp)
  exact h hw f hf

/-- The step of a command that is heard and taken at once: the command, and then the transmitter's choice. -/
theorem exec_of_ready {i : Instr} {s : State} (h : s.Ready) (hc : isCommand i = true) (hw : i.wf = true) :
    exec i s = .next (chooseTx (runCommand i s)) := by
  have ⟨hr, _, _, hi⟩ := h
  cases hf : frameOf i with
  | none => cases i <;> first | exact absurd hc Bool.false_ne_true | cases hf
  | some f =>
    rw [exec_eq, rowAct_of_isCommand hc]
    exact endStep_hostCommand h hf (frame_fits hw hf) ((runCommand_running i s).trans hr)
      ((runCommand_link i s).2.2.trans hi)

/-- The step of a command that answers with a status and changes the link by notices and its reply alone. -/
theorem exec_answer {i : Instr} {s t u : State} {code : Byte} {st : Status} (h : s.Ready) (hc : isCommand i = true)
    (hw : i.wf = true) (ht : runCommand i s = answer code st t) (hu : t.withLink (t.link.reply code st []) = u) :
    exec i s = .next u := by
  rw [exec_of_ready h hc hw, ht, chooseTx_answer, hu]

theorem exec_answerData {i : Instr} {s t u : State} {code : Byte} {data : List Byte} (h : s.Ready)
    (hc : isCommand i = true) (hw : i.wf = true) (ht : runCommand i s = answerData code data t)
    (hu : t.withLink (t.link.reply code .ok data) = u) : exec i s = .next u := by
  rw [exec_of_ready h hc hw, ht, chooseTx_answerData, hu]

/-! ### Coded fields -/

theorem keyOf_eq_none {b : Byte} (h : 87 < b.toNat) : keyOf b = none := dif_neg (by omega)

theorem keyOf_eq_some {b : Byte} {k : Key} (h : k.val = b.toNat) : keyOf b = some k := by
  have hlt : b.toNat < 88 := h ▸ k.isLt
  rw [keyOf, dif_pos hlt]
  exact congrArg some (Fin.ext h.symm)

theorem takeOf_eq_none {b : Byte} (h : 15 < b.toNat) : takeOf b = none := dif_neg (by omega)

theorem takeOf_eq_some {b : Byte} {t : TakeId} (h : t.val = b.toNat) : takeOf b = some t := by
  have hlt : b.toNat < 16 := h ▸ t.isLt
  rw [takeOf, dif_pos hlt]
  exact congrArg some (Fin.ext h.symm)

theorem routeOf_eq_none {b : Byte} (h : 15 < b.toNat) : routeOf b = none := dif_neg (by omega)

theorem routeOf_eq_some {b : Byte} {i : Fin 16} (h : i.val = b.toNat) : routeOf b = some i := by
  have hlt : b.toNat < 16 := h ▸ i.isLt
  rw [routeOf, dif_pos hlt]
  exact congrArg some (Fin.ext h.symm)

theorem switchOf_eq_none {b : Byte} (h : 1 < b.toNat) : switchOf b = none := by
  rw [switchOf, if_neg (by omega), if_neg (by omega)]

theorem switchOf_eq_some {b : Byte} (h : b.toNat ≤ 1) : switchOf b = some (b.getLsbD 0) := by
  have hb : b = 0#8 ∨ b = 1#8 := by
    rcases (by omega : b.toNat = 0 ∨ b.toNat = 1) with h | h
    · exact .inl (BitVec.eq_of_toNat_eq h)
    · exact .inr (BitVec.eq_of_toNat_eq h)
  rcases hb with rfl | rfl <;> rfl

theorem rangeOk_iff {lo hi : Byte} : rangeOk lo hi = true ↔ lo.toNat ≤ hi.toNat ∧ hi.toNat ≤ 87 :=
  decide_eq_true_iff

end Sys2Proof.Machine
end

section
/-! PROOFS. The commands of the Event Router and the Guide (chapters 4 and 9), the recent-press list, and an event at
the Guide. -/

namespace Sys2Proof.Machine

open Sys2Proof.StepRows

/-! ### SET_ROUTE and GET_ROUTE -/

theorem cmdSetRoute_bad {r e ss k lo hi d : Byte} (s : State)
    (h : 15 < r.toNat ∨ 1 < e.toNat ∨ 3 < ss.toNat ∨ 127 < k.toNat ∨ 87 < hi.toNat ∨ hi.toNat < lo.toNat ∨
      15 < d.toNat) : cmdSetRoute r e ss k lo hi d s = answer 0x20#8 .badValue s := by
  unfold cmdSetRoute
  split
  · next hr he =>
    have hr' : r.toNat ≤ 15 := by
      by_contra hc
      rw [routeOf_eq_none (by omega)] at hr
      cases hr
    have he' : e.toNat ≤ 1 := by
      by_contra hc
      rw [switchOf_eq_none (by omega)] at he
      cases he
    refine if_neg fun hok => ?_
    simp only [Bool.and_eq_true, rangeOk_iff, sourceSetOk, kindSetOk, destSetOk, decide_eq_true_eq] at hok
    omega
  · rfl

theorem cmdSetRoute_ok {r e ss k lo hi d : Byte} {i : Fin 16} (s : State) (hr : i.val = r.toNat) (he : e.toNat ≤ 1)
    (hs : ss.toNat ≤ 3) (hk : k.toNat ≤ 127) (hr1 : lo.toNat ≤ hi.toNat) (hr2 : hi.toNat ≤ 87) (hd : d.toNat ≤ 15) :
    cmdSetRoute r e ss k lo hi d s = answer 0x20#8 .ok (s.withRouter { s.router with
      routes := s.router.routes.set i.val
        ⟨e.getLsbD 0, ss.getLsbD 0, ss.getLsbD 1, kindsOf k, lo.toNat, hi.toNat, destsOf d⟩ i.isLt }) := by
  have hok : (rangeOk lo hi && sourceSetOk ss && kindSetOk k && destSetOk d) = true := by
    simp only [Bool.and_eq_true, rangeOk_iff, sourceSetOk, kindSetOk, destSetOk, decide_eq_true_eq]
    omega
  rw [cmdSetRoute, routeOf_eq_some hr, switchOf_eq_some he]
  exact if_pos hok

theorem sourcesByte_bit (live playback : Bool) (j : Fin 8) :
    (sourcesByte live playback).getLsbD j = match j.val with | 0 => live | 1 => playback | _ => false := by
  revert j
  cases live <;> cases playback <;> decide

theorem destsByte_bit (d : Dests) (j : Fin 8) :
    (destsByte d).getLsbD j = match j.val with
      | 0 => d.engine | 1 => d.recorder | 2 => d.notify | 3 => d.guide | _ => false := by
  obtain ⟨e, r, n, g⟩ := d
  revert j
  cases e <;> cases r <;> cases n <;> cases g <;> decide

theorem kindsByte_bit (k : BitVec 7) (j : Fin 8) :
    (b8 k.toNat).getLsbD j = if j.val < 7 then k.getLsbD j else false := by
  have hj := j.isLt
  simp only [b8, BitVec.getLsbD_ofNat, hj, decide_true, Bool.true_and]
  split
  · rfl
  · next h => exact BitVec.getLsbD_of_ge k j (by omega)

/-- Settles O36: the operands' checks, and the three sets' bytes bit by bit. -/
theorem routeCommandsReplaceAndReport : Obligations.RouteCommandsReplaceAndReport := by
  refine ⟨fun s r e ss k lo hi d h => ⟨fun hbad => ?_, fun i hi' he hs hk h1 h2 hd => ?_⟩,
    fun s r h => ⟨fun hbad => ?_, fun i hi => ?_⟩⟩
  · exact exec_answer h rfl rfl (cmdSetRoute_bad s hbad) rfl
  · exact exec_answer h rfl rfl (cmdSetRoute_ok s hi' he hs hk h1 h2 hd) rfl
  · have hc : cmdGetRoute r s = answer 0x21#8 .badValue s := by rw [cmdGetRoute, routeOf_eq_none hbad]
    exact exec_answer h rfl rfl hc rfl
  · intro x
    refine ⟨sourcesByte x.live x.playback, b8 x.kinds.toNat, destsByte x.dests, sourcesByte_bit _ _, kindsByte_bit _,
      destsByte_bit _, ?_⟩
    have hc : cmdGetRoute r s = answerData 0x21#8
        [bit x.enabled, sourcesByte x.live x.playback, b8 x.kinds.toNat, b8 x.keyLow, b8 x.keyHigh,
          destsByte x.dests] s := by
      rw [cmdGetRoute, routeOf_eq_some hi]
    exact exec_answerData h rfl rfl hc rfl

/-! ### SET_GUIDE and GUIDE_SKIP -/

theorem isEmpty_none : KeySet.none.isEmpty = true := by decide

/-- A wait is released with the expected set empty. -/
theorem releaseWait_cleared (s : State) :
    releaseWait (clearExpected s) =
      if s.player.state = .waiting then
        { s with
          guide := { s.guide with expected := KeySet.none }
          player := { s.player with state := .playing }
          link := s.link.note (.playerState .playing s.player.take .continue (s.player.acc / 256) 0) s.clock.ms }
      else { s with guide := { s.guide with expected := KeySet.none } } := by
  unfold releaseWait
  have hempty : (clearExpected s).guide.expected.isEmpty = true := isEmpty_none
  by_cases hw : s.player.state = .waiting
  · rw [if_pos ⟨hw, hempty⟩, if_pos hw, playerNotice]
    show raise (.playerState .playing s.player.take .continue (s.player.acc / 256) KeySet.none.card) _ = _
    rw [card_none]
    rfl
  · rw [if_neg fun h => hw h.1, if_neg hw]
    rfl

theorem cmdSetGuide_bad {w : Byte} {g : W16} (s : State) (h : 1 < w.toNat ∨ 500 < g.toNat) :
    cmdSetGuide w g s = answer 0x48#8 .badValue s := by
  unfold cmdSetGuide
  split
  · rfl
  · next hw =>
    refine if_pos (h.resolve_left fun hw' => ?_)
    rw [switchOf_eq_none hw'] at hw
    cases hw

/-- Settles O38: the commands' operands, and `releaseWait_cleared`. -/
theorem guideCommandsReleaseTheWait : Obligations.GuideCommandsReleaseTheWait := by
  refine ⟨fun s w g h => ⟨fun hbad => ?_, fun hw hg => ?_, fun hw hg => ?_⟩, fun s h => ?_⟩
  · exact exec_answer h rfl rfl (cmdSetGuide_bad s hbad) rfl
  · subst hw
    have hc : cmdSetGuide 1#8 g s =
        answer 0x48#8 .ok (s.withGuide { s.guide with wait := true, grace := g.toNat }) := by
      rw [cmdSetGuide, switchOf_eq_some (by decide)]
      exact if_neg (by omega)
    exact exec_answer h rfl rfl hc rfl
  · subst hw
    have hc : cmdSetGuide 0#8 g s =
        answer 0x48#8 .ok (releaseWait (clearExpected (s.withGuide { s.guide with wait := false, grace := g.toNat }))) := by
      rw [cmdSetGuide, switchOf_eq_some (by decide)]
      exact if_neg (by omega)
    refine exec_answer h rfl rfl hc ?_
    rw [releaseWait_cleared]
    by_cases hw : s.player.state = .waiting
    · simp only [State.withGuide, hw, if_true]
      rfl
    · simp only [State.withGuide, hw, if_false]
      rfl
  · refine exec_answer (t := releaseWait (clearExpected s)) h rfl rfl rfl ?_
    rw [releaseWait_cleared]
    by_cases hw : s.player.state = .waiting
    · simp only [hw, if_true]
      rfl
    · simp only [hw, if_false]
      rfl

/-! ### The recent-press list -/

theorem consult_credits {now : W32} {grace : Nat} {k : Key} {l a b : List Press} {p : Press}
    (h : (l.filter fun q => decide ((now - q.ms).toNat ≤ grace)) = a ++ p :: b) (hp : p.key = k)
    (ha : ∀ q ∈ a, q.key ≠ k) : consult now grace k l = (true, a ++ b) := by
  unfold consult freshPresses
  rw [h]
  refine Prod.ext ?_ ?_
  · exact List.any_eq_true.2 ⟨p, by simp, by simpa using hp⟩
  · show (a ++ p :: b).eraseP _ = a ++ b
    rw [List.eraseP_append_right _ (by simpa using ha), List.eraseP_cons_of_pos (by simpa using hp)]

theorem consult_credits_not {now : W32} {grace : Nat} {k : Key} {l : List Press}
    (h : ∀ q ∈ l, (now - q.ms).toNat ≤ grace → q.key ≠ k) :
    consult now grace k l = (false, l.filter fun q => decide ((now - q.ms).toNat ≤ grace)) := by
  have hno : ∀ q ∈ freshPresses now grace l, ¬ decide (q.key = k) = true := by
    intro q hq
    obtain ⟨hq, hage⟩ := List.mem_filter.1 hq
    simpa using h q hq (of_decide_eq_true hage)
  unfold consult
  refine Prod.ext ?_ (List.eraseP_of_forall_not hno)
  exact List.any_eq_false.2 hno

theorem appendPress_spec (p : Press) {l : List Press} (h : l.length ≤ 10) :
    (appendPress p l).length ≤ 10 ∧ (appendPress p l).getLast? = some p ∧
      (l.length < 10 → appendPress p l = l ++ [p]) ∧ (l.length = 10 → appendPress p l = l.tail ++ [p]) := by
  refine ⟨?_, List.getLast?_concat, fun hlt => ?_, fun heq => ?_⟩
  · unfold appendPress
    split <;> simp <;> omega
  · rw [appendPress, if_neg (by omega)]
  · rw [appendPress, if_pos (by omega), List.drop_one]

/-! ### A press and an event at the Guide -/

theorem isEmpty_iff (ks : KeySet) : ks.isEmpty = true ↔ ∀ j : Key, ks.get j = false := by
  unfold KeySet.isEmpty KeySet.keys
  rw [List.isEmpty_iff, List.filter_eq_nil_iff]
  exact ⟨fun h j => by simpa using h j (List.mem_finRange j), fun h j _ => by simp [h j]⟩

theorem card_of_isEmpty {ks : KeySet} (h : ks.isEmpty = true) : ks.card = 0 :=
  List.length_eq_zero_iff.2 (List.isEmpty_iff.1 h)

theorem guideOffer_expected {s : State} {k : Key} (h : s.guide.expected.mem k = true) :
    let left := s.guide.expected.set k.val false k.isLt
    guideOffer k s =
      if s.player.state = .waiting ∧ ∀ j : Key, left.get j = false then
        { s with
          guide := { s.guide with expected := left }, player := { s.player with state := .playing }
          link := s.link.note (.playerState .playing s.player.take .continue (s.player.acc / 256) 0) s.clock.ms }
      else { s with guide := { s.guide with expected := left } } := by
  intro left
  have hiff := isEmpty_iff left
  rw [guideOffer, if_pos h, releaseWait]
  by_cases hw : s.player.state = .waiting ∧ ∀ j : Key, left.get j = false
  · rw [if_pos hw, if_pos ⟨hw.1, hiff.2 hw.2⟩, playerNotice]
    show raise (.playerState .playing s.player.take .continue (s.player.acc / 256) (KeySet.card left)) _ = _
    rw [card_of_isEmpty (hiff.2 hw.2)]
    rfl
  · rw [if_neg hw, if_neg fun h' => hw ⟨h'.1, hiff.1 h'.2⟩]
    rfl

theorem guideEvent_waiting {s : State} {ev : Event} {k : Key} {v : Nat} {rep : Bool}
    (hk : ev.kind = .noteOn k v rep) (hw : s.guide.wait = true) :
    let c := consult s.clock.ms s.guide.grace k s.router.recent
    let size := ((List.finRange 88).filter fun j => s.guide.expected.get j).length
    let grows : Bool := !c.1 && !s.guide.expected.get k && decide (size < 10)
    let outcome : GuideOutcome := if c.1 then .credited
      else if s.guide.expected.get k then .expected else if size < 10 then .expected else .full
    guideEvent ev s = { s with
      router := { s.router with recent := c.2 }
      guide := { s.guide with
        expected := if grows then s.guide.expected.set k.val true k.isLt else s.guide.expected }
      link := s.link.note (.guide k (some outcome)) s.clock.ms } := by
  intro c size grows outcome
  have hev : guideEvent ev s = guideExpect k c.1 (setRecent c.2 s) := by
    rw [guideEvent, hk]
    exact if_pos hw
  rw [hev, guideExpect]
  show (if c.1 = true then _ else if s.guide.expected.get k = true then _ else if size < 10 then _ else _) = _
  simp only [grows, outcome]
  by_cases hc : c.1 = true
  · simp only [hc]
    rfl
  · by_cases hm : s.guide.expected.get k = true
    · simp only [hc, hm]
      rfl
    · by_cases hs : size < 10
      · simp only [hc, hm, hs]
        rfl
      · simp only [hc, hm, hs]
        rfl

/-- Settles O39: the list operations by cases, and an event at the Guide by its kind. -/
theorem recentPressesCreditTheOldest : Obligations.RecentPressesCreditTheOldest := by
  refine ⟨fun now grace k l a b p h hp ha => consult_credits h hp ha,
    fun now grace k l h => consult_credits_not h, fun p l h => appendPress_spec p h,
    fun s k => ⟨fun h => ?_, fun h => guideOffer_expected h⟩,
    fun s ev => ⟨fun k v rep hk hw => ?_, fun k v rep hk hw => guideEvent_waiting hk hw, fun k fault hk => ?_,
      fun hon hoff => ?_⟩⟩
  · rw [guideOffer, if_neg (ne_true_of_eq_false h)]
    rfl
  · rw [guideEvent, hk]
    exact if_neg (ne_true_of_eq_false hw)
  · rw [guideEvent, hk]
    rfl
  · unfold guideEvent
    split
    · next hk => exact absurd hk (hon _ _ _)
    · next hk => exact absurd hk (hoff _ _)
    all_goals rfl

end Sys2Proof.Machine
end

section
/-! PROOFS. Time on an empty queue, resets and start-up (section 11.5). -/

namespace Sys2Proof.Machine

open Sys2Proof.StepRows

/-! ### Time -/

theorem inFrame_eq (f : Framer) : f.inFrame = decide (f ≠ .hunt) := by
  cases f <;> rfl

theorem Link.advance_eq (l : Link) (n : Nat) :
    l.advance n = { l with gapUs := if l.framer = .hunt then l.gapUs else min (l.gapUs + n) 1012 } := by
  unfold Link.advance
  rw [inFrame_eq]
  by_cases h : l.framer = .hunt
  · simp only [h, ne_eq, not_true, decide_false, Bool.false_eq_true, if_false, if_true]
    rw [← h]
  · simp [h, gapLimit]

/-- What the time bases and every elapsed time that decides an outcome are after some µs. -/
theorem advance_eq (n : Nat) (s : State) :
    advance n s = { s with
      clock :=
        { us := s.clock.us + BitVec.ofNat 32 n, ms := s.clock.ms + BitVec.ofNat 32 ((s.clock.subMs + n) / 1000)
          subMs := (s.clock.subMs + n) % 1000 }
      rail := { s.rail with
        settle := s.rail.settle.map fun t => min (t + n) 50000
        waitUs := if s.rail.state = .waitClear then min (s.rail.waitUs + n) 30000000 else s.rail.waitUs
        runUs := if s.rail.state = .moving then min (s.rail.runUs + n) 4000000 else s.rail.runUs }
      recorder := s.recorder.map fun r => { r with clock := r.clock + n }
      link := { s.link with gapUs := if s.link.framer = .hunt then s.link.gapUs else min (s.link.gapUs + n) 1012 } } := by
  rw [← Link.advance_eq]
  rfl

theorem min_succ (n m : Nat) : min (n + 1) m = if n < m then n + 1 else m := by
  split <;> omega

/-- Settles O3: `advance` for one µs, and for the µs up to a stamp. -/
theorem emptyQueueLetsOneMicrosecondPass : Obligations.EmptyQueueLetsOneMicrosecondPass := by
  refine ⟨fun s stamp => ?_, fun s hr hp => ?_⟩
  · intro n
    have hus : s.clock.us + BitVec.ofNat 32 n = stamp := by
      show s.clock.us + BitVec.ofNat 32 (stamp - s.clock.us).toNat = stamp
      rw [BitVec.ofNat_toNat, BitVec.setWidth_eq]
      exact (BitVec.add_comm _ _).trans (BitVec.sub_add_cancel _ _)
    have hadv := advance_eq n s
    rw [hus] at hadv
    rw [← hadv]
    rfl
  · have hstep : step s = .next (advance 1 s) := by
      unfold step idle whenRunning
      rw [hp]
      exact congrArg Host.Outcome.next (if_pos hr)
    have hms : s.clock.subMs < 999 → (s.clock.subMs + 1) / 1000 = 0 ∧ (s.clock.subMs + 1) % 1000 = s.clock.subMs + 1 := by
      omega
    refine ⟨_, hstep, ?_⟩
    rw [advance_eq]
    refine ⟨rfl, fun h => ⟨?_, (hms h).2⟩, fun h => ⟨?_, ?_⟩, fun r h => ?_, fun h => ?_, fun n h => ?_, fun h => ?_, ?_,
      ?_, ?_, rfl, rfl, rfl⟩
    · show s.clock.ms + BitVec.ofNat 32 ((s.clock.subMs + 1) / 1000) = s.clock.ms
      rw [(hms h).1]
      exact BitVec.add_zero _
    · show s.clock.ms + BitVec.ofNat 32 ((s.clock.subMs + 1) / 1000) = s.clock.ms + 1#32
      rw [h]
    · show (s.clock.subMs + 1) % 1000 = 0
      rw [h]
    · show Option.map _ s.recorder = _
      rw [h]
      rfl
    · show Option.map _ s.recorder = _
      rw [h]
      rfl
    · show Option.map _ s.rail.settle = _
      rw [h]
      exact congrArg some (min_succ _ _)
    · show Option.map _ s.rail.settle = _
      rw [h]
      rfl
    · show (if s.rail.state = .waitClear then min (s.rail.waitUs + 1) 30000000 else s.rail.waitUs) = _
      rw [min_succ _ _]
    · show (if s.rail.state = .moving then min (s.rail.runUs + 1) 4000000 else s.rail.runUs) = _
      rw [min_succ _ _]
    · show (if s.link.framer = .hunt then s.link.gapUs else min (s.link.gapUs + 1) 1012) = _
      rw [min_succ _ _]

/-! ### The reset -/

theorem get_replicate {α : Type} {n : Nat} (x : α) (i : Fin n) : (Vector.replicate n x).get i = x := by
  rw [Vector.get_eq_getElem, Vector.getElem_replicate]

theorem reset_free : State.reset.store.free = List.range 512 := by
  have hstore : State.reset.store = {} := rfl
  rw [hstore]

/-- Settles O4: the reset values are the defaults of the records. -/
theorem resetLeavesTheManualsValues : Obligations.ResetLeavesTheManualsValues := by
  refine ⟨rfl, rfl, ?link, ?keys, ?touch, ?pedals, ?router, ?engine, ?output, ?rail, ?store, ?takes, rfl, rfl, rfl,
    ?player, ?guide⟩
  case link => exact ⟨rfl, rfl, rfl, rfl, rfl, rfl, rfl, rfl, rfl, rfl, rfl⟩
  case keys => exact fun k => get_replicate _ k
  case touch => exact ⟨rfl, rfl, rfl, rfl, rfl, rfl, rfl, fun k => get_replicate _ k, rfl, rfl⟩
  case pedals => exact ⟨fun p => by cases p <;> rfl, rfl⟩
  case router => exact ⟨fun i => get_replicate _ i, rfl⟩
  case engine =>
    refine ⟨fun src => ?_, fun k => get_replicate _ k, fun i => get_replicate _ i, rfl, rfl⟩
    cases src
    all_goals exact ⟨rfl, rfl, fun k => ⟨mem_none k, mem_none k⟩⟩
  case output => exact ⟨rfl, rfl, rfl, rfl, rfl, rfl⟩
  case rail => exact ⟨rfl, rfl, rfl, rfl, rfl, rfl, rfl, rfl, rfl, rfl, rfl, rfl, rfl, rfl⟩
  case store => exact ⟨rfl, reset_free, fun b => get_replicate (n := 512) none b⟩
  case takes => exact fun t => get_replicate _ t
  case player =>
    exact ⟨rfl, rfl, rfl, rfl, rfl, rfl, rfl, rfl, rfl, rfl, rfl, rfl, rfl, fun i => get_replicate _ i,
      fun k => mem_none k, rfl, rfl⟩
  case guide => exact ⟨rfl, rfl, fun k => mem_none k⟩

theorem wholeReset_eq (c : ResetCause) (s : State) :
    wholeReset c s = { State.reset with
      cause := c, link := { State.reset.link with cts := s.link.cts }, flash := s.flash
      choices := s.choices, pending := s.pending } := rfl

theorem pump_wholeReset (c : ResetCause) (s : State) : pump (wholeReset c s) = wholeReset c s :=
  pump_of_not_running rfl

/-- Settles O5: a part that initializes does nothing at the end of the step. -/
theorem powerAndPinResetBeginAWholeReset : Obligations.PowerAndPinResetBeginAWholeReset := by
  intro s
  rw [exec_eq, exec_eq]
  exact ⟨congrArg Host.Outcome.next (pump_wholeReset .power s), congrArg Host.Outcome.next (pump_wholeReset .pin s)⟩

theorem whenRunning_eq {s : State} (h : s.running = true) (f : State → State) : whenRunning f s = f s := if_pos h

/-- The step of an event row of a running part. -/
theorem exec_whenRunning {i : Instr} {f : State → State} (hi : ∀ s, rowAct i s = whenRunning f s) {s : State}
    (h : s.running = true) : exec i s = .next (pump (f s)) := by
  rw [exec_eq, hi, whenRunning_eq h]

/-- The step of an event row that leaves a running part's link closed. -/
theorem exec_closed {i : Instr} {f : State → State} (hi : ∀ s, rowAct i s = whenRunning f s) {s : State}
    (h : s.running = true) (hr : (f s).running = true) (hc : (f s).link.Closed) :
    exec i s = .next (chooseTx (f s)) := by
  rw [exec_whenRunning hi h, pump_of_closed hr hc]

/-- The step of an event row that finds nothing to do. -/
theorem exec_nothing {i : Instr} {f : State → State} (hi : ∀ s, rowAct i s = whenRunning f s) {s : State}
    (h : s.Steady) (hf : f s = s) : exec i s = .next s := by
  rw [exec_whenRunning hi h.1, hf, pump_steady h]

/-- Settles O6: both rows are the reset while RESET_PART's reply is on the line. -/
theorem resetReplyEndBeginsTheCommandReset : Obligations.ResetReplyEndBeginsTheCommandReset := by
  refine ⟨fun s r hr htx hres => ⟨?_, ?_⟩, fun s hs hno => ?_⟩
  · have hf : takeCommandReset s = wholeReset .command s := by
      rw [takeCommandReset, htx]
      exact if_pos hres
    rw [exec_whenRunning (fun _ => rfl) hr, hf, pump_wholeReset]
    rfl
  · have hf : takeFrameSent s = wholeReset .command s := by
      rw [takeFrameSent, htx]
      exact if_pos hres
    rw [exec_whenRunning (fun _ => rfl) hr, hf, pump_wholeReset]
    rfl
  · refine exec_nothing (f := takeCommandReset) (fun _ => rfl) hs ?_
    unfold takeCommandReset
    split
    · next r htx => rw [hno r htx, if_neg Bool.false_ne_true]
    · rfl
    · rfl

/-! ### A part that initializes -/

/-- Until initialization ends, a row does nothing, but a reset, CTS_CHANGE and INITIALIZATION_END. -/
theorem rowAct_of_not_running {i : Instr} {s : State} (h : s.running = false) (hp : i ≠ .powerOnReset)
    (hn : i ≠ .pinReset) (hc : ∀ b, i ≠ .ctsChange b) (hi : ∀ c v eng ret, i ≠ .initializationEnd c v eng ret) :
    rowAct i s = s := by
  have hw (f : State → State) : whenRunning f s = s := if_neg (ne_true_of_eq_false h)
  have hh (j : Instr) (f : State → State) : hostCommand j f s = s := by
    unfold hostCommand
    split
    · rfl
    · rw [h]
      rfl
  cases i
  case powerOnReset => exact absurd rfl hp
  case pinReset => exact absurd rfl hn
  case ctsChange b => exact absurd rfl (hc b)
  case initializationEnd c v eng ret => exact absurd rfl (hi c v eng ret)
  case unknownType type payload => exact hh (.unknownType type payload) (runFrame ⟨type, payload⟩)
  all_goals first
    | exact hw _
    | exact (rowAct_of_isCommand rfl s).trans (hh _ _)

/-- INITIALIZATION_END on the reset values of the rail and the output: the switches give the state. -/
theorem endInitialization_of_reset {s : State} {c v : Nat} {eng ret : Bool} (h : s.running = false)
    (hrail : s.rail = {}) (hout : s.output = {}) :
    let st : RailState :=
      if ret then (if eng then .fault else .retracted) else if eng then .engaged else .unknown
    endInitialization c v eng ret s = raise (.ready s.cause st) { s with
      running := true
      rail := { ({} : Rail) with
        state := st, current := c, supply := v, eng := eng, ret := ret
        reason := if st = .fault then some .switch else none }
      output := { ({} : Output) with mute := if st = .retracted then 0 else 480 } } := by
  rw [endInitialization, if_neg (ne_true_of_eq_false h)]
  simp only [State.withRail, State.withOutput, muteCondition, hrail, hout]
  cases eng <;> cases ret <;> rfl

/-- Settles O7: the act of each row in a part that initializes, and INITIALIZATION_END on the reset values. -/
theorem initializationEndsWithReady : Obligations.InitializationEndsWithReady := by
  refine ⟨fun s i h hp hn hc hi => ?_, fun s b h => ?_, fun s h hp => ?_, fun s c v eng ret h => ?_,
    fun s c v eng ret h hrail hout hlink => ?_⟩
  · rw [exec_eq, rowAct_of_not_running h hp hn hc hi, pump_of_not_running h]
  · rw [exec_eq]
    exact congrArg Host.Outcome.next (pump_of_not_running h)
  · unfold step idle whenRunning
    rw [hp]
    exact congrArg Host.Outcome.next (if_neg (ne_true_of_eq_false h))
  · rw [exec_eq]
    show Host.Outcome.next (pump (endInitialization c v eng ret s)) = _
    rw [endInitialization, if_pos h.1, pump_steady h]
  · intro st
    rw [exec_eq]
    show Host.Outcome.next (pump (endInitialization c v eng ret s)) = _
    rw [endInitialization_of_reset h hrail hout, pump_of_nil rfl]
    · rfl
    · rw [raise_link, Link.note_intake]
      exact congrArg Link.intake hlink

end Sys2Proof.Machine
end

section
/-! PROOFS. The laws at a reset, the part commands, the link's events outside a frame, GET_KEY. -/

namespace Sys2Proof.Machine

open Sys2Proof.StepRows

/-! ### The laws at a reset -/

theorem reset_entry (t : TakeId) : State.reset.store.entry t = {} := get_replicate _ t

theorem reset_chain (t : TakeId) : State.reset.store.chain t = [] := by
  rw [Store.chain, reset_entry]
  rfl

theorem reset_voiceLaw : VoiceLaw State.reset.engine := by
  intro k
  have hfree : voiceCount k State.reset.engine.voices = 0 := by
    unfold voiceCount
    refine List.countP_eq_zero.2 fun v hv => ?_
    have hv : v ∈ (Vector.replicate 96 ({} : Voice)).toList := hv
    rw [Vector.toList_replicate] at hv
    obtain rfl := List.eq_of_mem_replicate hv
    simp [countsFor]
  rw [keyCount_eq, hfree]
  exact Nat.zero_le 4

theorem reset_heldLaw : HeldLaw State.reset.engine := by
  refine ⟨fun v hv h => ?_, fun p hp => absurd hp List.not_mem_nil⟩
  have hv : v ∈ (Vector.replicate 96 ({} : Voice)).toList := hv
  rw [Vector.toList_replicate] at hv
  obtain rfl := List.eq_of_mem_replicate hv
  cases h

theorem reset_blockLaw : State.reset.store.BlockLaw := by
  refine ⟨rfl, ?_, fun t => ?_⟩
  · have hchains : (List.finRange 16).flatMap State.reset.store.chain = [] :=
      List.flatMap_eq_nil_iff.2 fun t _ => reset_chain t
    rw [hchains, List.nil_append, reset_free]
  · rw [reset_chain, reset_entry]
    exact ⟨rfl, Nat.zero_le _, fun _ => rfl, rfl⟩

theorem reset_takeLaw : TakeLaw State.reset := by
  refine ⟨fun t => ?_, fun t => ?_, fun t => ?_, .inl rfl, fun t => ?_, fun t => ?_, fun t => ?_, ?_, fun j h => ?_⟩
  all_goals first
    | rw [reset_entry]
    | skip
  · exact ⟨nofun, nofun⟩
  · exact ⟨nofun, nofun⟩
  · exact ⟨nofun, nofun⟩
  · exact ⟨nofun, nofun⟩
  · exact ⟨nofun, nofun⟩
  · exact fun h => absurd h (by decide)
  · exact ⟨fun _ => rfl, fun _ => rfl⟩
  · cases h

theorem reset_capacityLaw : CapacityLaw State.reset := by
  refine ⟨Nat.zero_le _, Nat.zero_le _, Nat.zero_le _, ?_, Nat.zero_le _, Nat.le_refl _⟩
  exact card_none.trans_le (Nat.zero_le 10)

theorem reset_balanceLaw : BalanceLaw State.reset := by
  refine ⟨fun t _ => ?_, fun t h => ?_, fun j h => ?_, fun r h => ?_, fun w h => ?_, fun j h => ?_⟩
  · rw [reset_entry]
  · rw [reset_entry] at h
    cases h
  all_goals cases h

/-- Settles O22: no take, no voice, no key and no notice is there. -/
theorem resetMeetsTheLaws : Obligations.ResetMeetsTheLaws := by
  refine ⟨reset_capacityLaw, fun h => absurd h Bool.false_ne_true, ?_, reset_voiceLaw, reset_heldLaw, ?_, ?_,
    reset_takeLaw, reset_memory_wf.1, reset_memory_wf.2, reset_blockLaw, fun j h => ?_, reset_balanceLaw⟩
  · refine ⟨⟨fun _ => ⟨rfl, rfl, rfl⟩, fun h => absurd h.1 Bool.false_ne_true, rfl⟩, fun h => ?_, fun h => ?_⟩
    · rcases h with h | h <;> cases h
    · cases h
  · exact ⟨fun k h => absurd ((mem_none k).symm.trans h) Bool.false_ne_true, fun _ => ⟨fun k => mem_none k, rfl⟩⟩
  · exact ⟨card_none.trans_le (Nat.zero_le 10), fun _ => isEmpty_none⟩
  · cases h

/-! ### Part commands -/

/-- Settles O25: the commands' replies; SET_NOTICE_CLASS sets one place of the class table. -/
theorem partCommandsAnswer : Obligations.PartCommandsAnswer := by
  refine ⟨fun s h => ?_, fun s n c h hbad => ?_, fun s n c h h1 h2 h3 => ?_⟩
  · exact exec_of_ready h rfl rfl
  · have hc : cmdSetNoticeClass n c s = answer 0x03#8 .badValue s := dif_neg (by omega)
    exact exec_answer h rfl rfl hc rfl
  · have hlt : n.toNat - 0x60 < 16 := by omega
    have hc : cmdSetNoticeClass n c s = answer 0x03#8 .ok (s.withLink { s.link with
        classes := s.link.classes.set (n.toNat - 0x60) c.toNat hlt }) := dif_pos ⟨h1, h2, h3⟩
    refine ⟨_, exec_answer h rfl rfl hc rfl, fun k => ?_, ?_⟩
    · show Vector.get (Link.reply _ _ _ _).classes k = _
      rw [Link.reply, Link.transmit_classes]
      show Vector.get (Vector.set _ _ _ hlt) k = _
      simp only [Vector.get_eq_getElem, Vector.getElem_set]
      by_cases hk : k.val + 0x60 = n.toNat
      · rw [if_pos (by omega), if_pos hk]
      · rw [if_neg (by omega), if_neg hk]
    · simp only [State.withLink, Link.reply, Link.transmit_classes]

/-- Settles O32: the reply's bytes are those of the key's record. -/
theorem getKeyReports : Obligations.GetKeyReports := by
  refine fun s key h => ⟨fun hbad => ?_, fun k hk => ?_⟩
  · have hc : cmdGetKey key s = answer 0x15#8 .badValue s := by rw [cmdGetKey, keyOf_eq_none hbad]
    exact exec_answer h rfl rfl hc rfl
  · have hc : cmdGetKey key s = answerData 0x15#8
        (b8 (s.keys.get k).state.code :: (b16 (s.keys.get k).lastRaw ++ b16 (s.keys.get k).lastDepth ++
          b16 (s.keys.get k).rest ++ b16 (s.keys.get k).bottom ++ [bit (s.keys.get k).calibrated] ++
          b16 (s.keys.get k).capMin ++ b16 (s.keys.get k).capMax ++ b16 (s.touch.gain.get k))) s := by
      rw [cmdGetKey, keyOf_eq_some hk]
    exact exec_answerData h rfl rfl hc rfl

/-! ### Player settings -/

/-- Settles O56: each command by its checks. -/
theorem playerSettingsAreReplaced : Obligations.PlayerSettingsAreReplaced := by
  refine ⟨fun s q h => ?_, fun s a b h => ⟨fun ha hb => ?_, fun hab hspan => ?_, fun hspan hst => ?_,
    fun tk hspan hst htk => ?_⟩, fun s l p h => ?_, fun s m0 m1 m2 m3 h => ?_⟩
  · by_cases hq : 64 ≤ q.toNat ∧ q.toNat ≤ 512
    · rw [if_pos hq]
      exact exec_answer h rfl rfl (if_pos hq) rfl
    · rw [if_neg hq]
      exact exec_answer h rfl rfl (if_neg hq) rfl
  · exact exec_answer h rfl rfl (if_pos ⟨ha, hb⟩) rfl
  · have hne : ¬(a = 0#32 ∧ b = 0#32) := fun h' => hab.elim (fun hn => hn h'.1) fun hn => hn h'.2
    exact exec_answer h rfl rfl ((if_neg hne).trans (if_pos hspan)) rfl
  · have hne : ¬(a = 0#32 ∧ b = 0#32) := by
      rintro ⟨rfl, rfl⟩
      exact absurd hspan (by decide)
    exact exec_answer h rfl rfl ((if_neg hne).trans ((if_neg (by omega)).trans (if_pos hst))) rfl
  · have hne : ¬(a = 0#32 ∧ b = 0#32) := by
      rintro ⟨rfl, rfl⟩
      exact absurd hspan (by decide)
    have hentry : playedEntry s = s.store.entry tk := by rw [playedEntry, htk]
    have hscan : playedScan a.toNat s = s.store.scan tk a.toNat := by rw [playedScan, htk]
    have hc : cmdSetLoop a b s = if (s.store.entry tk).duration < b.toNat then answer 0x46#8 .badValue s else
        answer 0x46#8 .ok (s.withPlayer { s.player with
          loop := some (a.toNat, b.toNat), snapshot := s.store.scan tk a.toNat
          armed := decide (s.player.acc < b.toNat * 256) }) := by
      rw [← hentry, ← hscan]
      exact (if_neg hne).trans ((if_neg (by omega)).trans (if_neg hst))
    by_cases hd : (s.store.entry tk).duration < b.toNat
    · rw [if_pos hd]
      exact exec_answer h rfl rfl (hc.trans (if_pos hd)) rfl
    · rw [if_neg hd]
      exact exec_answer h rfl rfl (hc.trans (if_neg hd)) rfl
  · have hiff : (l.toNat ≤ 15 ∧ p.toNat ≤ 15 ∧ 0 < l.toNat + p.toNat) ↔
        (l.toNat ≤ 15 ∧ p.toNat ≤ 15 ∧ ¬(l = 0#8 ∧ p = 0#8)) := by
      simp only [← BitVec.toNat_inj, BitVec.toNat_ofNat]
      omega
    by_cases hlp : l.toNat ≤ 15 ∧ p.toNat ≤ 15 ∧ 0 < l.toNat + p.toNat
    · rw [if_pos hlp]
      exact exec_answer h rfl rfl (if_pos (hiff.1 hlp)) rfl
    · rw [if_neg hlp]
      exact exec_answer h rfl rfl (if_neg fun h' => hlp (hiff.2 h')) rfl
  · exact exec_answer h rfl rfl rfl rfl

/-! ### The link outside a frame -/

theorem frameOf_rowAct {i : Instr} {f : Frame} (hf : frameOf i = some f) (s : State) :
    ∃ take, rowAct i s = hostCommand i take s := by
  cases i <;> first | exact ⟨_, rfl⟩ | cases hf

/-- Settles O8: BREAK by `takeBreak`; while the line is ignored each row finds nothing to do. -/
theorem breakStartsALinkSync : Obligations.BreakStartsALinkSync := by
  have hbreak : ∀ s : State, s.running = true → s.link.ignoring = false →
      exec .lineBreak s = .next { s with
        link := Link.notify
          { s.link with framer := .hunt, gapUs := 0, held := false, ignoring := true, intake := [] }
          .linkSync s.clock.ms } := by
    intro s hr hi
    have hf : takeBreak s = raise .linkSync (s.withLink { s.link with
        framer := .hunt, gapUs := 0, held := false, ignoring := true, intake := [] }) :=
      if_neg (ne_true_of_eq_false hi)
    rw [exec_whenRunning (f := takeBreak) (fun _ => rfl) hr, hf, pump_of_nil]
    · rfl
    · exact hr
    · simp
  refine ⟨hbreak, fun s h hi => ?_, fun s b tail h hi => ?_, fun s i f h hi hf => ?_, fun s t hr hi ht => ?_⟩
  · exact exec_nothing (f := takeBreak) (fun _ => rfl) h (if_pos hi)
  · exact exec_nothing (f := takeByte b (byteErrorOf b tail)) (fun _ => rfl) h (if_pos hi)
  · obtain ⟨take, hrow⟩ := frameOf_rowAct hf s
    have hidle : hostCommand i take s = s := by
      rw [hostCommand, hf]
      exact if_pos (by rw [hi, Bool.or_true])
    rw [exec_eq, hrow, hidle, pump_steady h]
  · rw [hbreak s hr hi] at ht
    cases ht
    simp [State.rts, hr, Link.notify]

theorem Link.Settled.of_receiver {l : Link} (h : l.Settled) (f : Framer) (n : Nat) (held ignoring : Bool) :
    Link.Settled { l with framer := f, gapUs := n, held := held, ignoring := ignoring } := h

/-- The step of a row that replaces the receiver's record alone. -/
theorem pump_receiver {s : State} (h : s.Steady) (f : Framer) (n : Nat) (held ignoring : Bool) :
    pump (s.withLink { s.link with framer := f, gapUs := n, held := held, ignoring := ignoring }) =
      s.withLink { s.link with framer := f, gapUs := n, held := held, ignoring := ignoring } :=
  pump_steady (s := s.withLink _) h

/-- The step of a row that replaces the receiver's record and raises a notice. -/
theorem pump_receiver_raise {s : State} (h : s.Steady) (f : Framer) (n : Nat) (held ignoring : Bool)
    (b : NoticeBody) :
    pump (raise b (s.withLink { s.link with framer := f, gapUs := n, held := held, ignoring := ignoring })) =
      { s with link :=
        Link.notify { s.link with framer := f, gapUs := n, held := held, ignoring := ignoring } b s.clock.ms } := by
  have hclosed : Link.Closed { s.link with framer := f, gapUs := n, held := held, ignoring := ignoring } :=
    (h.2.of_receiver f n held ignoring).closed
  exact pump_of_closed (s := raise b (s.withLink { s.link with
    framer := f, gapUs := n, held := held, ignoring := ignoring })) h.1 (hclosed.note b s.clock.ms)

/-- The BYTE rule, by whether a frame is under way. -/
theorem byteError_eq (s : State) :
    byteError s = if s.link.framer = .hunt then s else dropFrame .byte s := by
  rw [byteError, inFrame_eq]
  by_cases h : s.link.framer = .hunt <;> simp [h]

/-- Settles O9: the rise by the two flags of the receiver, a held error by the BYTE rule. -/
theorem lineRiseSettlesTheLine : Obligations.LineRiseSettlesTheLine := by
  intro s h
  rw [exec_whenRunning (f := takeLineRise) (fun _ => rfl) h.1, takeLineRise, settleHeld]
  congr 1
  by_cases hi : s.link.ignoring = true
  · rw [if_pos hi, if_pos hi]
    exact pump_receiver h s.link.framer s.link.gapUs s.link.held false
  · rw [if_neg hi, if_neg hi]
    by_cases hh : s.link.held = true
    · rw [if_pos hh, if_pos hh, byteError_eq]
      by_cases hf : s.link.framer = .hunt
      · rw [if_pos hf, if_pos (by exact hf)]
        exact pump_receiver h s.link.framer s.link.gapUs false s.link.ignoring
      · rw [if_neg hf, if_neg (by exact hf)]
        exact pump_receiver_raise h .hunt 0 false s.link.ignoring (.linkError .byte)
    · rw [if_neg hh, if_neg hh, pump_steady h]

/-- Settles O11: the expiry when it is due. -/
theorem frameGapDiscardsTheFrame : Obligations.FrameGapDiscardsTheFrame := by
  intro s h
  rw [exec_whenRunning (f := takeFrameGap) (fun _ => rfl) h.1, takeFrameGap]
  simp only [inFrame_eq, decide_eq_true_eq]
  congr 1
  by_cases hd : s.link.framer ≠ .hunt ∧ 1000 < s.link.gapUs
  · rw [if_pos hd, if_pos hd]
    exact pump_receiver_raise h .hunt 0 s.link.held s.link.ignoring (.linkError .gap)
  · rw [if_neg hd, if_neg hd, pump_steady h]

end Sys2Proof.Machine
end

section
/-! PROOFS. The frames of commands (sections 11.2 and 11.7): the decoder reads back what a command's frame carries, and
refuses the frames of a wrong TYPE or length. -/

namespace Sys2Proof.Machine

open Sys2Proof.StepRows Sys2Proof.Laws.Wire

/-! ### Fields -/

theorem join16 (x : W16) : x.extractLsb' 8 8 ++ x.extractLsb' 0 8 = x :=
  (BitVec.extractLsb'_append_extractLsb'_eq_extractLsb' rfl).trans BitVec.extractLsb'_eq_self

theorem join24 (x : W24) : x.extractLsb' 16 8 ++ (x.extractLsb' 8 8 ++ x.extractLsb' 0 8) = x := by
  have low : x.extractLsb' 8 8 ++ x.extractLsb' 0 8 = x.extractLsb' 0 16 :=
    BitVec.extractLsb'_append_extractLsb'_eq_extractLsb' rfl
  rw [low]
  exact (BitVec.extractLsb'_append_extractLsb'_eq_extractLsb' rfl).trans BitVec.extractLsb'_eq_self

theorem join32 (x : W32) :
    x.extractLsb' 24 8 ++ (x.extractLsb' 16 8 ++ (x.extractLsb' 8 8 ++ x.extractLsb' 0 8)) = x := by
  have low : x.extractLsb' 8 8 ++ x.extractLsb' 0 8 = x.extractLsb' 0 16 :=
    BitVec.extractLsb'_append_extractLsb'_eq_extractLsb' rfl
  have mid : x.extractLsb' 16 8 ++ x.extractLsb' 0 16 = x.extractLsb' 0 24 :=
    BitVec.extractLsb'_append_extractLsb'_eq_extractLsb' rfl
  rw [low, mid]
  exact (BitVec.extractLsb'_append_extractLsb'_eq_extractLsb' rfl).trans BitVec.extractLsb'_eq_self

/-! Fields of a payload whose first bytes are given. -/

section
variable (b : Byte) (p : List Byte) (n : Nat)
theorem u8_zero : u8 (b :: p) 0 = b := rfl
theorem u8_succ : u8 (b :: p) (n + 1) = u8 p n := rfl
theorem u16_succ : u16 (b :: p) (n + 1) = u16 p n := rfl
theorem u32_succ : u32 (b :: p) (n + 1) = u32 p n := rfl
theorem u16_zero (x : W16) : u16 (x.extractLsb' 0 8 :: x.extractLsb' 8 8 :: p) 0 = x := join16 x
theorem u32_zero (x : W32) :
    u32 (x.extractLsb' 0 8 :: x.extractLsb' 8 8 :: x.extractLsb' 16 8 :: x.extractLsb' 24 8 :: p) 0 = x := join32 x
end

/-- A byte of the encoding of a list of elements of `n` bytes each, behind some bytes. -/
theorem u8_flatMap {α : Type} {f : α → List Byte} {n : Nat} (hf : ∀ a, (f a).length = n) (before after : List Byte)
    (l : List α) (i j : Nat) (hi : i < l.length) (hj : j < n) :
    u8 (before ++ (l.flatMap f ++ after)) (before.length + (n * i + j)) = u8 (f l[i]) j := by
  have key : ∀ (l : List α) (i : Nat) (hi : i < l.length), u8 (l.flatMap f ++ after) (n * i + j) = u8 (f l[i]) j := by
    intro l
    induction l with
    | nil => exact fun i hi => absurd hi (Nat.not_lt_zero i)
    | cons a l ih =>
      intro i hi
      unfold u8 at ih ⊢
      rw [List.flatMap_cons, List.append_assoc]
      cases i with
      | zero => rw [List.getD_append _ _ _ _ (by rw [hf]; omega)]; simp
      | succ i =>
        rw [List.getD_append_right _ _ _ _ (by rw [hf, Nat.mul_succ]; omega), hf,
          show n * (i + 1) + j - n = n * i + j by rw [Nat.mul_succ]; omega]
        exact ih i (Nat.lt_of_succ_lt_succ hi)
  have hshift : u8 (before ++ (l.flatMap f ++ after)) (before.length + (n * i + j)) =
      u8 (l.flatMap f ++ after) (n * i + j) := by
    unfold u8
    rw [List.getD_append_right _ _ _ _ (Nat.le_add_right _ _), Nat.add_sub_cancel_left]
  rw [hshift, key l i hi]

/-- A list is what is read from each of its places. -/
theorem range_map_eq {α : Type} {g : Nat → α} {l : List α} {n : Nat} (hn : l.length = n)
    (h : ∀ (j : Nat) (hj : j < l.length), g j = l[j]) : (List.range n).map g = l := by
  refine List.ext_getElem (by simp [hn]) fun j _ hj => ?_
  rw [List.getElem_map, List.getElem_range, h j hj]

theorem vgen_eq {α : Type} {n : Nat} {g : Nat → α} {v : Vector α n}
    (h : ∀ (j : Nat) (hj : j < v.toList.length), g j = v.toList[j]) : vgen n g = v :=
  Vector.toList_inj.1 (range_map_eq (by simp) h)

/-! A field at a place of a payload reads as the field at a place of the bytes laid out there. -/

section
variable {p q : List Byte} {a b : Nat}

theorem u16_shift (h : ∀ k, k < 2 → u8 p (a + k) = u8 q (b + k)) : u16 p a = u16 q b := by
  rw [u16, u16, h 1 (by omega), show u8 p a = u8 q b from h 0 (by omega)]

theorem u24_shift (h : ∀ k, k < 3 → u8 p (a + k) = u8 q (b + k)) : u24 p a = u24 q b := by
  rw [u24, u24, h 1 (by omega), h 2 (by omega), show u8 p a = u8 q b from h 0 (by omega)]

end

theorem calPairs_bytes (lo hi : Byte) (ps : List CalPair) :
    calPairs (lo :: hi :: ps.flatMap CalPair.bytes) ps.length = ps := by
  refine range_map_eq rfl fun j hj => ?_
  have byte (a k : Nat) (hk : k < 4) (ha : a = 2 + (4 * j + k)) :
      u8 (lo :: hi :: ps.flatMap CalPair.bytes) a = u8 ps[j].bytes k := by
    subst ha
    simpa using u8_flatMap calPair_bytes_length [lo, hi] [] ps j k hj hk
  have hrest : u16 (lo :: hi :: ps.flatMap CalPair.bytes) (2 + 4 * j) = u16 ps[j].bytes 0 :=
    u16_shift fun k hk => byte _ _ (by omega) (by omega)
  have hbottom : u16 (lo :: hi :: ps.flatMap CalPair.bytes) (4 + 4 * j) = u16 ps[j].bytes 2 :=
    u16_shift fun k hk => byte _ _ (by omega) (by omega)
  rw [hrest, hbottom]
  exact congrArg₂ CalPair.mk (join16 _) (join16 _)

theorem mapLayers_bytes (k n : Byte) (rh rd : W16) (pan : Byte) (ls : List LayerArg) :
    mapLayers (k :: n :: (le16 rh ++ le16 rd ++ pan :: ls.flatMap LayerArg.bytes)) ls.length = ls := by
  refine range_map_eq rfl fun j hj => ?_
  generalize hp : k :: n :: (le16 rh ++ le16 rd ++ pan :: ls.flatMap LayerArg.bytes) = p
  have byte (a i : Nat) (hi : i < 13) (ha : a = 7 + (13 * j + i)) : u8 p a = u8 ls[j].bytes i := by
    subst ha hp
    simpa [le16] using u8_flatMap layerArg_bytes_length
      (k :: n :: (le16 rh ++ le16 rd ++ [pan])) [] ls j i hj hi
  have hupper : u8 p (7 + 13 * j) = u8 ls[j].bytes 0 := byte _ _ (by omega) (by omega)
  have hstart : u24 p (8 + 13 * j) = u24 ls[j].bytes 1 := u24_shift fun k hk => byte _ _ (by omega) (by omega)
  have hlength : u24 p (11 + 13 * j) = u24 ls[j].bytes 4 := u24_shift fun k hk => byte _ _ (by omega) (by omega)
  have hloop : u24 p (14 + 13 * j) = u24 ls[j].bytes 7 := u24_shift fun k hk => byte _ _ (by omega) (by omega)
  have hend : u24 p (17 + 13 * j) = u24 ls[j].bytes 10 := u24_shift fun k hk => byte _ _ (by omega) (by omega)
  rw [hupper, hstart, hlength, hloop, hend]
  have h1 : u24 ls[j].bytes 1 = ls[j].start := join24 _
  have h2 : u24 ls[j].bytes 4 = ls[j].length := join24 _
  have h3 : u24 ls[j].bytes 7 = ls[j].loopStart := join24 _
  have h4 : u24 ls[j].bytes 10 = ls[j].loopLength := join24 _
  rw [h1, h2, h3, h4]
  rfl

theorem writeRecords_bytes (t n : Byte) (rs : List RawRecord) :
    writeRecords (t :: n :: rs.flatMap RawRecord.bytes) rs.length = rs := by
  refine range_map_eq rfl fun j hj => ?_
  have byte (a k : Nat) (hk : k < 5) (ha : a = 2 + (5 * j + k)) :
      u8 (t :: n :: rs.flatMap RawRecord.bytes) a = u8 rs[j].bytes k := by
    subst ha
    simpa using u8_flatMap rawRecord_bytes_length [t, n] [] rs j k hj hk
  have hdelta : u16 (t :: n :: rs.flatMap RawRecord.bytes) (3 + 5 * j) = u16 rs[j].bytes 1 :=
    u16_shift fun k hk => byte _ _ (by omega) (by omega)
  rw [byte _ 0 (by omega) (by omega), hdelta, byte _ 3 (by omega) (by omega), byte _ 4 (by omega) (by omega)]
  have h1 : u16 rs[j].bytes 1 = rs[j].delta := join16 _
  rw [h1]
  rfl

theorem curve_bytes (c : Byte) (ss : Vector W16 12) (vs : Vector Byte 12) :
    (vgen 12 fun j => u16 (c :: (ss.toList.flatMap le16 ++ vs.toList)) (1 + 2 * j)) = ss ∧
      (vgen 12 fun j => u8 (c :: (ss.toList.flatMap le16 ++ vs.toList)) (25 + j)) = vs := by
  refine ⟨vgen_eq fun j hj => ?_, vgen_eq fun j hj => ?_⟩
  · have byte (a k : Nat) (hk : k < 2) (ha : a = 1 + (2 * j + k)) :
        u8 (c :: (ss.toList.flatMap le16 ++ vs.toList)) a = u8 (le16 ss.toList[j]) k := by
      subst ha
      simpa using u8_flatMap le16_length [c] vs.toList ss.toList j k hj hk
    have hfield : u16 (c :: (ss.toList.flatMap le16 ++ vs.toList)) (1 + 2 * j) = u16 (le16 ss.toList[j]) 0 :=
      u16_shift fun k hk => byte _ _ (by omega) (by omega)
    exact hfield.trans (join16 _)
  · have hlen : (c :: ss.toList.flatMap le16).length = 25 := by
      simp [flatMap_length le16_length]
    unfold u8
    rw [← List.cons_append, List.getD_append_right _ _ _ _ (by omega), hlen, Nat.add_sub_cancel_left,
      List.getD_eq_getElem _ _ hj]

/-! ### Reading a frame -/

/-- A frame of one length, whose fields read as the operands. -/
theorem fixedLen_ok {f : Frame} {n : Nat} {i j : Instr} (hl : f.payload.length = n) (h : i = j) :
    fixedLen f n i = .ok j := by
  rw [fixedLen, if_pos hl, h]

theorem parseFrame_loadCal {lo hi : Byte} {ps : List CalPair} (h : calLengthOk lo hi ps.length = true) :
    parseFrame ⟨0x10#8, lo :: hi :: ps.flatMap CalPair.bytes⟩ = .ok (.loadCal lo hi ps) := by
  have hl : (lo :: hi :: ps.flatMap CalPair.bytes).length = 4 * ps.length + 2 := by
    simp [flatMap_length calPair_bytes_length]
  have hn : (lo :: hi :: ps.flatMap CalPair.bytes).length - 2 = 4 * ps.length := by omega
  have hdiv : 4 * ps.length / 4 = ps.length := Nat.mul_div_cancel_left _ (by decide)
  have hbound : 1 ≤ ps.length ∧ ps.length ≤ 14 := by
    simp only [calLengthOk, Bool.and_eq_true, decide_eq_true_eq] at h
    exact h.1
  refine (if_pos ?_).trans ?_
  · rw [hn, hdiv]
    exact ⟨by dsimp only; omega, by dsimp only; omega, Nat.mul_mod_right 4 _, h⟩
  · dsimp only
    rw [hn, hdiv, calPairs_bytes]
    rfl

theorem parseFrame_loadMap {k n : Byte} {rh rd : W16} {pan : Byte} {ls : List LayerArg}
    (h : mapLengthOk n ls.length = true) :
    parseFrame ⟨0x24#8, k :: n :: (le16 rh ++ le16 rd ++ pan :: ls.flatMap LayerArg.bytes)⟩ =
      .ok (.loadMap k n rh rd pan ls) := by
  have hl : (k :: n :: (le16 rh ++ le16 rd ++ pan :: ls.flatMap LayerArg.bytes)).length = 13 * ls.length + 7 := by
    simp [flatMap_length layerArg_bytes_length]
    omega
  have hn : (k :: n :: (le16 rh ++ le16 rd ++ pan :: ls.flatMap LayerArg.bytes)).length - 7 = 13 * ls.length := by
    omega
  have hdiv : 13 * ls.length / 13 = ls.length := Nat.mul_div_cancel_left _ (by decide)
  refine (if_pos ?_).trans ?_
  · rw [hn, hdiv]
    exact ⟨by dsimp only; omega, Nat.mul_mod_right 13 _, h⟩
  · dsimp only
    rw [hn, hdiv, mapLayers_bytes]
    exact congrArg₂ (fun a b => Except.ok (Instr.loadMap k n a b pan ls)) (join16 rh) (join16 rd)

theorem parseFrame_takeWrite {t n : Byte} {rs : List RawRecord} (h : writeLengthOk n rs.length = true) :
    parseFrame ⟨0x35#8, t :: n :: rs.flatMap RawRecord.bytes⟩ = .ok (.takeWrite t n rs) := by
  have hl : (t :: n :: rs.flatMap RawRecord.bytes).length = 5 * rs.length + 2 := by
    simp [flatMap_length rawRecord_bytes_length]
  have hn : (t :: n :: rs.flatMap RawRecord.bytes).length - 2 = 5 * rs.length := by omega
  have hdiv : 5 * rs.length / 5 = rs.length := Nat.mul_div_cancel_left _ (by decide)
  have hbound : 1 ≤ rs.length ∧ rs.length ≤ 10 := by
    simp only [writeLengthOk, Bool.and_eq_true, decide_eq_true_eq] at h
    exact h.1
  refine (if_pos ?_).trans ?_
  · rw [hn, hdiv]
    exact ⟨by dsimp only; omega, by dsimp only; omega, Nat.mul_mod_right 5 _, h⟩
  · dsimp only
    rw [hn, hdiv, writeRecords_bytes]
    rfl

/-- Settles O12: each field is read back from its bytes, and a list of fields from the bytes of its elements. -/
theorem parseReadsBackEveryCommand : Obligations.ParseReadsBackEveryCommand := by
  intro i f hf hok
  cases i
  case unknownType t p => exact absurd hok Bool.false_ne_true
  case loadCal lo hi ps =>
    cases hf
    exact parseFrame_loadCal hok
  case loadMap k n rh rd pan ls =>
    cases hf
    exact parseFrame_loadMap hok
  case takeWrite t n rs =>
    cases hf
    exact parseFrame_takeWrite hok
  case setCurve c ss vs =>
    cases hf
    obtain ⟨hs, hv⟩ := curve_bytes c ss vs
    refine fixedLen_ok ?_ ?_
    · simp [flatMap_length le16_length]
    · rw [hs, hv]
      rfl
  all_goals
    cases hf <;> refine fixedLen_ok rfl ?_
  all_goals
    simp only [le16, le32, List.cons_append, List.nil_append, u8_zero, u8_succ, u16_zero, u16_succ, u32_zero, u32_succ]

end Sys2Proof.Machine
end

section
/-! PROOFS. The receiver (sections 11.1 to 11.3): a byte in each state of the framer, the last byte of a frame, the
frames the decoder refuses, the frames that wait. -/

namespace Sys2Proof.Machine

open Sys2Proof.StepRows

/-! ### The parity bit -/

theorem foldl_xor_eq (f : Nat → Bool) (l : List Nat) (p : Bool) :
    l.foldl (fun p i => xor p (f i)) p = xor p (decide ((l.filter f).length % 2 = 1)) := by
  induction l generalizing p with
  | nil => simp
  | cons i l ih =>
    rw [List.foldl_cons, ih, List.filter_cons]
    cases hf : f i with
    | false => simp
    | true =>
      rw [if_pos rfl, List.length_cons, Bool.xor_assoc]
      congr 1
      rcases Nat.mod_two_eq_zero_or_one (l.filter f).length with h | h <;> simp [h, Nat.add_mod]

theorem evenParity_eq (b : Byte) :
    evenParity b = decide (((List.range 8).filter fun i => b.getLsbD i).length % 2 = 1) := by
  rw [evenParity, foldl_xor_eq, Bool.false_xor]

theorem byteErrorOf_tailOf (b : Byte) : byteErrorOf b (tailOf b) = .none := by
  simp [byteErrorOf, tailOf]

/-! ### A byte in time -/

/-- The line is heard and the byte is in time: no error is held and no GAP is overdue. -/
structure Link.InTime (l : Link) : Prop where
  heard : l.ignoring = false
  held : l.held = false
  gap : l.gapUs ≤ 1011

/-- A byte in time finds nothing overdue. -/
theorem Link.InTime.nothingDue {s : State} (h : s.link.InTime) :
    overdueFrameGap (settleHeld s) = s ∧ s.link.ignoring = false := by
  have hheld : settleHeld s = s := if_neg (ne_true_of_eq_false h.held)
  have hgap : overdueFrameGap s = s := if_neg fun hg => absurd hg.2 (Nat.not_lt.2 h.gap)
  exact ⟨by rw [hheld, hgap], h.heard⟩

theorem takeByte_good {s : State} (h : s.link.InTime) (b : Byte) : takeByte b .none s = frameByte b s := by
  rw [takeByte, if_neg (ne_true_of_eq_false h.nothingDue.2), h.nothingDue.1]

theorem takeByte_parity {s : State} (h : s.link.InTime) (b : Byte) : takeByte b .parity s = byteError s := by
  rw [takeByte, if_neg (ne_true_of_eq_false h.nothingDue.2), h.nothingDue.1]

theorem takeByte_framing {s : State} (h : s.link.InTime) (b : Byte) :
    takeByte b .framing s = s.withLink { s.link with held := true } := by
  rw [takeByte, if_neg (ne_true_of_eq_false h.nothingDue.2), h.nothingDue.1]

theorem exec_byte {s : State} (hr : s.running = true) {b : Byte} {tail : TailBits} {t : State}
    (ht : takeByte b (byteErrorOf b tail) s = t) : exec (.byteReceived b tail) s = .next (pump t) := by
  rw [exec_whenRunning (f := takeByte b (byteErrorOf b tail)) (fun _ => rfl) hr, ht]

section
variable {s : State} (b : Byte)

theorem frameByte_hunt (h : s.link.framer = .hunt) :
    frameByte b s = if b = 0xA5#8 then setFramer .length s else s := by
  rw [frameByte, h]

theorem frameByte_length (h : s.link.framer = .length) :
    frameByte b s = if b.toNat ≤ 60 then setFramer (.body b.toNat []) s else dropFrame .length s := by
  rw [frameByte, h]

theorem frameByte_body {len : Nat} {got : List Byte} (h : s.link.framer = .body len got) :
    frameByte b s = setFramer (if got.length = len then .check len (got ++ [b]) else .body len (got ++ [b])) s := by
  rw [frameByte, h]
  dsimp only
  simp only [List.length_append, List.length_singleton, Nat.add_right_cancel_iff]
  split <;> rfl

theorem frameByte_check {len : Nat} {got : List Byte} (h : s.link.framer = .check len got) :
    frameByte b s = frameEnds len got b s := by
  rw [frameByte, h]

end

theorem frameArrives_eq (f : Frame) (s : State) :
    frameArrives f s = s.withLink (if s.link.intake.length < 4 then { s.link with intake := s.link.intake ++ [f] }
      else s.link.note (.linkError .overrun) s.clock.ms) := by
  unfold frameArrives
  split <;> rfl

/-- Settles O10: the byte as it comes out of the receiver, by the framer's state. -/
theorem framerTakesBytes : Obligations.FramerTakesBytes := by
  intro s b p h hi hh hg ones good bad
  have hin : s.link.InTime := ⟨hi, hh, hg⟩
  have hgood : byteErrorOf b good = .none := by
    have hp : good.parity = evenParity b := (evenParity_eq b).symm
    simp [byteErrorOf, good, ← hp]
  have hbad : byteErrorOf b bad = .parity := by
    have hp : bad.parity ≠ evenParity b := by
      rw [evenParity_eq]
      show decide (ones % 2 = 0) ≠ decide (ones % 2 = 1)
      rcases Nat.mod_two_eq_zero_or_one ones with h | h <;> simp [h]
    simp [byteErrorOf, bad, hp]
  have htake : takeByte b (byteErrorOf b good) s = frameByte b s := by rw [hgood, takeByte_good hin]
  have set (f : Framer) : pump (setFramer f s) = setFramer f s := pump_receiver h f 0 s.link.held s.link.ignoring
  have drop (why : LinkReason) : pump (dropFrame why s) =
      { s with link := Link.notify { s.link with framer := .hunt, gapUs := 0 } (.linkError why) s.clock.ms } :=
    pump_receiver_raise h .hunt 0 s.link.held s.link.ignoring (.linkError why)
  refine ⟨fun hf => ?_, fun hf => ?_, fun len got hf => ?_, fun len got hf hsum => ?_,
    fun len type payload hf hsum hclosed => ?_, ?_, ?_⟩
  · rw [exec_byte h.1 htake, frameByte_hunt b hf]
    by_cases hb : b = 0xA5#8
    · rw [if_pos hb, if_pos hb, set]
      rfl
    · rw [if_neg hb, if_neg hb, pump_steady h]
  · rw [exec_byte h.1 htake, frameByte_length b hf]
    by_cases hb : b.toNat ≤ 60
    · rw [if_pos hb, if_pos hb, set]
      rfl
    · rw [if_neg hb, if_neg hb, drop]
  · rw [exec_byte h.1 htake, frameByte_body b hf, set]
    rfl
  · rw [exec_byte h.1 htake, frameByte_check b hf, frameEnds, if_neg hsum, drop]
  · rw [exec_byte h.1 htake, frameByte_check b hf, frameEnds, if_pos hsum, frameArrives_eq]
    congr 1
    by_cases hl : s.link.intake.length < 4
    · rw [if_pos hl, if_pos (by exact hl)]
      exact pump_steady (s := s.withLink { s.link with
        framer := .hunt, gapUs := 0, intake := s.link.intake ++ [⟨type, payload⟩] }) ⟨h.1, .inr hclosed, h.2.2⟩
    · rw [if_neg hl, if_neg (by exact hl)]
      exact pump_receiver_raise h .hunt 0 s.link.held s.link.ignoring (.linkError .overrun)
  · have hb : takeByte b (byteErrorOf b bad) s = if s.link.framer = .hunt then s else dropFrame .byte s := by
      rw [hbad, takeByte_parity hin, ← byteError_eq]
    rw [exec_byte h.1 hb]
    by_cases hf : s.link.framer = .hunt
    · rw [if_pos hf, if_pos hf, pump_steady h]
    · rw [if_neg hf, if_neg hf, drop]
  · have hb : takeByte b (byteErrorOf b ⟨p, false⟩) s = s.withLink { s.link with held := true } :=
      takeByte_framing hin b
    rw [exec_byte h.1 hb]
    exact congrArg Host.Outcome.next (pump_receiver h s.link.framer s.link.gapUs true s.link.ignoring)

/-! ### The last byte of a frame -/

theorem runFrame_running (f : Frame) (s : State) : (runFrame f s).running = s.running := by
  unfold runFrame
  split
  · exact runCommand_running _ s
  · rfl

theorem runFrame_intake (f : Frame) (s : State) : (runFrame f s).link.intake = s.link.intake := by
  unfold runFrame
  split
  · exact (runCommand_link _ s).2.2
  · rfl

/-- The last byte of a good frame, at a part whose decoder is open: the frame runs on the state with the framer back in
HUNT, and then the transmitter chooses. -/
theorem exec_lastByte {s : State} {b : Byte} {f : Frame} {len : Nat} (h : s.Ready) (hs : s.link.Settled)
    (hheld : s.link.held = false) (hgap : s.link.gapUs ≤ 1011) (hf : s.link.framer = .check len (f.type :: f.payload))
    (hsum : byteSum (BitVec.ofNat 8 len :: (f.type :: f.payload) ++ [b]) = 0#8) :
    exec (.byteReceived b (tailOf b)) s =
      .next (chooseTx (runFrame f { s with link := { s.link with framer := .hunt, gapUs := 0 } })) := by
  obtain ⟨hr, hi, hopen, hempty⟩ := h
  generalize hu : ({ s with link := { s.link with framer := .hunt, gapUs := 0 } } : State) = u
  have hur : u.running = true := hu ▸ hr
  have huopen : u.link.decoderOpen = true := hu ▸ hopen
  have huempty : u.link.intake = [] := hu ▸ hempty
  have hus : u.link.Settled := hu ▸ hs
  have hin : s.link.InTime := ⟨hi, hheld, hgap⟩
  have ht : takeByte b (byteErrorOf b (tailOf b)) s = u.withLink { u.link with intake := [f] } := by
    rw [byteErrorOf_tailOf, takeByte_good hin, frameByte_check b hf]
    refine (if_pos hsum).trans ((frameArrives_eq _ _).trans ?_)
    have hlen : ({ s.link with framer := .hunt, gapUs := 0 } : Link).intake.length < 4 := by
      rw [show ({ s.link with framer := .hunt, gapUs := 0 } : Link).intake = [] from hempty]
      exact Nat.zero_lt_succ 3
    rw [if_pos (by exact hlen), ← hu]
    show s.withLink { s.link with framer := .hunt, gapUs := 0, intake := s.link.intake ++ [f] } = _
    rw [hempty]
    rfl
  have hchoose : chooseTx (u.withLink { u.link with intake := [f] }) = u.withLink { u.link with intake := [f] } := by
    have hsend : Link.transmit { u.link with intake := [f] } = { u.link with intake := [f] } := by
      rcases hus.2 with h' | h' | ⟨h1, h2⟩
      · exact Link.transmit_of_held _ (.inl h')
      · exact Link.transmit_of_held _ (.inr h')
      · exact Link.transmit_of_empty _ h1 h2
    exact congrArg u.withLink hsend
  have hcommand : takeCommand (u.withLink { u.link with intake := [f] }) = runFrame f u := by
    have hback : (u.withLink { u.link with intake := [f] }).withLink { u.link with intake := [] } = u := by
      rw [← huempty]
      rfl
    refine (if_pos (by exact huopen)).trans ?_
    exact congrArg (runFrame f) hback
  rw [exec_byte hr ht, pump, if_pos (by exact hur), hchoose, hcommand, takeCommand_of_nil]
  rw [← huempty, ← runFrame_intake f u]
  exact Link.transmit_intake _

/-! ### Refused frames -/

/-- Each command of one layout with its LEN (section 11.7). -/
def fixedLengths : List (Nat × Nat) :=
  [(0x01, 0), (0x02, 0), (0x03, 2), (0x11, 2), (0x12, 0), (0x13, 13), (0x14, 4), (0x15, 1), (0x16, 37),
    (0x17, 1), (0x18, 5), (0x19, 13), (0x1A, 1), (0x20, 7), (0x21, 1), (0x25, 3), (0x26, 0), (0x28, 1),
    (0x29, 0), (0x2A, 6), (0x30, 2), (0x31, 0), (0x32, 1), (0x33, 1), (0x34, 1), (0x36, 1), (0x37, 4),
    (0x40, 5), (0x41, 0), (0x42, 0), (0x43, 0), (0x44, 4), (0x45, 2), (0x46, 8), (0x47, 2), (0x48, 3),
    (0x49, 0), (0x4A, 16), (0x50, 11), (0x51, 8), (0x52, 14), (0x53, 0)]

theorem parseFrame_fixed {f : Frame} {n : Nat} (h : (f.type.toNat, n) ∈ fixedLengths) :
    ∃ i, parseFrame f = fixedLen f n i := by
  have each : ∀ x ∈ fixedLengths, f.type.toNat = x.1 → ∃ i, parseFrame f = fixedLen f x.2 i := by
    unfold fixedLengths
    simp only [List.forall_mem_cons, List.not_mem_nil, false_imp_iff, implies_true, and_true]
    and_intros
    all_goals
      intro ht
      unfold parseFrame
      rw [ht]
      exact ⟨_, rfl⟩
  exact each _ h rfl

theorem parseFrame_unknown {f : Frame} (h3 : f.type.toNat ∉ [0x10, 0x24, 0x35])
    (hf : f.type.toNat ∉ fixedLengths.map Prod.fst) : parseFrame f = .error .unknownType := by
  unfold parseFrame
  split
  all_goals first
    | rfl
    | next ht => exact absurd (by rw [ht]; decide) hf
    | next ht => exact absurd (by rw [ht]; decide) h3

theorem fixedLengths_unique : ∀ x ∈ fixedLengths, ∀ y ∈ fixedLengths, x.1 = y.1 → x.2 = y.2 := by decide

section
variable {f : Frame}

theorem parseFrame_cal (h : f.type.toNat = 0x10) :
    parseFrame f = if 6 ≤ f.payload.length ∧ f.payload.length ≤ 58 ∧ (f.payload.length - 2) % 4 = 0 ∧
        calLengthOk (u8 f.payload 0) (u8 f.payload 1) ((f.payload.length - 2) / 4) then
      .ok (.loadCal (u8 f.payload 0) (u8 f.payload 1) (calPairs f.payload ((f.payload.length - 2) / 4)))
    else .error .badLength := by
  unfold parseFrame
  rw [h]
  rfl

theorem parseFrame_map (h : f.type.toNat = 0x24) :
    parseFrame f = if 7 ≤ f.payload.length ∧ (f.payload.length - 7) % 13 = 0 ∧
        mapLengthOk (u8 f.payload 1) ((f.payload.length - 7) / 13) then
      .ok (.loadMap (u8 f.payload 0) (u8 f.payload 1) (u16 f.payload 2) (u16 f.payload 4) (u8 f.payload 6)
        (mapLayers f.payload ((f.payload.length - 7) / 13)))
    else .error .badLength := by
  unfold parseFrame
  rw [h]
  rfl

theorem parseFrame_write (h : f.type.toNat = 0x35) :
    parseFrame f = if 7 ≤ f.payload.length ∧ f.payload.length ≤ 52 ∧ (f.payload.length - 2) % 5 = 0 ∧
        writeLengthOk (u8 f.payload 1) ((f.payload.length - 2) / 5) then
      .ok (.takeWrite (u8 f.payload 0) (u8 f.payload 1) (writeRecords f.payload ((f.payload.length - 2) / 5)))
    else .error .badLength := by
  unfold parseFrame
  rw [h]
  rfl

/-- The two outcomes of a length check. -/
theorem parse_outcome {c d : Prop} [Decidable c] {i : Instr}
    (h : parseFrame f = if c then .ok i else .error .badLength) (hcd : c ↔ d) :
    (¬d → parseFrame f = .error .badLength) ∧ (d → ∃ i, parseFrame f = .ok i) :=
  ⟨fun hd => h.trans (if_neg fun hc => hd (hcd.1 hc)), fun hd => ⟨i, h.trans (if_pos (hcd.2 hd))⟩⟩

end

/-- The length rule of section 11.7 for the frames of a known TYPE. -/
def lengthRule (f : Frame) : Prop :=
  let n := f.payload.length
  let first := (f.payload.getD 0 0#8).toNat
  let second := (f.payload.getD 1 0#8).toNat
  if f.type.toNat = 0x10 then
    6 ≤ n ∧ n ≤ 58 ∧ (n - 2) % 4 = 0 ∧ (first ≤ second → second ≤ 87 → (n - 2) / 4 = second - first + 1)
  else if f.type.toNat = 0x24 then n ∈ [7, 20, 33, 46, 59] ∧ (second ≤ 4 → n = 7 + 13 * second)
  else if f.type.toNat = 0x35 then 7 ≤ n ∧ n ≤ 52 ∧ (n - 2) % 5 = 0 ∧ second = (n - 2) / 5
  else (f.type.toNat, n) ∈ fixedLengths

theorem calRule_iff {first second : Byte} {n : Nat} :
    (6 ≤ n ∧ n ≤ 58 ∧ (n - 2) % 4 = 0 ∧ calLengthOk first second ((n - 2) / 4) = true) ↔
      6 ≤ n ∧ n ≤ 58 ∧ (n - 2) % 4 = 0 ∧
        (first.toNat ≤ second.toNat → second.toNat ≤ 87 → (n - 2) / 4 = second.toNat - first.toNat + 1) := by
  simp only [calLengthOk, Bool.and_eq_true, Bool.or_eq_true, Bool.not_eq_true', decide_eq_true_eq,
    decide_eq_false_iff_not, beq_iff_eq]
  omega

theorem mapRule_iff {second : Byte} {n : Nat} :
    (7 ≤ n ∧ (n - 7) % 13 = 0 ∧ mapLengthOk second ((n - 7) / 13) = true) ↔
      n ∈ [7, 20, 33, 46, 59] ∧ (second.toNat ≤ 4 → n = 7 + 13 * second.toNat) := by
  simp only [mapLengthOk, Bool.and_eq_true, Bool.or_eq_true, decide_eq_true_eq, beq_iff_eq, List.mem_cons,
    List.not_mem_nil, or_false]
  omega

theorem writeRule_iff {second : Byte} {n : Nat} :
    (7 ≤ n ∧ n ≤ 52 ∧ (n - 2) % 5 = 0 ∧ writeLengthOk second ((n - 2) / 5) = true) ↔
      7 ≤ n ∧ n ≤ 52 ∧ (n - 2) % 5 = 0 ∧ second.toNat = (n - 2) / 5 := by
  simp only [writeLengthOk, Bool.and_eq_true, decide_eq_true_eq, beq_iff_eq]
  omega

/-- A frame of a known TYPE is a command exactly when its length is one of its layout. -/
theorem parseFrame_known {f : Frame}
    (h : f.type.toNat ∈ [0x10, 0x24, 0x35] ∨ f.type.toNat ∈ fixedLengths.map Prod.fst) :
    (¬lengthRule f → parseFrame f = .error .badLength) ∧ (lengthRule f → ∃ i, parseFrame f = .ok i) := by
  unfold lengthRule
  dsimp only
  by_cases h1 : f.type.toNat = 0x10
  · rw [if_pos h1]
    exact parse_outcome (parseFrame_cal h1) calRule_iff
  · rw [if_neg h1]
    by_cases h2 : f.type.toNat = 0x24
    · rw [if_pos h2]
      exact parse_outcome (parseFrame_map h2) mapRule_iff
    · rw [if_neg h2]
      by_cases h3 : f.type.toNat = 0x35
      · rw [if_pos h3]
        exact parse_outcome (parseFrame_write h3) writeRule_iff
      · rw [if_neg h3]
        obtain ⟨⟨t, m⟩, hm, ht⟩ := List.mem_map.1 (h.resolve_left (by simp [h1, h2, h3]))
        obtain rfl : t = f.type.toNat := ht
        obtain ⟨i, hi⟩ := parseFrame_fixed hm
        refine parse_outcome hi ⟨fun hn => hn ▸ hm, fun hn => ?_⟩
        exact fixedLengths_unique _ hn _ hm rfl

/-- A command whose count disagrees with what it carries is refused by the block that owns it. -/
theorem runCommand_badLength {i : Instr} {f : Frame} (hf : frameOf i = some f) (hc : isCommand i = true)
    (hok : lengthsOk i = false) (s : State) : runCommand i s = answer f.type .badLength s := by
  cases i
  case loadCal lo hi ps =>
    cases hf
    exact if_pos (by rw [show calLengthOk lo hi ps.length = false from hok]; rfl)
  case loadMap k n rh rd pan ls =>
    cases hf
    exact if_pos (by rw [show mapLengthOk n ls.length = false from hok]; rfl)
  case takeWrite t n rs =>
    cases hf
    exact if_pos (by rw [show writeLengthOk n rs.length = false from hok]; rfl)
  all_goals first
    | exact absurd hok.symm Bool.false_ne_true
    | exact absurd hc Bool.false_ne_true

/-- A TYPE that a well-formed frame of no command carries is none of the known ones. -/
theorem parseFrame_unknownType {t : Byte} {p : List Byte} (h : (Instr.unknownType t p).wf = true) :
    parseFrame ⟨t, p⟩ = .error .unknownType := by
  have hno : commandCodes.contains t.toNat = false := by
    simp only [Instr.wf, Bool.and_eq_true, Bool.not_eq_true'] at h
    exact h.2
  have hcodes : ∀ c ∈ [0x10, 0x24, 0x35] ++ fixedLengths.map Prod.fst, commandCodes.contains c = true := by decide
  refine parseFrame_unknown (fun hm => ?_) fun hm => ?_
  · exact absurd (hcodes _ (List.mem_append_left _ hm)) (ne_true_of_eq_false hno)
  · exact absurd (hcodes _ (List.mem_append_right _ hm)) (ne_true_of_eq_false hno)

/-- The step of a frame of no command, at a part that is ready for commands. -/
theorem exec_unknownType {s : State} {t : Byte} {p : List Byte} (h : s.Ready)
    (hw : (Instr.unknownType t p).wf = true) :
    exec (.unknownType t p) s = .next { s with link := s.link.reply t .unknownType [] } := by
  have ⟨hr, _, _, hi⟩ := h
  have hrun : runFrame ⟨t, p⟩ s = answer t .unknownType s := by
    rw [runFrame, parseFrame_unknownType hw]
    rfl
  rw [exec_eq]
  show Host.Outcome.next (pump (hostCommand (.unknownType t p) (runFrame ⟨t, p⟩) s)) = _
  rw [hostCommand_of_ready h rfl (frame_fits hw rfl), hrun, pump_of_nil (by exact hr) (by exact hi)]
  rfl

theorem isCommand_of_frameOf {i : Instr} {f : Frame} (hf : frameOf i = some f)
    (hu : ∀ t p, i ≠ .unknownType t p) : isCommand i = true := by
  cases i <;> first | rfl | exact absurd rfl (hu _ _) | cases hf

/-- Settles O13: as a row by the owner's count check, as a frame by the decoder's, as bytes by the frame's last byte. -/
theorem decoderRefusesBadFrames : Obligations.DecoderRefusesBadFrames := by
  refine ⟨fun s i f h hw hf hok => ?_, fun f => ?_, fun s f st len b h hs hh hg hfr hsum hp => ?_⟩
  · by_cases hu : ∃ t p, i = .unknownType t p
    · obtain ⟨t, p, rfl⟩ := hu
      cases hf
      exact exec_unknownType h hw
    · have hc : isCommand i = true := isCommand_of_frameOf hf fun t p hi => hu ⟨t, p, hi⟩
      refine exec_answer h hc hw (runCommand_badLength hf hc hok s) ?_
      split
      · next _ t p => exact absurd ⟨t, p, rfl⟩ hu
      · rfl
  · intro n first second lengthOk known
    refine ⟨fun hk => ?_, fun hk => (parseFrame_known hk).1, fun hk => (parseFrame_known hk).2⟩
    obtain ⟨h3, hfx⟩ := not_or.1 hk
    exact parseFrame_unknown h3 hfx
  · have hrun (u : State) : runFrame f u = answer f.type st u := by
      rw [runFrame, hp]
      rfl
    rw [exec_lastByte h hs hh hg hfr hsum, hrun]
    rfl

/-! ### The arrival of a whole frame -/

theorem byteSum_append (bs : List Byte) (b : Byte) : byteSum (bs ++ [b]) = byteSum bs + b := by
  rw [byteSum, byteSum, List.foldl_append]
  rfl

theorem byteSum_check (f : Frame) :
    byteSum (BitVec.ofNat 8 f.payload.length :: (f.type :: f.payload) ++ [f.check]) = 0#8 := by
  rw [byteSum_append, Frame.check]
  exact BitVec.add_right_neg _

/-- The decoder refuses the frame of a command whose count disagrees with what it carries. -/
theorem parseFrame_badLength {i : Instr} {f : Frame} (hf : frameOf i = some f) (hc : isCommand i = true)
    (hok : lengthsOk i = false) : parseFrame f = .error .badLength := by
  cases i
  case loadCal lo hi ps =>
    cases hf
    have hm : ((lo :: hi :: ps.flatMap CalPair.bytes).length - 2) / 4 = ps.length := by
      simp [Laws.Wire.flatMap_length Laws.Wire.calPair_bytes_length]
    refine (parseFrame_cal rfl).trans (if_neg fun h => ?_)
    rw [hm] at h
    exact absurd h.2.2.2 (ne_true_of_eq_false hok)
  case loadMap k n rh rd pan ls =>
    cases hf
    have hm : ((k :: n :: (le16 rh ++ le16 rd ++ pan :: ls.flatMap LayerArg.bytes)).length - 7) / 13 = ls.length := by
      simp [Laws.Wire.flatMap_length Laws.Wire.layerArg_bytes_length]
      omega
    refine (parseFrame_map rfl).trans (if_neg fun h => ?_)
    rw [hm] at h
    exact absurd h.2.2 (ne_true_of_eq_false hok)
  case takeWrite t n rs =>
    cases hf
    have hm : ((t :: n :: rs.flatMap RawRecord.bytes).length - 2) / 5 = rs.length := by
      simp [Laws.Wire.flatMap_length Laws.Wire.rawRecord_bytes_length]
    refine (parseFrame_write rfl).trans (if_neg fun h => ?_)
    rw [hm] at h
    exact absurd h.2.2.2 (ne_true_of_eq_false hok)
  all_goals first
    | exact absurd hok.symm Bool.false_ne_true
    | exact absurd hc Bool.false_ne_true

/-- The frame of a command runs as the command, also where it is refused. -/
theorem exec_of_frame {s : State} {i : Instr} {f : Frame} (h : s.Ready) (hw : i.wf = true) (hf : frameOf i = some f) :
    exec i s = .next (chooseTx (runFrame f s)) := by
  by_cases hu : ∃ t p, i = .unknownType t p
  · obtain ⟨t, p, rfl⟩ := hu
    cases hf
    rw [exec_unknownType h hw, runFrame, parseFrame_unknownType hw]
    rfl
  · have hc : isCommand i = true := isCommand_of_frameOf hf fun t p hi => hu ⟨t, p, hi⟩
    rw [exec_of_ready h hc hw]
    congr 2
    cases hok : lengthsOk i with
    | true => rw [runFrame, parseReadsBackEveryCommand i f hf hok]
    | false =>
      rw [runCommand_badLength hf hc hok, runFrame, parseFrame_badLength hf hc hok]
      rfl

/-- Settles O15: the last byte runs the frame on the state with the framer in HUNT, and so does the command's row. -/
theorem frameArrivalRunsItsCommand : Obligations.FrameArrivalRunsItsCommand := by
  intro s i f h hs hh hg hw hf hfr
  rw [exec_lastByte h hs hh hg hfr (byteSum_check f)]
  exact (exec_of_frame (s := { s with link := { s.link with framer := .hunt, gapUs := 0 } }) h hw hf).symm

/-! ### Frames that wait -/

theorem decoderOpen_eq_false {l : Link} (h : l.slot.isSome = true ∨ l.resetAwait = true) : l.decoderOpen = false := by
  unfold Link.decoderOpen
  rcases h with h | h
  · rw [Option.isSome_iff_exists] at h
    obtain ⟨r, hr⟩ := h
    rw [hr]
    rfl
  · rw [h, Bool.not_true, Bool.and_false]

/-- Settles O16: the frame joins the intake or is lost, and a closed decoder takes nothing. -/
theorem closedDecoderLetsFramesWait : Obligations.ClosedDecoderLetsFramesWait := by
  refine ⟨fun s i f h hi hclosed hw hf => ?_, fun s => ?_⟩
  · obtain ⟨take, hrow⟩ := frameOf_rowAct hf s
    have hopen : s.link.decoderOpen = false := decoderOpen_eq_false hclosed
    have hcommand : hostCommand i take s = frameArrives f s := by
      rw [hostCommand, hf]
      simp [h.1, hi, hopen, Config.maxPayload, Nat.not_lt.2 (frame_fits hw hf)]
    rw [exec_eq, hrow, hcommand, frameArrives_eq]
    congr 1
    by_cases hl : s.link.intake.length < 4
    · rw [if_pos hl, if_pos hl]
      exact pump_steady (s := s.withLink { s.link with intake := s.link.intake ++ [f] }) ⟨h.1, .inr hclosed, h.2.2⟩
    · rw [if_neg hl, if_neg hl]
      exact pump_receiver_raise h s.link.framer s.link.gapUs s.link.held s.link.ignoring (.linkError .overrun)
  · rw [State.rts, Bool.and_eq_true, decide_eq_true_eq]

end Sys2Proof.Machine
end

section
/-! PROOFS. The transmitter and the notice queue (section 11.4), the bytes and bits of the part's frames (sections 11.1,
11.2, 11.6, 11.8). -/

namespace Sys2Proof.Machine

open Sys2Proof.StepRows

/-! ### The transmitter's choice -/

theorem highestClass_eq {a b : List Notice} {n : Notice} (ha : ∀ m ∈ a, m.cls < n.cls) (hb : ∀ m ∈ b, m.cls ≤ n.cls) :
    highestClass (a ++ n :: b) = n.cls := by
  obtain ⟨⟨m, hm, hc⟩, hall⟩ := highestClass_spec (q := a ++ n :: b) (by simp)
  have hn : n.cls ≤ highestClass (a ++ n :: b) := hall n (by simp)
  rcases List.mem_append.1 hm with hm | hm
  · have := ha m hm
    omega
  · rcases List.mem_cons.1 hm with rfl | hm
    · exact hc.symm
    · have := hb m hm
      omega

theorem takeOldest_eq {a b : List Notice} {n : Notice} (ha : ∀ m ∈ a, m.cls < n.cls) (hb : ∀ m ∈ b, m.cls ≤ n.cls) :
    takeOldest (a ++ n :: b) = some (n, a ++ b) := by
  have hno : ∀ m ∈ a, ¬(m.cls == n.cls) = true := fun m hm h => by
    have := ha m hm
    rw [eq_of_beq h] at this
    exact Nat.lt_irrefl _ this
  have hfind : (a ++ n :: b).find? (fun m => m.cls == n.cls) = some n := by
    rw [List.find?_append, List.find?_eq_none.2 hno, List.find?_cons_of_pos (by simp)]
    rfl
  have herase : (a ++ n :: b).eraseP (fun m => m.cls == n.cls) = a ++ b := by
    rw [List.eraseP_append_right _ hno, List.eraseP_cons_of_pos (by simp)]
  rw [takeOldest, highestClass_eq ha hb, hfind, herase]

/-- Settles O17: an idle transmitter with CTS asserted takes the slot, or the oldest notice of the highest class. -/
theorem transmitterSendsRepliesThenClasses : Obligations.TransmitterSendsRepliesThenClasses := by
  intro l
  have hfree : l.tx = none → l.cts = true → ¬(l.tx.isSome || !l.cts) = true := fun htx hcts => by simp [htx, hcts]
  refine ⟨l.transmit_of_held, fun r htx hcts hslot => ?_, fun a n b htx hcts hslot hq ha hb => ?_,
    l.transmit_of_empty⟩
  · rw [Link.transmit, if_neg (hfree htx hcts), hslot]
  · rw [Link.transmit, if_neg (hfree htx hcts), hslot, hq]
    dsimp only
    rw [takeOldest_eq ha hb]

/-! ### Placing a notice -/

theorem lowestClass_eq {q : List Notice} {x : Notice} (hx : x ∈ q) (h : ∀ m ∈ q, x.cls ≤ m.cls) :
    lowestClass q = some x.cls := by
  obtain ⟨c, hc⟩ := lowestClass_isSome (List.ne_nil_of_mem hx)
  obtain ⟨⟨m, hm, hmc⟩, hall⟩ := lowestClass_spec hc
  have h1 := hall x hx
  have h2 := h m hm
  rw [hc]
  congr 1
  omega

theorem removeNewest_eq {a b : List Notice} {x : Notice} (h : ∀ m ∈ b, m.cls ≠ x.cls) :
    removeNewest x.cls (a ++ x :: b) = a ++ b := by
  have hno : ∀ m ∈ b.reverse, ¬(m.cls == x.cls) = true := fun m hm =>
    fun he => h m (List.mem_reverse.1 hm) (eq_of_beq he)
  have hr : (a ++ x :: b).reverse = b.reverse ++ x :: a.reverse := by simp
  rw [removeNewest, hr, List.eraseP_append_right _ hno, List.eraseP_cons_of_pos (by simp)]
  simp

/-- Settles O19: a full queue by the lowest class in it. -/
theorem fullQueueKeepsTheHigherClasses : Obligations.FullQueueKeepsTheHigherClasses := by
  refine ⟨fun l body ms => rfl, fun l n => ⟨fun h => if_pos h, fun a x b hlen hq hlow hb hcls => ?_,
    fun hlen hall => ?_⟩⟩
  · have hx : x ∈ l.notices := by rw [hq]; simp
    rw [Link.place, if_neg (by omega), lowestClass_eq hx hlow]
    dsimp only
    rw [if_pos hcls, hq, removeNewest_eq hb]
  · obtain ⟨c, hc⟩ := lowestClass_isSome (q := l.notices) (List.ne_nil_of_length_pos (by omega))
    obtain ⟨⟨m, hm, rfl⟩, -⟩ := lowestClass_spec hc
    rw [Link.place, if_neg (by omega), hc]
    exact if_neg (Nat.not_lt.2 (hall m hm))

/-! ### Fields of several bytes -/

/-- The bytes of fields, each given by its size and its number, least significant byte first (R191). -/
def fieldBytes (fs : List (Nat × Nat)) : List Byte :=
  fs.flatMap fun f => (List.range f.1).map fun i => BitVec.ofNat 8 (f.2 / 256 ^ i)

theorem extractLsb'_ofNat (w n i : Nat) (h : i + 8 ≤ w) :
    (BitVec.ofNat w n).extractLsb' i 8 = BitVec.ofNat 8 (n / 2 ^ i) := by
  apply BitVec.eq_of_toNat_eq
  rw [BitVec.extractLsb'_toNat, BitVec.toNat_ofNat, BitVec.toNat_ofNat, Nat.shiftRight_eq_div_pow]
  obtain ⟨k, rfl⟩ := Nat.exists_eq_add_of_le h
  rw [show i + 8 + k = i + (8 + k) by omega, Nat.pow_add, Nat.mod_mul_right_div_self, Nat.pow_add,
    Nat.mod_mul_right_mod]

section
variable (n : Nat) (fs : List (Nat × Nat))
theorem fieldBytes_nil : fieldBytes [] = [] := rfl
theorem fieldBytes_one : fieldBytes ((1, n) :: fs) = b8 n :: fieldBytes fs := by
  simp [fieldBytes, b8]
theorem fieldBytes_two : fieldBytes ((2, n) :: fs) = b16 n ++ fieldBytes fs := by
  simp [fieldBytes, b16, le16, List.range_succ, extractLsb'_ofNat]
theorem fieldBytes_four : fieldBytes ((4, n) :: fs) = b32 n ++ fieldBytes fs := by
  simp [fieldBytes, b32, le32, List.range_succ, extractLsb'_ofNat]
end

theorem b32_toNat (x : W32) : b32 x.toNat = le32 x := by
  rw [b32, BitVec.ofNat_toNat, BitVec.setWidth_eq]

theorem bit_eq (b : Bool) : bit b = b8 (if b then 1 else 0) := by
  cases b <;> rfl

/-! ### The frames of replies and notices -/

/-- The frame of a notice, by the fields of its layout. -/
theorem notice_frame {n : Notice} {code : Nat} {fs : List (Nat × Nat)} (lost : Bool)
    (hk : n.body.kind.val + 0x60 = code) (hf : n.body.fields = fieldBytes fs) :
    n.body.kind.val + 0x60 = code ∧ (Sending.notice n lost).frame =
      ⟨BitVec.ofNat 8 code, fieldBytes ((1, if lost then 1 else 0) :: (4, n.ms.toNat) :: fs)⟩ := by
  subst hk
  refine ⟨rfl, ?_⟩
  rw [fieldBytes_one, fieldBytes_four, b32_toNat, ← hf, ← bit_eq, Nat.add_comm]
  rfl

/-- The code and the fields of each notice, by the codes of section 11.9; an event of a key and one of a pedal each
have a notice of their own. -/
def noticeLayout : NoticeBody → Option (Nat × List (Nat × Nat))
  | .ready c r => some (0x60, [(1, c.code), (1, r.code), (1, 1)])
  | .linkSync => some (0x61, [])
  | .linkError r => some (0x62, [(1, r.code)])
  | .keyEvent k src t =>
    k.key?.map fun key =>
      (0x63, [(1, k.code), (1, src.code), (4, t.toNat), (1, key.val), (1, k.velocityField), (1, k.flags)])
  | .pedalEvent k src t =>
    if k.key?.isSome then none else some (0x64, [(1, k.code), (1, src.code), (4, t.toNat), (1, k.valueField)])
  | .keyFault k recovered raw => some (0x65, [(1, k.val), (1, if recovered then 1 else 0), (2, raw)])
  | .pedalFault p recovered raw => some (0x66, [(1, pedalCode p), (1, if recovered then 1 else 0), (2, raw)])
  | .railState st tg og c why run supply =>
    some (0x67, [(1, st.code), (1, targetCode tg), (1, originCode og), (1, c.code), (1, why.code), (2, run),
      (2, supply)])
  | .recordEnd t c count duration => some (0x68, [(1, t.val), (1, c.code), (2, count), (4, duration)])
  | .playerState st t c position expected =>
    some (0x69, [(1, st.code), (1, takeCode t), (1, c.code), (4, position), (1, expected)])
  | .pass t number kind => some (0x6A, [(1, takeCode t), (2, number), (1, kind.code)])
  | .marker slot time => some (0x6B, [(1, slot), (4, time)])
  | .guide k none => some (0x6C, [(1, k.val), (1, 0), (1, 0xFF)])
  | .guide k (some x) => some (0x6C, [(1, k.val), (1, 1), (1, x.code)])
  | .editDone c result t dst number count time =>
    some (0x6D, [(1, c.code), (1, result.code), (1, t.val), (1, takeCode dst), (2, number), (2, count), (4, time)])
  | .voiceLimit k => some (0x6E, [(1, k.val)])
  | .voiceDrop k src => some (0x6F, [(1, k.val), (1, src.code)])

theorem noticeLayout_fields {b : NoticeBody} {code : Nat} {fs : List (Nat × Nat)}
    (h : noticeLayout b = some (code, fs)) : b.kind.val + 0x60 = code ∧ b.fields = fieldBytes fs := by
  cases b
  case keyEvent k src t =>
    obtain ⟨key, hkey, he⟩ := Option.map_eq_some_iff.1 h
    cases he
    refine ⟨rfl, ?_⟩
    simp only [fieldBytes_one, fieldBytes_four, fieldBytes_nil, b32_toNat, NoticeBody.fields, hkey]
    rfl
  case pedalEvent k src t =>
    rw [noticeLayout] at h
    split at h
    · cases h
    · cases h
      refine ⟨rfl, ?_⟩
      simp only [fieldBytes_one, fieldBytes_four, fieldBytes_nil, b32_toNat]
      rfl
  case guide k o =>
    cases o
    all_goals
      cases h
      refine ⟨rfl, ?_⟩
      simp only [fieldBytes_one, fieldBytes_nil]
      rfl
  all_goals
    cases h
    refine ⟨rfl, ?_⟩
    simp only [fieldBytes_one, fieldBytes_two, fieldBytes_four, fieldBytes_nil, ← bit_eq]
    rfl

/-! ### Bits on the line -/

/-- The elements of blocks of one length laid out back to back. -/
theorem flatMap_block {α β : Type} {f : α → List β} {n : Nat} (hf : ∀ a, (f a).length = n) {l : List α} {i : Nat} {a : α}
    (h : l[i]? = some a) : ((l.flatMap f).drop (n * i)).take n = f a := by
  induction l generalizing i with
  | nil => simp at h
  | cons x l ih =>
    rw [List.flatMap_cons]
    cases i with
    | zero =>
      obtain rfl : x = a := by simpa using h
      rw [Nat.mul_zero, List.drop_zero, ← hf x, List.take_left]
    | succ i =>
      have hdrop : (f x ++ l.flatMap f).drop (n * (i + 1)) = (l.flatMap f).drop (n * i) := by
        rw [Nat.mul_succ, Nat.add_comm, ← List.drop_drop, ← hf x, List.drop_left]
      rw [hdrop]
      exact ih (by simpa using h)

theorem flatMap_blocks_length {α β : Type} {f : α → List β} {n : Nat} (hf : ∀ a, (f a).length = n) (l : List α) :
    (l.flatMap f).length = n * l.length := by
  rw [List.length_flatMap, List.map_congr_left fun a _ => hf a, List.map_const', List.sum_replicate, smul_eq_mul,
    Nat.mul_comm]

theorem lineBits_length (b : Byte) : (lineBits b (tailOf b)).length = 11 := rfl

theorem parity_even (b : Byte) :
    ((evenParity b :: (List.range 8).map fun j => b.getLsbD j).filter id).length % 2 = 0 := by
  have hmap : (((List.range 8).map fun j => b.getLsbD j).filter id).length =
      ((List.range 8).filter fun i => b.getLsbD i).length := by
    rw [List.filter_map, List.length_map]
    rfl
  rw [List.filter_cons, evenParity_eq]
  rcases Nat.mod_two_eq_zero_or_one ((List.range 8).filter fun i => b.getLsbD i).length with h | h
  · simp [h, hmap]
  · simp [h, hmap, Nat.add_mod]

theorem frame_bytes_spec {f : Frame} (h : f.payload.length ≤ 60) :
    ∃ body, f.bytes = 0xA5#8 :: body ∧ byteSum body = 0#8 ∧ 4 ≤ f.bytes.length ∧ f.bytes.length ≤ 64 ∧
      body.take 2 = [BitVec.ofNat 8 f.payload.length, f.type] ∧
      (body.drop 2).take f.payload.length = f.payload := by
  have hl : f.bytes.length = f.payload.length + 4 := by simp [Frame.bytes]
  refine ⟨_, rfl, byteSum_check f, by omega, by omega, rfl, ?_⟩
  exact List.take_left

/-- Settles O14: a frame's bytes sum to 0 by its CHECK byte, its bits lie in blocks of eleven, and each notice's fields
are the bytes of its layout. -/
theorem frameBytesSumToZero : Obligations.FrameBytesSumToZero := by
  unfold Obligations.FrameBytesSumToZero
  intro bytes status source pedal rail target origin railCause railReason player playCause take layout
  refine ⟨fun r => ?_, fun l type st data => ?_, fun n lost code fs hfs => ?_, fun x => rfl,
    fun f h => ⟨frame_bytes_spec h, flatMap_blocks_length lineBits_length _, fun i b hb => ?_⟩⟩
  · show (⟨r.type, b8 (statusCode r.status) :: _⟩ : Frame) = ⟨r.type, fieldBytes [(1, statusCode r.status)] ++ _⟩
    rw [fieldBytes_one]
    rfl
  · have hadd : type + 0x80#8 = BitVec.ofNat 8 (type.toNat + 0x80) := by
      rw [BitVec.ofNat_add, BitVec.ofNat_toNat, BitVec.setWidth_eq]
    rw [← hadd]
    rfl
  · have hlayout (b : NoticeBody) : layout b = noticeLayout b := by
      cases b
      case keyEvent k src t => cases k <;> rfl
      case pedalEvent k src t => cases k <;> rfl
      case guide k o => cases o <;> rfl
      all_goals rfl
    rw [hlayout] at hfs
    obtain ⟨hk, hf⟩ := noticeLayout_fields hfs
    exact notice_frame lost hk hf
  · exact ⟨evenParity b, flatMap_block lineBits_length hb, parity_even b⟩

end Sys2Proof.Machine
end

section
/-! PROOFS. The laws of the Player along every step (sections 5.1, 9.5, 9.6): a key down for PLAYBACK is open at the
Player, and a key is expected only while a practice pass with wait on plays or waits. -/

namespace Sys2Proof.Machine

open Sys2Proof.StepRows

/-! ### What an event does to the keys down for its source -/

/-- The keys down for a source after an event of it. -/
def EventKind.downAfter (ks : KeySet) : EventKind → KeySet
  | .noteOn k _ _ | .silentPress k => ks.add k
  | .noteOff k _ => ks.remove k
  | .damper _ | .soft _ | .sostOn | .sostOff => ks

theorem releaseKey_source (e : Engine) (s : Source) (k : Key) (r : Source) :
    (e.releaseKey s k).source r = e.source r := by
  cases r <;> rfl

theorem allocate_source (e : Engine) (k : Key) (s : Source) (v layer : Nat) (r : Source) :
    (e.allocate k s v layer).2.source r = e.source r := by
  unfold Engine.allocate
  repeat' split
  all_goals cases r <;> rfl

theorem noteOn_source (e : Engine) (s : Source) (k : Key) (v : Nat) (r : Source) :
    (e.noteOn s k v).2.source r = (e.markDown s k).source r := by
  unfold Engine.noteOn
  dsimp only
  split
  · rfl
  · dsimp only
    rw [allocate_source, limitKey_source, releaseKey_source]

theorem sostOn_down (e : Engine) (s : Source) : ((e.sostOn s).source s).down = (e.source s).down := by
  unfold Engine.sostOn
  dsimp only
  split
  · rfl
  · rw [Engine.source_withSource]

theorem engineEvent_down (ev : Event) (s : State) :
    ((engineEvent ev s).engine.source ev.source).down = ev.kind.downAfter (s.engine.source ev.source).down := by
  unfold engineEvent
  cases hk : ev.kind with
  | noteOn k v r =>
    dsimp only
    rw [raises_engine]
    show ((s.engine.noteOn ev.source k v).2.source ev.source).down = _
    rw [noteOn_source, Engine.markDown, Engine.source_withSource]
    rfl
  | noteOff k f =>
    show ((s.engine.noteOff ev.source k).source ev.source).down = _
    rw [Engine.noteOff, releaseKey_source, Engine.source_withSource]
    rfl
  | silentPress k =>
    show ((s.engine.markDown ev.source k).source ev.source).down = _
    rw [Engine.markDown, Engine.source_withSource]
    rfl
  | damper v =>
    show ((s.engine.damper ev.source v).source ev.source).down = _
    rw [Engine.damper, Engine.source_withSource]
    rfl
  | soft v => rfl
  | sostOn => exact sostOn_down _ _
  | sostOff =>
    show ((s.engine.sostOff ev.source).source ev.source).down = _
    rw [Engine.sostOff, Engine.source_withSource]
    rfl

/-- An event of one source leaves the tables of the other. -/
theorem engineEvent_otherSource {ev : Event} {r : Source} (h : r ≠ ev.source) (s : State) :
    (engineEvent ev s).engine.source r = s.engine.source r := by
  have other (e : Engine) (x : SourceState) : (e.withSource ev.source x).source r = e.source r :=
    source_withSource_of_ne h e x
  unfold engineEvent
  cases ev.kind with
  | noteOn k v rep =>
    dsimp only
    rw [raises_engine]
    show (s.engine.noteOn ev.source k v).2.source r = _
    rw [noteOn_source, Engine.markDown, other]
  | noteOff k f =>
    show (s.engine.noteOff ev.source k).source r = _
    rw [Engine.noteOff, releaseKey_source, other]
  | silentPress k => exact other _ _
  | damper v => exact other _ _
  | soft v => rfl
  | sostOn =>
    show (s.engine.sostOn ev.source).source r = _
    unfold Engine.sostOn
    dsimp only
    split
    · rfl
    · exact other _ _
  | sostOff => exact other _ _

/-! ### What routing an event leaves of the Player and the Guide -/

theorem deliver_player (d : Dests) (ev : Event) (s : State) : (deliver d ev s).player = s.player :=
  (congrArg State.player (deliver_blocks d ev s).2.2.2.2.2 :)

theorem playbackEvent_player (k : EventKind) (s : State) : (playbackEvent k s).player = s.player :=
  deliver_player _ _ _

theorem playbackEvents_player (ks : List EventKind) (s : State) : (playbackEvents ks s).player = s.player := by
  induction ks generalizing s with
  | nil => rfl
  | cons k ks ih => exact (ih (playbackEvent k s)).trans (playbackEvent_player k s)

/-- A delivery leaves the tables of the other source. -/
theorem deliver_otherSource {ev : Event} {r : Source} (h : r ≠ ev.source) (d : Dests) (s : State) :
    (deliver d ev s).engine.source r = s.engine.source r := by
  rw [(deliver_blocks d ev s).1]
  split
  · exact engineEvent_otherSource h s
  · rfl

/-- The keys down after a routed event are no more than after its delivery to the engine: a NOTE_OFF of a key that is
down reaches the engine (R62). -/
theorem deliver_down {ev : Event} {s : State} {j : Key}
    (h : (((deliver (finalSet s ev) ev s).engine.source ev.source).down.mem j) = true) :
    (ev.kind.downAfter (s.engine.source ev.source).down).mem j = true := by
  rw [(deliver_blocks (finalSet s ev) ev s).1] at h
  split at h
  · rwa [engineEvent_down] at h
  · next hout =>
    have hheld : heldByEngine s ev = false := by
      rw [finalSet_eq] at hout
      simpa using (Bool.eq_false_of_not_eq_true hout : _ = false) |> fun h => (Bool.or_eq_false_iff.1 h).2
    unfold heldByEngine at hheld
    cases hk : ev.kind with
    | noteOff k f =>
      rw [hk] at hheld
      show ((s.engine.source ev.source).down.remove k).mem j = true
      rw [mem_remove, h, Bool.and_true, Bool.not_eq_true', decide_eq_false_iff_not]
      rintro rfl
      exact absurd (h.symm.trans hheld) Bool.noConfusion
    | noteOn k v r =>
      show ((s.engine.source ev.source).down.add k).mem j = true
      rw [mem_add, h, Bool.or_true]
    | silentPress k =>
      show ((s.engine.source ev.source).down.add k).mem j = true
      rw [mem_add, h, Bool.or_true]
    | damper v => exact h
    | soft v => exact h
    | sostOn => exact h
    | sostOff => exact h

theorem playbackEvent_down {k : EventKind} {s : State} {j : Key}
    (h : (playbackEvent k s).engine.playback.down.mem j = true) :
    (k.downAfter s.engine.playback.down).mem j = true :=
  deliver_down (ev := ⟨.playback, s.clock.us, k⟩) h

/-- An event that presses no key (R54). -/
def EventKind.presses : EventKind → Bool
  | .noteOn .. | .silentPress _ => true
  | .noteOff .. | .damper _ | .soft _ | .sostOn | .sostOff => false

/-- Events that press no key leave down at most the keys that were down and that they do not release. -/
theorem playbackEvents_down {ks : List EventKind} (hks : ∀ k ∈ ks, k.presses = false) {s : State} {j : Key}
    (h : (playbackEvents ks s).engine.playback.down.mem j = true) :
    s.engine.playback.down.mem j = true ∧ ∀ f, .noteOff j f ∉ ks := by
  induction ks generalizing s with
  | nil => exact ⟨h, fun _ => List.not_mem_nil⟩
  | cons k ks ih =>
    obtain ⟨hdown, hoff⟩ := ih (fun k hk => hks k (List.mem_cons_of_mem _ hk)) h
    have hk := hks k List.mem_cons_self
    have hd := playbackEvent_down hdown
    cases k with
    | noteOn k v r => cases hk
    | silentPress k => cases hk
    | noteOff k f =>
      have hd : (s.engine.playback.down.remove k).mem j = true := hd
      rw [mem_remove, Bool.and_eq_true, Bool.not_eq_true', decide_eq_false_iff_not] at hd
      refine ⟨hd.2, fun g hm => ?_⟩
      rcases List.mem_cons.1 hm with he | hm
      · cases he
        exact hd.1 rfl
      · exact hoff g hm
    | damper v => exact ⟨hd, fun g hm => hoff g ((List.mem_cons.1 hm).resolve_left nofun)⟩
    | soft v => exact ⟨hd, fun g hm => hoff g ((List.mem_cons.1 hm).resolve_left nofun)⟩
    | sostOn => exact ⟨hd, fun g hm => hoff g ((List.mem_cons.1 hm).resolve_left nofun)⟩
    | sostOff => exact ⟨hd, fun g hm => hoff g ((List.mem_cons.1 hm).resolve_left nofun)⟩

/-- An event changes the expected set only as a NOTE_ON of the Player in a practice pass with wait on (R61, R160). -/
theorem deliver_guide (d : Dests) (ev : Event) (s : State) :
    (deliver d ev s).guide = s.guide ∨
      ((∃ k v r, ev.kind = .noteOn k v r) ∧ d.guide = true ∧ s.guide.wait = true ∧
        (deliver d ev s).guide = (guideEvent ev s).guide) := by
  rw [(deliver_blocks d ev s).2.2.2.2.1]
  split
  · next hd =>
    cases hk : ev.kind with
    | noteOn k v r =>
      cases hw : s.guide.wait with
      | true => exact .inr ⟨⟨k, v, r, rfl⟩, hd, rfl, rfl⟩
      | false =>
        left
        rw [guideEvent, hk]
        dsimp only
        rw [if_neg (ne_true_of_eq_false hw)]
        rfl
    | noteOff k f => left; rw [guideEvent, hk]; rfl
    | silentPress k => left; rw [guideEvent, hk]
    | damper v => left; rw [guideEvent, hk]
    | soft v => left; rw [guideEvent, hk]
    | sostOn => left; rw [guideEvent, hk]
    | sostOff => left; rw [guideEvent, hk]
  · exact .inl rfl

theorem playbackEvents_guide {ks : List EventKind} (hks : ∀ k ∈ ks, k.presses = false) (s : State) :
    (playbackEvents ks s).guide = s.guide := by
  induction ks generalizing s with
  | nil => rfl
  | cons k ks ih =>
    have hg : (playbackEvent k s).guide = s.guide := by
      rcases deliver_guide (finalSet s ⟨.playback, s.clock.us, k⟩) ⟨.playback, s.clock.us, k⟩ s with h | ⟨⟨k', v, r, he⟩, -⟩
      · exact h
      · have hk := hks k List.mem_cons_self
        rw [show k = _ from he] at hk
        cases hk
    exact (ih (fun k hk => hks k (List.mem_cons_of_mem _ hk)) (playbackEvent k s)).trans hg

/-! ### The events of closing, repositioning and chasing press no key -/

theorem mem_offs {p : Player} {k : EventKind} : k ∈ p.offs ↔ ∃ j, p.openKeys.mem j = true ∧ k = .noteOff j false := by
  unfold Player.offs KeySet.keys
  simp only [List.mem_map, List.mem_filter, List.mem_finRange, true_and]
  exact ⟨fun ⟨j, hj, he⟩ => ⟨j, hj, he.symm⟩, fun ⟨j, hj, he⟩ => ⟨j, hj, he.symm⟩⟩

theorem offs_presses {p : Player} : ∀ k ∈ p.offs, k.presses = false := by
  intro k hk
  obtain ⟨j, -, rfl⟩ := mem_offs.1 hk
  rfl

theorem closing_presses (p : Player) : ∀ k ∈ p.closing, k.presses = false := by
  intro k hk
  simp only [Player.closing, List.mem_append] at hk
  rcases hk with ((hk | hk) | hk) | hk
  · exact offs_presses k hk
  all_goals
    split at hk
    · obtain rfl := List.mem_singleton.1 hk
      rfl
    · exact absurd hk List.not_mem_nil

theorem chase_presses (p : Pedals3) : ∀ k ∈ p.chase, k.presses = false := by
  intro k hk
  simp only [Pedals3.chase, List.mem_append] at hk
  rcases hk with (hk | hk) | hk
  all_goals
    split at hk
    · obtain rfl := List.mem_singleton.1 hk
      rfl
    · exact absurd hk List.not_mem_nil

theorem bring_presses (p q : Pedals3) : ∀ k ∈ p.bring q, k.presses = false := by
  intro k hk
  simp only [Pedals3.bring, List.mem_append] at hk
  rcases hk with ((hk | hk) | hk) | hk
  all_goals
    split at hk
    · obtain rfl := List.mem_singleton.1 hk
      rfl
    · exact absurd hk List.not_mem_nil

theorem offs_bring_presses (p : Player) (q r : Pedals3) : ∀ k ∈ p.offs ++ q.bring r, k.presses = false := by
  intro k hk
  rcases List.mem_append.1 hk with hk | hk
  · exact offs_presses k hk
  · exact bring_presses q r k hk

/-! ### What the laws of the Player read -/

/-- Two states that agree in what the laws of the Player read. -/
structure SameView (s t : State) : Prop where
  playback : t.engine.playback = s.engine.playback
  openKeys : t.player.openKeys = s.player.openKeys
  state : t.player.state = s.player.state
  passKind : t.player.passKind = s.player.passKind
  guide : t.guide = s.guide

theorem SameView.trans {s t u : State} (h : SameView s t) (k : SameView t u) : SameView s u :=
  ⟨k.playback.trans h.playback, k.openKeys.trans h.openKeys, k.state.trans h.state, k.passKind.trans h.passKind,
    k.guide.trans h.guide⟩

/-- A property of the state that reads only what the laws of the Player read. -/
def OfView (P : State → Prop) : Prop := ∀ {s t}, SameView s t → P s → P t

theorem OfView.same {P : State → Prop} (hv : OfView P) {s t : State} (hs : P s) (h : SameView s t) : P t := hv h hs

section
variable {P : State → Prop} (hv : OfView P)
include hv

theorem OfView.quiet : KeptByQuiet P :=
  .of_withLink (fun q hs => hv.same hs ⟨congrArg Engine.playback q.engine, q.openKeys, q.playState, q.passKind, q.guide⟩)
    fun _ _ hs => hv.same hs ⟨rfl, rfl, rfl, rfl, rfl⟩

theorem OfView.voices : KeptByVoices P := by
  have hvoices (after : Vector Voice 96) : Keeps P (storeVoices after) := by
    intro s hs
    refine offerFreed_keeps hv.quiet (fun i t ht => hv.same ht ⟨?_, rfl, rfl, rfl, rfl⟩) _ _ _
      (hv.same hs ⟨rfl, rfl, rfl, rfl, rfl⟩)
    show (t.engine.takePending i).playback = t.engine.playback
    unfold Engine.takePending
    split <;> rfl
  refine ⟨fun s hs => hvoices _ _ (hv.same hs ⟨rfl, rfl, rfl, rfl, rfl⟩),
    fun s hs => hvoices _ _ (hv.same hs ⟨rfl, rfl, rfl, rfl, rfl⟩), fun k n rh rd pan ls s hs => ?_,
    fun s hs => hv.same hs ⟨rfl, rfl, rfl, rfl, rfl⟩⟩
  unfold cmdLoadMap
  dsimp only
  repeat' split
  all_goals exact hv.same hs ⟨rfl, rfl, rfl, rfl, rfl⟩

theorem OfView.noteKeyboard (was : Bool) : Keeps P (noteKeyboard was) :=
  noteKeyboard_keeps hv.quiet (fun _ _ hs => hv.same hs ⟨rfl, rfl, rfl, rfl, rfl⟩) was

/-- What the laws of the Player ask of every step: the events of LIVE and the Player's own operations. -/
theorem OfView.rows (hlive : ∀ k stamp, Keeps P (routeEvent ⟨.live, stamp, k⟩)) (hp : KeptByPlayer P)
    (hreset : ∀ c s, P (wholeReset c s)) : KeptByRows P where
  base := hv.quiet
  keys := .of_withKeys hv.quiet (fun _ _ hs => hv.same hs ⟨rfl, rfl, rfl, rfl, rfl⟩) hlive
    (fun _ _ hs => hv.same hs ⟨rfl, rfl, rfl, rfl, rfl⟩) hv.noteKeyboard fun _ _ hs => hv.same hs ⟨rfl, rfl, rfl, rfl, rfl⟩
  rail := .of_withRail hv.quiet fun _ _ hs => hv.same hs ⟨rfl, rfl, rfl, rfl, rfl⟩
  voices := hv.voices
  takes := .of_withStore hv.quiet (fun _ _ hs => hv.same hs ⟨rfl, rfl, rfl, rfl, rfl⟩)
    (fun _ _ hs => hv.same hs ⟨rfl, rfl, rfl, rfl, rfl⟩) fun _ _ hs => hv.same hs ⟨rfl, rfl, rfl, rfl, rfl⟩
  player := hp
  edit := .of_withEdit hv.quiet (fun _ _ hs => hv.same hs ⟨rfl, rfl, rfl, rfl, rfl⟩)
    fun _ _ hs => hv.same hs ⟨rfl, rfl, rfl, rfl, rfl⟩
  await := fun _ hs => hv.same hs ⟨rfl, rfl, rfl, rfl, rfl⟩
  classes := fun _ _ hs => hv.same hs ⟨rfl, rfl, rfl, rfl, rfl⟩
  events := hlive
  time := ⟨fun _ _ hs => hv.same hs ⟨rfl, rfl, rfl, rfl, rfl⟩, fun c s _ => hreset c s,
    endInitialization_keeps hv.quiet (fun _ _ hs => hv.same hs ⟨rfl, rfl, rfl, rfl, rfl⟩)
      (fun _ _ hs => hv.same hs ⟨rfl, rfl, rfl, rfl, rfl⟩) fun _ hs => hv.same hs ⟨rfl, rfl, rfl, rfl, rfl⟩,
    fun _ _ hs => hv.same hs ⟨rfl, rfl, rfl, rfl, rfl⟩⟩
  link := .of_withLink fun _ _ hs => hv.same hs ⟨rfl, rfl, rfl, rfl, rfl⟩
  settle := takeSettle_keeps hv.quiet fun _ _ hs => hv.same hs ⟨rfl, rfl, rfl, rfl, rfl⟩

end

theorem sameView_ofView (s : State) : OfView (SameView s) := fun k h => h.trans k

theorem reportMarkers_view (f : Nat → Bool) (s : State) : SameView s (reportMarkers f s) :=
  reportMarkers_keeps (OfView.quiet (sameView_ofView s)) f s ⟨rfl, rfl, rfl, rfl, rfl⟩

/-- A LIVE event reaches the view only by the offer of a press. -/
theorem live_view (k : EventKind) (stamp : W32) (s : State) :
    SameView (guideCheck ⟨.live, stamp, k⟩ s) (routeEvent ⟨.live, stamp, k⟩ s) := by
  generalize hu : guideCheck ⟨.live, stamp, k⟩ s = u
  have ht : routeEvent ⟨.live, stamp, k⟩ s = deliver (finalSet u ⟨.live, stamp, k⟩) ⟨.live, stamp, k⟩ u := by
    rw [← hu]
    rfl
  have hguide : (finalSet u ⟨.live, stamp, k⟩).guide = false := by
    rw [finalSet_eq]
    simp [Event.guided]
  have hplayer := deliver_player (finalSet u ⟨.live, stamp, k⟩) ⟨.live, stamp, k⟩ u
  rw [ht]
  refine ⟨deliver_otherSource (r := .playback) (fun h => by cases h) _ u, by rw [hplayer], by rw [hplayer],
    by rw [hplayer], ?_⟩
  rcases deliver_guide (finalSet u ⟨.live, stamp, k⟩) ⟨.live, stamp, k⟩ u with h | ⟨-, h, -⟩
  · exact h
  · rw [hguide] at h
    cases h

/-- The offer of a press: an expected key leaves the expected set, and a WAITING Player may play on. -/
theorem guideCheck_view (ev : Event) (s : State) :
    SameView s (guideCheck ev s) ∨ ∃ k, SameView (setExpected (s.guide.expected.remove k) s) (guideCheck ev s) ∨
      ((guideCheck ev s).guide.expected.isEmpty = true ∧ s.player.state = .waiting ∧
        SameView ((setExpected (s.guide.expected.remove k) s).withPlayer { s.player with state := .playing })
          (guideCheck ev s)) := by
  unfold guideCheck
  split
  · next k _ _ _ _ =>
    unfold guideOffer
    split
    · right
      refine ⟨k, ?_⟩
      unfold releaseWait
      split
      · next h => exact .inr ⟨h.2, h.1, ⟨rfl, rfl, rfl, rfl, rfl⟩⟩
      · exact .inl ⟨rfl, rfl, rfl, rfl, rfl⟩
    · exact .inl ⟨rfl, rfl, rfl, rfl, rfl⟩
  · exact .inl ⟨rfl, rfl, rfl, rfl, rfl⟩

end Sys2Proof.Machine
end

section
/-! PROOFS. The law of a stopped player and the law of the expected set, kept by every step (sections 5.1, 9.5, 9.6). -/

namespace Sys2Proof.Machine

open Sys2Proof.StepRows

/-- The Player plays or waits. -/
def Player.Active (p : Player) : Prop := p.state = .playing ∨ p.state = .waiting

theorem Player.Active.not_atRest {p : Player} (h : p.Active) : ¬(p.state = .stopped ∨ p.state = .paused) := by
  rcases h with h | h <;> simp [h]

/-! ### The law of a stopped player -/

/-- The keys down for PLAYBACK are open at the Player. -/
def DownOpen (s : State) : Prop := ∀ k, s.engine.playback.down.mem k = true → s.player.openKeys.mem k = true

theorem stoppedLaw_ofView : OfView StoppedLaw := by
  intro s t h hs
  unfold StoppedLaw
  rw [h.playback, h.openKeys, h.state]
  exact hs

theorem StoppedLaw.of_active {s : State} (h : DownOpen s) (ha : s.player.Active) : StoppedLaw s :=
  ⟨h, fun hr => absurd hr ha.not_atRest⟩

/-- Events that press no key and release each open key leave no key down. -/
theorem releasing_down {s : State} (h : DownOpen s) {p : Player} {ks : List EventKind}
    (hks : ∀ k ∈ ks, k.presses = false) (hoff : ∀ k ∈ s.player.offs, k ∈ ks) (j : Key) :
    (playbackEvents ks (s.withPlayer p)).engine.playback.down.mem j = false := by
  refine Bool.eq_false_of_not_eq_true fun hj => ?_
  obtain ⟨hdown, hno⟩ := playbackEvents_down hks hj
  exact hno false (hoff _ (mem_offs.2 ⟨j, h j hdown, rfl⟩))

theorem closePlayer_down {s : State} (h : DownOpen s) (j : Key) :
    (closePlayer s).engine.playback.down.mem j = false := by
  refine releasing_down h (closing_presses _) (fun k hk => ?_) j
  simp only [Player.closing, List.mem_append]
  exact .inl (.inl (.inl hk))

theorem reposition_down {s : State} (h : DownOpen s) (T : Nat) (target : Pedals3) (j : Key) :
    (reposition T target s).engine.playback.down.mem j = false :=
  releasing_down h (offs_bring_presses _ _ _) (fun _ hk => List.mem_append_left _ hk) j

theorem closePlayer_player (s : State) :
    (closePlayer s).player = { s.player with openKeys := KeySet.none, emitted := {} } :=
  playbackEvents_player _ _

theorem reposition_player (T : Nat) (target : Pedals3) (s : State) :
    (reposition T target s).player = { s.player with
      openKeys := KeySet.none, acc := T * 256, cursor := cursorAt T s, takePedals := target, emitted := target } :=
  playbackEvents_player _ _

/-- A key that an emitted record presses is open before its event, and a key that it closes is released. -/
theorem emitRecord_downOpen (r : Record) : Keeps DownOpen (emitRecord r) := by
  intro s h j hj
  unfold emitRecord at hj ⊢
  rw [playbackEvents_player]
  show (s.player.read r.body).openKeys.mem j = true
  unfold Player.eventOf at hj
  cases hb : r.body with
  | noteOn k v rep =>
    rw [hb] at hj
    have hd : (s.engine.playback.down.add k).mem j = true := playbackEvent_down hj
    rw [mem_add, Bool.or_eq_true] at hd
    show (s.player.openKeys.add k).mem j = true
    rw [mem_add, Bool.or_eq_true]
    exact hd.imp_right (h j)
  | silentPress k =>
    rw [hb] at hj
    have hd : (s.engine.playback.down.add k).mem j = true := playbackEvent_down hj
    rw [mem_add, Bool.or_eq_true] at hd
    show (s.player.openKeys.add k).mem j = true
    rw [mem_add, Bool.or_eq_true]
    exact hd.imp_right (h j)
  | noteOff k =>
    rw [hb] at hj
    show (s.player.openKeys.remove k).mem j = true
    rw [mem_remove, Bool.and_eq_true, Bool.not_eq_true', decide_eq_false_iff_not]
    dsimp only at hj
    split at hj
    · have hd : (s.engine.playback.down.remove k).mem j = true := playbackEvent_down hj
      rw [mem_remove, Bool.and_eq_true, Bool.not_eq_true', decide_eq_false_iff_not] at hd
      exact ⟨hd.1, h j hd.2⟩
    · next hno =>
      have hopen := h j hj
      refine ⟨?_, hopen⟩
      rintro rfl
      exact hno hopen
  | damper v =>
    rw [hb] at hj
    exact h j (playbackEvent_down hj)
  | soft v =>
    rw [hb] at hj
    exact h j (playbackEvent_down hj)
  | sostOn =>
    rw [hb] at hj
    exact h j (playbackEvent_down hj)
  | sostOff =>
    rw [hb] at hj
    exact h j (playbackEvent_down hj)
  | gap =>
    rw [hb] at hj
    exact h j hj

theorem emitRecord_player (r : Record) (s : State) : (emitRecord r s).player = s.player.read r.body :=
  playbackEvents_player _ _

/-- What the emission of a record keeps in a Player that plays or waits, the emission of the due records keeps. -/
theorem emitDue_active {Q : State → Prop} (hv : OfView Q)
    (hr : ∀ r s, s.player.Active → Q s → Q (emitRecord r s)) (hw : ∀ s, s.player.Active → Q s → Q (enterWait s))
    (due : Nat → Bool) : ∀ l, Keeps (fun s => Q s ∧ s.player.Active) (emitDue due l)
  | [], _, hs => hs
  | (t, r) :: rest, s, ⟨hq, ha⟩ => by
    have he : Q (emitRecord r s) ∧ (emitRecord r s).player.Active := by
      refine ⟨hr r s ha hq, ?_⟩
      rw [emitRecord_player]
      exact ha
    unfold emitDue
    split
    · dsimp only
      split
      · exact ⟨hw _ he.2 he.1, .inr rfl⟩
      · exact emitDue_active hv hr hw due rest _ he
    · exact ⟨hq, ha⟩

theorem downOpen_ofView : OfView DownOpen := by
  intro s t h hs
  unfold DownOpen
  rw [h.playback, h.openKeys]
  exact hs

theorem emitDue_downOpen (due : Nat → Bool) (l : List (Nat × Record)) :
    Keeps (fun s => DownOpen s ∧ s.player.Active) (emitDue due l) :=
  emitDue_active downOpen_ofView (fun r s _ h => emitRecord_downOpen r s h) (fun _ _ h => h) due l

/-! ### The operations of the Player, as far as its laws read them -/

theorem playerNotice_view (t : Option TakeId) (c : PlayCause) (s : State) : SameView s (playerNotice t c s) :=
  ⟨rfl, rfl, rfl, rfl, rfl⟩

/-- A stop after its closing events (R149, R155). -/
theorem stopPlayer_view (c : PlayCause) (s : State) :
    SameView ((clearExpected (engineStop (closePlayer s))).withPlayer
        { (closePlayer s).player with take := none, state := .stopped }) (stopPlayer c s) := by
  unfold stopPlayer
  generalize closePlayer s = u
  unfold clearPlayed
  cases s.player.take <;> exact ⟨rfl, rfl, rfl, rfl, rfl⟩

/-- A pause after its closing events (R156). -/
theorem pausePlayer_view (s : State) :
    SameView ((clearExpected (engineStop (closePlayer s))).withPlayer
        { (closePlayer s).player with state := .paused }) (pausePlayer s) := by
  unfold pausePlayer
  generalize closePlayer s = u
  exact ⟨rfl, rfl, rfl, rfl, rfl⟩

/-- A loop jump up to its records (R153). -/
def jumped (a : Nat) (s : State) : State :=
  let u := reposition a s.player.snapshot s
  clearExpected (u.withPlayer u.player.nextPass)

theorem loopJump_view (a : Nat) (s : State) :
    ∃ t due l, SameView (jumped a s) t ∧ loopJump a s = emitDue due l t := by
  unfold loopJump jumped
  generalize reposition a s.player.snapshot s = u
  exact ⟨_, _, _, .trans (t := clearExpected (raise (.pass u.player.nextPass.take u.player.nextPass.passNumber
    u.player.nextPass.passKind) (u.withPlayer u.player.nextPass))) ⟨rfl, rfl, rfl, rfl, rfl⟩ (reportMarkers_view _ _), rfl⟩

theorem tickEmission_view (s : State) : ∃ t due l, SameView s t ∧ tickEmission s = emitDue due l t :=
  ⟨_, _, _, .trans (t := s.withPlayer { s.player with acc := s.player.acc + s.player.tempo }) ⟨rfl, rfl, rfl, rfl, rfl⟩
    (reportMarkers_view _ _), rfl⟩

/-- The tick keeps a law when, in a Player that plays or waits, emission keeps it and a jump and the end establish it. -/
theorem takePlayerTick_active {P Q : State → Prop} (hP : OfView P) (hQ : OfView Q)
    (henter : ∀ s, P s → Q s) (hleave : ∀ s, Q s → s.player.Active → P s)
    (hemit : ∀ due l, Keeps (fun s => Q s ∧ s.player.Active) (emitDue due l))
    (hjump : ∀ a s, Q s → Q (jumped a s)) (hend : ∀ s, Q s → P ((clearExpected (engineStop (closePlayer s))).withPlayer
      { (closePlayer s).player with take := none, state := .stopped })) : Keeps P takePlayerTick := by
  intro s hs
  unfold takePlayerTick
  split
  · next hplay =>
    obtain ⟨t, due, l, hview, hemitted⟩ := tickEmission_view s
    obtain ⟨hq, ha⟩ : Q (tickEmission s) ∧ (tickEmission s).player.Active := by
      rw [hemitted]
      exact hemit _ _ _ ⟨hQ.same (henter s hs) hview, .inl (hview.state.trans hplay)⟩
    generalize tickEmission s = u at hq ha
    unfold tickEnd
    split
    · next a _ =>
      obtain ⟨t, due, l, hview, hjumped⟩ := loopJump_view a u
      have hactive : t.player.Active := by
        have hstate : t.player.state = u.player.state := by
          rw [hview.state, jumped]
          show (reposition a u.player.snapshot u).player.state = _
          rw [reposition_player]
        exact ha.imp hstate.trans hstate.trans
      rw [hjumped]
      obtain ⟨hq', ha'⟩ := hemit due l t ⟨hQ.same (hjump a u hq) hview, hactive⟩
      exact hleave _ hq' ha'
    · split
      · exact hP.same (hend _ hq) (stopPlayer_view _ _)
      · exact hleave _ hq ha
  · exact hs

/-- A start: events that press no key, on a Player that plays with no key open (R143). -/
theorem startPlayer_view (t : TakeId) (start : Nat) (s : State) : ∃ u,
    u.engine = s.engine ∧ u.guide = s.guide ∧ u.player.state = .playing ∧
      ∃ p : Pedals3, SameView (playbackEvents p.chase u) (startPlayer t start s) := by
  unfold startPlayer
  refine ⟨_, ?_, ?_, ?_, _, .trans (reportMarkers_view _ _) (playerNotice_view _ _ _)⟩ <;> rfl

/-- A resumption: events that press no key, and then the Player plays (R157). -/
theorem resumePlayer_view (s : State) : ∃ u,
    u.engine = s.engine ∧ u.guide = s.guide ∧
      ∃ p : Pedals3, SameView ((playbackEvents p.chase u).withPlayer { s.player with state := .playing })
        (resumePlayer s) := by
  have hp := playbackEvents_player s.player.takePedals.chase (s.withPlayer { s.player with emitted := s.player.takePedals })
  refine ⟨s.withPlayer { s.player with emitted := s.player.takePedals }, rfl, rfl, s.player.takePedals, ?_⟩
  unfold resumePlayer
  dsimp only
  generalize playbackEvents s.player.takePedals.chase (s.withPlayer { s.player with emitted := s.player.takePedals }) = u
    at hp
  exact .trans (t := u.withPlayer { u.player with state := .playing })
    ⟨rfl, (congrArg Player.openKeys hp :), rfl, (congrArg Player.passKind hp :), rfl⟩ (playerNotice_view _ _ _)

/-- A LOCATE while playing or waiting: a reposition, and then the Player plays (R158). -/
theorem locatePlaying_view (T : Nat) (s : State) :
    SameView ((clearExpected (reposition T (playedScan T s) s)).withPlayer
      { (reposition T (playedScan T s) s).player with state := .playing }) (locatePlaying T s) := by
  unfold locatePlaying
  generalize reposition T (playedScan T s) s = u
  exact .trans (t := (clearExpected u).withPlayer { u.player with state := .playing, armed := u.player.armedAt T })
    ⟨rfl, rfl, rfl, rfl, rfl⟩ (.trans (reportMarkers_view _ _) (playerNotice_view _ _ _))

/-- The operations of the Player keep a law of its view when they keep it on its own terms. -/
structure KeptByViews (P : State → Prop) : Prop where
  stop : ∀ s, P s → s.player.Active ∨ s.player.state = .paused →
    P ((clearExpected (engineStop (closePlayer s))).withPlayer
      { (closePlayer s).player with take := none, state := .stopped })
  pause : ∀ s, P s → s.player.Active → P ((clearExpected (engineStop (closePlayer s))).withPlayer
    { (closePlayer s).player with state := .paused })
  play : ∀ s u (p : Pedals3), P s → s.player.state = .stopped → u.engine = s.engine → u.guide = s.guide →
    u.player.state = .playing → P (playbackEvents p.chase u)
  resume : ∀ s u (p : Pedals3), P s → s.player.state = .paused → u.engine = s.engine → u.guide = s.guide →
    P ((playbackEvents p.chase u).withPlayer { s.player with state := .playing })
  locate : ∀ s T p, P s → s.player.Active → P ((clearExpected (reposition T p s)).withPlayer
    { (reposition T p s).player with state := .playing })
  cleared : ∀ s, P s → P (clearExpected s)
  continues : ∀ s, P s → s.player.state = .waiting →
    P ((clearExpected s).withPlayer { s.player with state := .playing })
  waits : ∀ s g, P s → P (s.withGuide { s.guide with wait := true, grace := g })
  unwaits : ∀ s g, P s → P (clearExpected (s.withGuide { s.guide with wait := false, grace := g }))

/-- The wait's release after the expected set is emptied keeps a law that both branches keep. -/
theorem releaseWait_cleared_of {P : State → Prop} (hv : OfView P) {s : State} (hc : P (clearExpected s))
    (hw : s.player.state = .waiting → P ((clearExpected s).withPlayer { s.player with state := .playing })) :
    P (releaseWait (clearExpected s)) := by
  rw [releaseWait_cleared]
  split
  · next h => exact hv.same (hw h) ⟨rfl, rfl, rfl, rfl, rfl⟩
  · exact hc

theorem KeptByViews.keptByPlayer {P : State → Prop} (h : KeptByViews P) (hv : OfView P) (htick : Keeps P takePlayerTick) :
    KeptByPlayer P where
  tick := htick
  play t ms := by
    intro s hs
    have answered := fun st => hv.quiet.answer 0x40#8 st s hs
    unfold cmdPlay
    dsimp only
    split
    · exact answered _
    · split
      · exact answered _
      · next hstopped =>
        repeat' split
        · exact answered _
        · exact answered _
        · exact answered _
        · obtain ⟨u, he, hg, hp, p, hview⟩ := startPlayer_view _ ms.toNat s
          exact hv.quiet.answer _ _ _ (hv.same (h.play s u p hs (not_not.1 hstopped) he hg hp) hview)
  stop := by
    intro s hs
    unfold cmdStop
    split
    · exact hv.quiet.answer _ _ _ hs
    · next hne =>
      refine hv.quiet.answer _ _ _ (hv.same (h.stop s hs ?_) (stopPlayer_view _ _))
      unfold Player.Active
      cases hst : s.player.state with
      | stopped => exact absurd hst hne
      | playing => exact .inl (.inl rfl)
      | waiting => exact .inl (.inr rfl)
      | paused => exact .inr rfl
  pause := by
    intro s hs
    unfold cmdPause
    split
    · exact hv.quiet.answer _ _ _ hs
    · exact hv.quiet.answer _ _ _ hs
    · next hst => exact hv.quiet.answer _ _ _ (hv.same (h.pause s hs (.inl hst)) (pausePlayer_view s))
    · next hst => exact hv.quiet.answer _ _ _ (hv.same (h.pause s hs (.inr hst)) (pausePlayer_view s))
  resume := by
    intro s hs
    unfold cmdResume
    split
    · next hst =>
      obtain ⟨u, he, hg, p, hview⟩ := resumePlayer_view s
      exact hv.quiet.answer _ _ _ (hv.same (h.resume s u p hs hst he hg) hview)
    · exact hv.quiet.answer _ _ _ hs
  locate t := by
    intro s hs
    have answered := fun st => hv.quiet.answer 0x44#8 st s hs
    have playing (ha : s.player.Active) : P (locatePlaying t.toNat s) :=
      hv.same (h.locate s _ _ hs ha) (locatePlaying_view _ s)
    unfold cmdLocate
    split
    · exact answered _
    · next hst =>
      split
      · exact answered _
      · exact hv.quiet.answer _ _ _ (playing (.inl hst))
    · next hst =>
      split
      · exact answered _
      · exact hv.quiet.answer _ _ _ (playing (.inr hst))
    · split
      · exact answered _
      · exact hv.quiet.answer _ _ _ (hv.same (h.cleared s hs) ⟨rfl, rfl, rfl, rfl, rfl⟩)
  setGuide w g := by
    intro s hs
    unfold cmdSetGuide
    dsimp only
    split
    · exact hv.quiet.answer _ _ _ hs
    · next on _ =>
      split
      · exact hv.quiet.answer _ _ _ hs
      · refine hv.quiet.answer _ _ _ ?_
        cases on with
        | true => exact h.waits s _ hs
        | false =>
          exact releaseWait_cleared_of hv (h.unwaits s _ hs) fun hst =>
            hv.same (h.continues _ (h.unwaits s _ hs) hst) ⟨rfl, rfl, rfl, rfl, rfl⟩
  guideSkip s hs := hv.quiet.answer _ _ _ (releaseWait_cleared_of hv (h.cleared s hs) (h.continues s hs))

/-! ### The law of a stopped player, kept -/

/-- No key is down for PLAYBACK. -/
def NoneDown (s : State) : Prop := ∀ k, s.engine.playback.down.mem k = false

theorem playbackEvents_noneDown {ks : List EventKind} (hks : ∀ k ∈ ks, k.presses = false) {s : State} (h : NoneDown s) :
    NoneDown (playbackEvents ks s) := fun k =>
  Bool.eq_false_of_not_eq_true fun hk => by
    have hdown := (playbackEvents_down hks hk).1
    rw [h k] at hdown
    cases hdown

theorem NoneDown.downOpen {s : State} (h : NoneDown s) : DownOpen s := fun k hk => by
  rw [h k] at hk
  cases hk

theorem StoppedLaw.noneDown {s : State} (h : StoppedLaw s) (hr : s.player.state = .stopped ∨ s.player.state = .paused) :
    NoneDown s := fun k =>
  Bool.eq_false_of_not_eq_true fun hk => by
    have hopen := h.1 k hk
    rw [(h.2 hr).1 k] at hopen
    cases hopen

theorem stoppedLaw_live (k : EventKind) (stamp : W32) : Keeps StoppedLaw (routeEvent ⟨.live, stamp, k⟩) := by
  intro s hs
  refine stoppedLaw_ofView.same ?_ (live_view k stamp s)
  rcases guideCheck_view ⟨.live, stamp, k⟩ s with h | ⟨j, h | ⟨-, hw, h⟩⟩
  · exact stoppedLaw_ofView.same hs h
  · exact stoppedLaw_ofView.same (s := setExpected (s.guide.expected.remove j) s) hs h
  · refine stoppedLaw_ofView.same (s := (setExpected _ s).withPlayer _) ?_ h
    exact StoppedLaw.of_active hs.1 (.inl rfl)

theorem keptByViews_stoppedLaw : KeptByViews StoppedLaw where
  stop s hs _ := by
    have hp := closePlayer_player s
    refine ⟨NoneDown.downOpen fun j => closePlayer_down hs.1 j, fun _ => ⟨fun j => ?_, rfl⟩⟩
    show (closePlayer s).player.openKeys.mem j = false
    rw [hp]
    exact mem_none j
  pause s hs _ := by
    have hp := closePlayer_player s
    refine ⟨NoneDown.downOpen fun j => closePlayer_down hs.1 j, fun _ => ⟨fun j => ?_, rfl⟩⟩
    show (closePlayer s).player.openKeys.mem j = false
    rw [hp]
    exact mem_none j
  play s u p hs hst he _ hp := by
    have hu : NoneDown u := fun k => by
      rw [he]
      exact hs.noneDown (.inl hst) k
    refine .of_active (playbackEvents_noneDown (chase_presses p) hu).downOpen ?_
    rw [playbackEvents_player]
    exact .inl hp
  resume s u p hs hst he _ := by
    have hu : NoneDown u := fun k => by
      rw [he]
      exact hs.noneDown (.inr hst) k
    have hdown := playbackEvents_noneDown (chase_presses p) hu
    generalize playbackEvents p.chase u = v at hdown
    exact .of_active (NoneDown.downOpen (s := v.withPlayer _) hdown) (.inl rfl)
  locate s T p hs _ := by
    have hdown : NoneDown (reposition T p s) := reposition_down hs.1 T p
    generalize reposition T p s = v at hdown
    exact .of_active (NoneDown.downOpen (s := (clearExpected v).withPlayer _) hdown) (.inl rfl)
  cleared _ hs := hs
  continues s hs _ := .of_active (s := (clearExpected s).withPlayer _) hs.1 (.inl rfl)
  waits _ _ hs := hs
  unwaits _ _ hs := hs

theorem keptByRows_stoppedLaw : KeptByRows StoppedLaw := by
  refine stoppedLaw_ofView.rows stoppedLaw_live (keptByViews_stoppedLaw.keptByPlayer stoppedLaw_ofView ?_)
    fun c s => resetMeetsTheLaws.2.2.2.2.2.1
  refine takePlayerTick_active stoppedLaw_ofView downOpen_ofView (fun _ hs => hs.1) (fun _ => .of_active)
    emitDue_downOpen (fun a s hs => ?_) fun s hs => ?_
  · have hdown : NoneDown (reposition a s.player.snapshot s) := reposition_down hs a _
    unfold jumped
    generalize reposition a s.player.snapshot s = u at hdown
    exact NoneDown.downOpen (s := clearExpected (u.withPlayer u.player.nextPass)) hdown
  · have hp := closePlayer_player s
    refine ⟨NoneDown.downOpen fun j => closePlayer_down hs j, fun _ => ⟨fun j => ?_, rfl⟩⟩
    show (closePlayer s).player.openKeys.mem j = false
    rw [hp]
    exact mem_none j

/-! ### The law of the expected set, kept -/

theorem expectedLaw_ofView : OfView ExpectedLaw := by
  intro s t h hs
  unfold ExpectedLaw
  rw [h.guide, h.state, h.passKind]
  exact hs

theorem ExpectedLaw.of_isEmpty {s : State} (h : s.guide.expected.isEmpty = true) : ExpectedLaw s :=
  ⟨by rw [card_of_isEmpty h]; exact Nat.zero_le _, fun _ => h⟩

theorem expectedLaw_cleared (s : State) : ExpectedLaw (clearExpected s) := .of_isEmpty isEmpty_none

theorem ExpectedLaw.isEmpty {s : State} (h : ExpectedLaw s) (hr : s.player.state = .stopped ∨ s.player.state = .paused) :
    s.guide.expected.isEmpty = true :=
  h.2 fun hin => by
    rcases hr with hr | hr <;> rcases hin.1 with hp | hp <;> exact absurd (hr.symm.trans hp) nofun

theorem isEmpty_remove {ks : KeySet} (h : ks.isEmpty = true) (k : Key) : (ks.remove k).isEmpty = true := by
  rw [isEmpty_iff] at h ⊢
  intro j
  have hm : (ks.remove k).mem j = _ := mem_remove ks k j
  exact hm.trans (by rw [show ks.mem j = false from h j, Bool.and_false])

theorem expectedLaw_live (k : EventKind) (stamp : W32) : Keeps ExpectedLaw (routeEvent ⟨.live, stamp, k⟩) := by
  intro s hs
  refine expectedLaw_ofView.same ?_ (live_view k stamp s)
  rcases guideCheck_view ⟨.live, stamp, k⟩ s with h | ⟨j, h | ⟨hempty, -, -⟩⟩
  · exact expectedLaw_ofView.same hs h
  · exact expectedLaw_ofView.same (s := setExpected (s.guide.expected.remove j) s)
      ⟨(card_remove_le _ j).trans hs.1, fun hout => isEmpty_remove (hs.2 hout) j⟩ h
  · exact .of_isEmpty hempty

/-- A NOTE_ON at the Guide with wait on adds at most one key to fewer than ten (R160). -/
theorem guideEvent_card {ev : Event} {k : Key} {v : Nat} {rep : Bool} (hk : ev.kind = .noteOn k v rep) {s : State}
    (hw : s.guide.wait = true) (h : s.guide.expected.card ≤ 10) :
    (guideEvent ev s).guide.expected.card ≤ 10 ∧ (guideEvent ev s).guide.wait = true := by
  have hexpect (c : Bool) (t : State) (ht : t.guide.expected.card ≤ 10) (hwt : t.guide.wait = true) :
      (guideExpect k c t).guide.expected.card ≤ 10 ∧ (guideExpect k c t).guide.wait = true := by
    unfold guideExpect
    split
    · exact ⟨ht, hwt⟩
    · split
      · exact ⟨ht, hwt⟩
      · split
        · next hroom => exact ⟨(card_add_le _ k).trans hroom, hwt⟩
        · exact ⟨ht, hwt⟩
  rw [guideEvent, hk]
  dsimp only
  rw [if_pos hw]
  exact hexpect _ _ h hw

/-- An event of the Player keeps the law while it plays or waits: only a practice pass with wait on adds a key. -/
theorem playbackEvent_expected (k : EventKind) (s : State) (ha : s.player.Active) (hs : ExpectedLaw s) :
    ExpectedLaw (playbackEvent k s) := by
  have hp := playbackEvent_player k s
  rcases deliver_guide (finalSet s ⟨.playback, s.clock.us, k⟩) ⟨.playback, s.clock.us, k⟩ s with
    h | ⟨⟨j, v, r, hk⟩, hd, hw, h⟩
  · have hg : (playbackEvent k s).guide = s.guide := h
    unfold ExpectedLaw
    rw [hp, hg]
    exact hs
  · have hg : (playbackEvent k s).guide = _ := h
    have hpractice : s.player.passKind = .practice := by
      rw [finalSet_eq, Bool.and_eq_true, decide_eq_true_eq] at hd
      exact hd.2
    obtain ⟨hcard, hwait⟩ := guideEvent_card hk hw hs.1
    refine ⟨by rwa [hg], fun hout => absurd ⟨?_, ?_, ?_⟩ hout⟩
    · rw [hp]
      exact ha
    · rw [hp]
      exact hpractice
    · rw [hg]
      exact hwait

theorem emitRecord_expected (r : Record) (s : State) (ha : s.player.Active) (hs : ExpectedLaw s) :
    ExpectedLaw (emitRecord r s) := by
  unfold emitRecord
  have hread : ExpectedLaw (s.withPlayer (s.player.read r.body)) := hs
  cases s.player.eventOf r.body with
  | none => exact hread
  | some k => exact playbackEvent_expected k _ ha hread

theorem enterWait_expected (s : State) (_ : s.player.Active) (hs : ExpectedLaw s) : ExpectedLaw (enterWait s) :=
  ⟨hs.1, fun hout => hs.2 fun hin => hout ⟨.inr rfl, hin.2⟩⟩

theorem keptByViews_expectedLaw : KeptByViews ExpectedLaw where
  stop s _ _ := by
    generalize closePlayer s = u
    exact .of_isEmpty isEmpty_none
  pause s _ _ := by
    generalize closePlayer s = u
    exact .of_isEmpty isEmpty_none
  play s u p hs hst _ hg _ := by
    refine .of_isEmpty ?_
    rw [playbackEvents_guide (chase_presses p), hg]
    exact hs.isEmpty (.inl hst)
  resume s u p hs hst _ hg := by
    have hempty : (playbackEvents p.chase u).guide.expected.isEmpty = true := by
      rw [playbackEvents_guide (chase_presses p), hg]
      exact hs.isEmpty (.inr hst)
    generalize playbackEvents p.chase u = t at hempty
    exact .of_isEmpty hempty
  locate s T p _ _ := by
    generalize reposition T p s = u
    exact .of_isEmpty isEmpty_none
  cleared s _ := expectedLaw_cleared s
  continues _ _ _ := .of_isEmpty isEmpty_none
  waits s g hs := ⟨hs.1, fun hout => hs.2 fun hin => hout ⟨hin.1, hin.2.1, rfl⟩⟩
  unwaits _ _ _ := .of_isEmpty isEmpty_none

theorem keptByRows_expectedLaw : KeptByRows ExpectedLaw := by
  refine expectedLaw_ofView.rows expectedLaw_live (keptByViews_expectedLaw.keptByPlayer expectedLaw_ofView ?_)
    fun c s => .of_isEmpty isEmpty_none
  refine takePlayerTick_active expectedLaw_ofView expectedLaw_ofView (fun _ hs => hs) (fun _ hs _ => hs)
    (emitDue_active expectedLaw_ofView emitRecord_expected enterWait_expected) (fun a s _ => ?_) fun s _ => ?_
  · unfold jumped
    generalize reposition a s.player.snapshot s = u
    exact expectedLaw_cleared _
  · generalize closePlayer s = u
    exact .of_isEmpty isEmpty_none

/-- Settles O58: each law holds along every row by the closure of its operations. -/
theorem stepsKeepThePlayerLaws : Obligations.StepsKeepThePlayerLaws := fun _ _ ht =>
  ⟨keptByRows_stoppedLaw.step ht, keptByRows_expectedLaw.step ht⟩

end Sys2Proof.Machine
end

section
/-! PROOFS. The Pedal Unit (chapter 3): a sample, the fault rows and the commands. -/

namespace Sys2Proof.Machine

open Sys2Proof.StepRows

/-! ### The step of an event row, and the passing of time before a sample -/

/-- The step of an event row of a steady part that changes the link by notices and the GAP timer alone. -/
theorem exec_event {i : Instr} {f : State → State} (hi : ∀ s, rowAct i s = whenRunning f s) {s : State} (h : s.Steady)
    (hr : (f s).running = s.running) (hc : (f s).link.core = s.link.core) : exec i s = .next (chooseTx (f s)) := by
  rw [exec_whenRunning hi h.1, pump_of_steady h hr hc]

/-- What time keeps, the time up to a sample's stamp keeps. -/
theorem catchUp_keeps {P : State → Prop} (ht : ∀ n, Keeps P (advance n)) (stamp : W32) : Keeps P (catchUp stamp) := by
  intro s hs
  obtain h | ⟨n, h⟩ := catchUp_cases stamp s
  · rwa [h]
  · rw [h]
    exact ht n s hs

/-- What the time up to a sample's stamp leaves as it was. -/
structure TimeFrame (s t : State) : Prop where
  running : t.running = s.running
  keys : t.keys = s.keys
  touch : t.touch = s.touch
  pedals : t.pedals = s.pedals
  router : t.router = s.router
  engine : t.engine = s.engine
  output : t.output = s.output
  store : t.store = s.store
  bulk : t.bulk = s.bulk
  player : t.player = s.player
  guide : t.guide = s.guide
  edit : t.edit = s.edit
  flash : t.flash = s.flash
  choices : t.choices = s.choices
  pending : t.pending = s.pending
  core : t.link.core = s.link.core

theorem catchUp_frame (stamp : W32) (s : State) : TimeFrame s (catchUp stamp s) := by
  obtain h | ⟨n, h⟩ := catchUp_cases stamp s
  · rw [h]
    constructor <;> rfl
  · rw [h]
    constructor
    case core => exact advance_core n s
    all_goals rfl

/-- Route the event a sample forms, if any, with source LIVE and the sample's stamp (R52, R11). -/
def tell (stamp : W32) (kind : Option EventKind) (s : State) : State :=
  kind.elim s fun k => routeEvent ⟨.live, stamp, k⟩ s

theorem tell_frame (stamp : W32) (kind : Option EventKind) (s : State) : EventFrame s (tell stamp kind s) := by
  cases kind with
  | none => exact .refl s
  | some k => exact routeEvent_frame _ s

/-! ### One sample at a pedal record -/

@[simp] theorem PedalUnit.get_put_same (u : PedalUnit) (p : Pedal) (r : PedalRecord) : (u.put p r).get p = r := by
  cases p <;> rfl

theorem PedalUnit.get_put_of_ne {p q : Pedal} (h : q ≠ p) (u : PedalUnit) (r : PedalRecord) :
    (u.put p r).get q = u.get q := by
  cases p <;> cases q <;> first | rfl | exact absurd rfl h

@[simp] theorem PedalUnit.settings_put (u : PedalUnit) (p : Pedal) (r : PedalRecord) :
    (u.put p r).settings = u.settings := by
  cases p <;> rfl

/-- The record with the raw value of a sample joined to its window, its average and its depth (R40, R43). -/
def PedalRecord.stored (r : PedalRecord) (raw : Nat) : PedalRecord :=
  let w := joinWindow r.window raw
  { r with window := w, lastRaw := raw, avg := windowMean w, depth := r.depthOf (windowMean w) }

/-- A sample is judged in ACTIVE: in the window, or out of it with a count below 31 (R50). -/
def PedalRecord.judged (r : PedalRecord) (raw : Nat) : Bool := r.inRange raw || decide (r.outCount < 31)

/-- The depth of a pedal that is calibrated, for the average of the window with a raw value (R43). -/
def PedalRecord.depthAt (r : PedalRecord) (raw : Nat) : Nat :=
  min 1023 ((windowMean (joinWindow r.window raw) - r.rest) * 1024 / (r.full - r.rest))

theorem samplePedal_uncalibrated {r : PedalRecord} (h : r.state = .uncalibrated) (st : PedalSettings) (p : Pedal)
    (raw : Nat) : samplePedal st p r raw = (r.stored raw, none, .none) := by
  unfold samplePedal supervisePedal PedalRecord.stored
  simp [h, PedalRecord.depthOf]

/-- The count of samples out of the window after a sample that is judged (R50). -/
def PedalRecord.counted (r : PedalRecord) (raw : Nat) : PedalRecord :=
  { r.stored raw with outCount := if r.inRange raw then 0 else r.outCount + 1 }

/-- Fault supervision reads the calibration, the state and the counts alone. -/
theorem supervise_judged {r : PedalRecord} (h : r.state = .active) {raw : Nat} (hj : r.judged raw = true) :
    supervisePedal { r with window := joinWindow r.window raw } raw =
      ({ r with window := joinWindow r.window raw, outCount := if r.inRange raw then 0 else r.outCount + 1 }, .none) := by
  have hin : ({ r with window := joinWindow r.window raw } : PedalRecord).inRange raw = r.inRange raw := rfl
  have hj : r.inRange raw = true ∨ r.outCount < 31 := by simpa [PedalRecord.judged] using hj
  unfold supervisePedal
  split
  · next hs => exact absurd (h.symm.trans hs) nofun
  · rw [hin]
    split
    · rfl
    · next hout =>
      have hcount := hj.resolve_left hout
      rw [if_neg (by show ¬(32 ≤ r.outCount + 1); omega)]
  · next hs => exact absurd (h.symm.trans hs) nofun

/-- The depth reads the calibration of the record alone. -/
theorem depthOf_calibrated (r : PedalRecord) (raw : Nat) (x : PedalRecord) (hs : x.state ≠ .uncalibrated)
    (hr : x.rest = r.rest) (hf : x.full = r.full) : x.depthOf (windowMean (joinWindow r.window raw)) = r.depthAt raw := by
  rw [PedalRecord.depthOf, if_neg hs, hr, hf]
  rfl

theorem stored_calibrated {r : PedalRecord} (h : r.state ≠ .uncalibrated) (raw : Nat) :
    r.stored raw = { r with
      window := joinWindow r.window raw, lastRaw := raw, avg := windowMean (joinWindow r.window raw)
      depth := r.depthAt raw } := by
  dsimp only [PedalRecord.stored]
  rw [depthOf_calibrated r raw r h rfl rfl]

theorem counted_eq {r : PedalRecord} (h : r.state = .active) (raw : Nat) :
    r.counted raw = { r with
      window := joinWindow r.window raw, lastRaw := raw, avg := windowMean (joinWindow r.window raw)
      depth := r.depthAt raw, outCount := if r.inRange raw then 0 else r.outCount + 1 } := by
  rw [PedalRecord.counted, stored_calibrated (by rw [h]; decide)]

/-- A judged sample of an ACTIVE pedal: the judgement of the record at the depth of the average (R44, R45, R47). -/
theorem samplePedal_active {r : PedalRecord} (h : r.state = .active) {raw : Nat} (hj : r.judged raw = true)
    (st : PedalSettings) (p : Pedal) : samplePedal st p r raw =
      let x := judgePedal st p { r with
        window := joinWindow r.window raw, outCount := if r.inRange raw then 0 else r.outCount + 1 } (r.depthAt raw)
      ({ x.1 with lastRaw := raw, avg := windowMean (joinWindow r.window raw), depth := r.depthAt raw }, x.2, .none) := by
  dsimp only [samplePedal]
  rw [supervise_judged h hj]
  dsimp only
  rw [if_pos h, depthOf_calibrated r]
  all_goals first | rfl | exact h ▸ nofun

/-- A judged sample of an ACTIVE DAMPER or SOFT pedal (R44, R45). -/
theorem samplePedal_value {r : PedalRecord} (h : r.state = .active) {raw : Nat} (hj : r.judged raw = true)
    (st : PedalSettings) {p : Pedal} (hp : p ≠ .sostenuto) :
    let v := if p = .soft then pedalValue st.softLow st.softHigh (r.depthAt raw)
      else pedalValue st.damperLow st.damperHigh (r.depthAt raw)
    samplePedal st p r raw =
      if reports st.w v r.lastEmitted then
        ({ r.counted raw with value := v, lastEmitted := v }, some (valueEvent p v), .none)
      else ({ r.counted raw with value := v }, none, .none) := by
  intro v
  rw [samplePedal_active h hj, counted_eq h]
  cases p with
  | sostenuto => exact absurd rfl hp
  | damper =>
    have hv : v = pedalValue st.damperLow st.damperHigh (r.depthAt raw) := if_neg (by decide)
    rw [hv]
    dsimp only [judgePedal]
    cases reports st.w (pedalValue st.damperLow st.damperHigh (r.depthAt raw)) r.lastEmitted <;> rfl
  | soft =>
    have hv : v = pedalValue st.softLow st.softHigh (r.depthAt raw) := if_pos rfl
    rw [hv]
    dsimp only [judgePedal]
    cases reports st.w (pedalValue st.softLow st.softHigh (r.depthAt raw)) r.lastEmitted <;> rfl

/-- A judged sample of an ACTIVE SOSTENUTO pedal (R47). -/
theorem samplePedal_sost {r : PedalRecord} (h : r.state = .active) {raw : Nat} (hj : r.judged raw = true)
    (st : PedalSettings) : samplePedal st .sostenuto r raw =
      ({ r.counted raw with
          sost := if r.sost then decide (st.sostOff < r.depthAt raw) else decide (st.sostOn ≤ r.depthAt raw) },
        if r.sost then (if r.depthAt raw ≤ st.sostOff then some .sostOff else none)
        else if st.sostOn ≤ r.depthAt raw then some .sostOn else none, .none) := by
  rw [samplePedal_active h hj, counted_eq h]
  dsimp only [judgePedal]
  cases hs : r.sost with
  | true =>
    by_cases hd : r.depthAt raw ≤ st.sostOff
    · simp [hd]
    · simp [hd, Nat.lt_of_not_le hd]
  | false =>
    by_cases hd : st.sostOn ≤ r.depthAt raw
    · simp [hd]
    · simp [hd]

/-- The sample that moves an ACTIVE pedal to FAULT (R50). -/
theorem samplePedal_faulted {r : PedalRecord} (h : r.state = .active) {raw : Nat} (hj : r.judged raw = false)
    (st : PedalSettings) (p : Pedal) : samplePedal st p r raw =
      let x := forcePedal p { r.stored raw with state := .fault, outCount := 32, inCount := 0 }
      (x.1, x.2, .faulted) := by
  have hsup : supervisePedal { r with window := joinWindow r.window raw } raw =
      ({ r with window := joinWindow r.window raw, state := .fault, outCount := 32, inCount := 0 }, .faulted) := by
    have hin : ({ r with window := joinWindow r.window raw } : PedalRecord).inRange raw = r.inRange raw := rfl
    obtain ⟨hout, hcount⟩ : r.inRange raw = false ∧ 31 ≤ r.outCount := by simpa [PedalRecord.judged] using hj
    unfold supervisePedal
    split
    · next hs => exact absurd (h.symm.trans hs) nofun
    · rw [hin, if_neg (ne_true_of_eq_false hout), if_pos (by show 32 ≤ r.outCount + 1; omega)]
    · next hs => exact absurd (h.symm.trans hs) nofun
  dsimp only [samplePedal]
  rw [hsup, stored_calibrated (by rw [h]; decide)]
  dsimp only
  rw [depthOf_calibrated r]
  · cases p <;> rfl
  · exact nofun
  · cases p <;> rfl
  · cases p <;> rfl

/-- A sample that is not judged and forces nothing (R40). -/
theorem samplePedal_counts {r x : PedalRecord} {raw : Nat} {sup : PedalSupervision}
    (hx : supervisePedal { r with window := joinWindow r.window raw } raw = (x, sup))
    (h : sup = .none ∧ x.state ≠ .active ∨ sup = .recovered) (hs : x.state ≠ .uncalibrated) (hr : x.rest = r.rest)
    (hf : x.full = r.full) (st : PedalSettings) (p : Pedal) :
    samplePedal st p r raw =
      ({ x with lastRaw := raw, avg := windowMean (joinWindow r.window raw), depth := r.depthAt raw }, none, sup) := by
  dsimp only [samplePedal]
  rw [hx]
  dsimp only
  rw [depthOf_calibrated r raw x hs hr hf]
  rcases h with ⟨rfl, ha⟩ | rfl
  · dsimp only
    rw [if_neg ha]
  · rfl

/-- A sample of a pedal in FAULT (R51). -/
theorem samplePedal_fault {r : PedalRecord} (h : r.state = .fault) (raw : Nat) (st : PedalSettings) (p : Pedal) :
    samplePedal st p r raw =
      if r.inRange raw then
        if r.inCount < 63 then ({ r.stored raw with inCount := r.inCount + 1 }, none, .none)
        else ({ r.stored raw with state := .active, outCount := 0, inCount := 0 }, none, .recovered)
      else ({ r.stored raw with inCount := 0 }, none, .none) := by
  have hsup : supervisePedal { r with window := joinWindow r.window raw } raw =
      if r.inRange raw then
        if 64 ≤ r.inCount + 1 then
          ({ r with window := joinWindow r.window raw, state := .active, outCount := 0, inCount := 0 }, .recovered)
        else ({ r with window := joinWindow r.window raw, inCount := r.inCount + 1 }, .none)
      else ({ r with window := joinWindow r.window raw, inCount := 0 }, .none) := by
    unfold supervisePedal
    split
    · next hs => exact absurd (h.symm.trans hs) nofun
    · next hs => exact absurd (h.symm.trans hs) nofun
    · rfl
  have hc : r.state ≠ .uncalibrated := by rw [h]; decide
  have ha : r.state ≠ .active := by rw [h]; decide
  rw [stored_calibrated hc]
  by_cases hin : r.inRange raw = true
  · rw [if_pos hin] at hsup ⊢
    by_cases hlast : r.inCount < 63
    · rw [if_neg (by omega)] at hsup
      rw [if_pos hlast, samplePedal_counts hsup (.inl ⟨rfl, ha⟩) hc rfl rfl]
    · rw [if_pos (by omega)] at hsup
      rw [if_neg hlast, samplePedal_counts hsup (.inr rfl) nofun rfl rfl]
  · rw [if_neg hin] at hsup ⊢
    rw [samplePedal_counts hsup (.inl ⟨rfl, ha⟩) hc rfl rfl]

/-! ### A sample in every state of the pedal -/

/-- The value a judged sample gives a DAMPER or SOFT pedal (R44). -/
def PedalRecord.valueAt (r : PedalRecord) (st : PedalSettings) (p : Pedal) (raw : Nat) : Nat :=
  pedalValue (if p = .damper then st.damperLow else st.softLow) (if p = .damper then st.damperHigh else st.softHigh)
    (r.depthAt raw)

/-- The record after a sample (R40, R44, R45, R47, R50, R51). -/
def keptPedal (st : PedalSettings) (p : Pedal) (r : PedalRecord) (raw : Nat) : PedalRecord :=
  match r.state with
  | .uncalibrated => r.stored raw
  | .active =>
    if r.judged raw then
      if p = .sostenuto then
        { r.counted raw with
          sost := if r.sost then decide (st.sostOff < r.depthAt raw) else decide (st.sostOn ≤ r.depthAt raw) }
      else
        { r.counted raw with
          value := r.valueAt st p raw
          lastEmitted := if reports st.w (r.valueAt st p raw) r.lastEmitted then r.valueAt st p raw else r.lastEmitted }
    else if p = .sostenuto then { r.stored raw with state := .fault, outCount := 32, inCount := 0, sost := false }
    else { r.stored raw with state := .fault, outCount := 32, inCount := 0, value := 0, lastEmitted := 0 }
  | .fault =>
    if r.inRange raw then
      if r.inCount < 63 then { r.stored raw with inCount := r.inCount + 1 }
      else { r.stored raw with state := .active, outCount := 0, inCount := 0 }
    else { r.stored raw with inCount := 0 }

/-- The event that carries a value of the DAMPER or SOFT pedal. -/
def carries (p : Pedal) (v : Nat) : EventKind := if p = .soft then .soft v else .damper v

/-- The event a sample forms (R45, R47, R50). -/
def formedEvent (st : PedalSettings) (p : Pedal) (r : PedalRecord) (raw : Nat) : Option EventKind :=
  if r.state ≠ .active then none
  else if r.judged raw then
    if p = .sostenuto then
      if r.sost then (if r.depthAt raw ≤ st.sostOff then some .sostOff else none)
      else if st.sostOn ≤ r.depthAt raw then some .sostOn else none
    else if reports st.w (r.valueAt st p raw) r.lastEmitted then some (carries p (r.valueAt st p raw)) else none
  else if p = .sostenuto then (if r.sost then some .sostOff else none)
  else if r.lastEmitted = 0 then none else some (carries p 0)

/-- What fault supervision makes of a sample (R50, R51). -/
def pedalOutcome (r : PedalRecord) (raw : Nat) : PedalSupervision :=
  if r.state = .active ∧ r.judged raw = false then .faulted
  else if r.state = .fault ∧ r.inRange raw = true ∧ 63 ≤ r.inCount then .recovered
  else .none

theorem valueEvent_eq {p : Pedal} (h : p ≠ .sostenuto) (v : Nat) : valueEvent p v = carries p v := by
  cases p with
  | damper => rfl
  | soft => rfl
  | sostenuto => exact absurd rfl h

theorem valueAt_eq {p : Pedal} (h : p ≠ .sostenuto) (r : PedalRecord) (st : PedalSettings) (raw : Nat) :
    (if p = .soft then pedalValue st.softLow st.softHigh (r.depthAt raw)
      else pedalValue st.damperLow st.damperHigh (r.depthAt raw)) = r.valueAt st p raw := by
  cases p with
  | damper => rfl
  | soft => rfl
  | sostenuto => exact absurd rfl h

theorem keptPedal_uncalibrated {r : PedalRecord} (h : r.state = .uncalibrated) (st : PedalSettings) (p : Pedal)
    (raw : Nat) : keptPedal st p r raw = r.stored raw := by
  rw [keptPedal, h]

theorem keptPedal_judged {r : PedalRecord} (h : r.state = .active) {raw : Nat} (hj : r.judged raw = true)
    (st : PedalSettings) (p : Pedal) : keptPedal st p r raw =
      if p = .sostenuto then
        { r.counted raw with
          sost := if r.sost then decide (st.sostOff < r.depthAt raw) else decide (st.sostOn ≤ r.depthAt raw) }
      else
        { r.counted raw with
          value := r.valueAt st p raw
          lastEmitted := if reports st.w (r.valueAt st p raw) r.lastEmitted then r.valueAt st p raw else r.lastEmitted } := by
  rw [keptPedal, h]
  exact if_pos hj

theorem keptPedal_faulted {r : PedalRecord} (h : r.state = .active) {raw : Nat} (hj : r.judged raw = false)
    (st : PedalSettings) (p : Pedal) : keptPedal st p r raw =
      if p = .sostenuto then { r.stored raw with state := .fault, outCount := 32, inCount := 0, sost := false }
      else { r.stored raw with state := .fault, outCount := 32, inCount := 0, value := 0, lastEmitted := 0 } := by
  rw [keptPedal, h]
  exact if_neg (ne_true_of_eq_false hj)

theorem keptPedal_fault {r : PedalRecord} (h : r.state = .fault) (st : PedalSettings) (p : Pedal) (raw : Nat) :
    keptPedal st p r raw =
      if r.inRange raw then
        if r.inCount < 63 then { r.stored raw with inCount := r.inCount + 1 }
        else { r.stored raw with state := .active, outCount := 0, inCount := 0 }
      else { r.stored raw with inCount := 0 } := by
  rw [keptPedal, h]

theorem forcePedal_value {p : Pedal} (h : p ≠ .sostenuto) (r : PedalRecord) :
    forcePedal p r = ({ r with value := 0, lastEmitted := 0 }, if r.lastEmitted = 0 then none else some (carries p 0)) := by
  have hif : (if r.lastEmitted ≠ 0 then some (valueEvent p 0) else none) =
      if r.lastEmitted = 0 then none else some (carries p 0) := by
    rw [valueEvent_eq h, ite_not]
  cases p with
  | sostenuto => exact absurd rfl h
  | damper => exact congrArg (Prod.mk _) hif
  | soft => exact congrArg (Prod.mk _) hif

/-- One sample at a pedal record, in every state of it. -/
theorem samplePedal_eq (st : PedalSettings) (p : Pedal) (r : PedalRecord) (raw : Nat) :
    samplePedal st p r raw = (keptPedal st p r raw, formedEvent st p r raw, pedalOutcome r raw) := by
  cases hs : r.state with
  | uncalibrated =>
    have hf : formedEvent st p r raw = none := by simp [formedEvent, hs]
    have ho : pedalOutcome r raw = .none := by simp [pedalOutcome, hs]
    rw [samplePedal_uncalibrated hs, keptPedal_uncalibrated hs, hf, ho]
  | active =>
    cases hj : r.judged raw with
    | true =>
      have ho : pedalOutcome r raw = .none := by simp [pedalOutcome, hs, hj]
      rw [keptPedal_judged hs hj, ho]
      by_cases hp : p = .sostenuto
      · subst hp
        have hf : formedEvent st .sostenuto r raw = if r.sost then (if r.depthAt raw ≤ st.sostOff then some .sostOff else none)
            else if st.sostOn ≤ r.depthAt raw then some .sostOn else none := by simp [formedEvent, hs, hj]
        rw [samplePedal_sost hs hj, hf]
        rfl
      · have hf : formedEvent st p r raw = if reports st.w (r.valueAt st p raw) r.lastEmitted then
            some (carries p (r.valueAt st p raw)) else none := by simp [formedEvent, hs, hj, hp]
        rw [samplePedal_value hs hj st hp, valueAt_eq hp, valueEvent_eq hp, hf]
        rw [if_neg hp]
        cases reports st.w (r.valueAt st p raw) r.lastEmitted <;> rfl
    | false =>
      have ho : pedalOutcome r raw = .faulted := by simp [pedalOutcome, hs, hj]
      rw [samplePedal_faulted hs hj, keptPedal_faulted hs hj, ho]
      by_cases hp : p = .sostenuto
      · subst hp
        have hf : formedEvent st .sostenuto r raw = if r.sost then some .sostOff else none := by
          simp [formedEvent, hs, hj]
        rw [hf]
        rfl
      · have hf : formedEvent st p r raw = if r.lastEmitted = 0 then none else some (carries p 0) := by
          simp [formedEvent, hs, hj, hp]
        rw [forcePedal_value hp, if_neg hp, hf]
        rfl
  | fault =>
    have hf : formedEvent st p r raw = none := by simp [formedEvent, hs]
    rw [samplePedal_fault hs, keptPedal_fault hs, hf]
    by_cases hin : r.inRange raw = true
    · by_cases hc : r.inCount < 63
      · have ho : pedalOutcome r raw = .none := by simp [pedalOutcome, hs, hc]
        rw [if_pos hin, if_pos hin, if_pos hc, if_pos hc, ho]
      · have ho : pedalOutcome r raw = .recovered := by simp [pedalOutcome, hs, hin, Nat.le_of_not_lt hc]
        rw [if_pos hin, if_pos hin, if_neg hc, if_neg hc, ho]
    · have ho : pedalOutcome r raw = .none := by simp [pedalOutcome, hs, hin]
      rw [if_neg hin, if_neg hin, ho]

/-! ### The step of a sample -/

/-- A pedal sample on a pedal of a record: the record, the event, PEDAL_FAULT. -/
def pedalSampled (p : Pedal) (raw : Nat) (stamp : W32) (s : State) : State :=
  pedalFaultNotice p raw (pedalOutcome (s.pedals.get p) raw)
    (tell stamp (formedEvent s.pedals.settings p (s.pedals.get p) raw)
      ((catchUp stamp s).withPedals (s.pedals.put p (keptPedal s.pedals.settings p (s.pedals.get p) raw))))

theorem takePedalSample_eq (p : Pedal) (raw : Raw) (stamp : W32) (s : State) :
    takePedalSample p raw stamp s = pedalSampled p raw.val stamp s := by
  dsimp only [takePedalSample]
  rw [(catchUp_frame stamp s).pedals, samplePedal_eq, pedalSampled]
  dsimp only
  cases formedEvent s.pedals.settings p (s.pedals.get p) raw.val <;> rfl

theorem pedalSampled_frame (p : Pedal) (raw : Nat) (stamp : W32) (s : State) :
    EventFrame ((catchUp stamp s).withPedals (s.pedals.put p (keptPedal s.pedals.settings p (s.pedals.get p) raw)))
      (pedalSampled p raw stamp s) :=
  (tell_frame _ _ _).trans (pedalFaultNotice_frame _ _ _ _)

theorem exec_pedalSampled {i : Instr} {p : Pedal} {raw : Nat} {stamp : W32} {s : State} {f : State → State}
    (hi : ∀ s, rowAct i s = whenRunning f s) (hf : f s = pedalSampled p raw stamp s) (h : s.Steady) :
    exec i s = .next (chooseTx (pedalSampled p raw stamp s)) := by
  have hframe := pedalSampled_frame p raw stamp s
  have htime := catchUp_frame stamp s
  rw [← hf] at hframe ⊢
  exact exec_event hi h (hframe.running.trans htime.running) (hframe.core.trans htime.core)

theorem exec_pedalSample (p : Pedal) (raw : Raw) (stamp : W32) {s : State} (h : s.Steady) :
    exec (.pedalSample p raw stamp) s = .next (chooseTx (pedalSampled p raw.val stamp s)) :=
  exec_pedalSampled (f := takePedalSample p raw stamp) (fun _ => rfl) (takePedalSample_eq p raw stamp s) h

theorem pedalFaultNotice_rest (p : Pedal) (raw : Nat) (sup : PedalSupervision) (s : State) :
    ∃ l, pedalFaultNotice p raw sup s = s.withLink l := by
  cases sup <;> exact ⟨_, rfl⟩

theorem joinWindow_eq {w : List Nat} (h : w.length ≤ 4) (raw : Nat) :
    (if w.length = 4 then w.drop 1 else w) ++ [raw] = joinWindow w raw := by
  unfold joinWindow
  by_cases h4 : w.length = 4
  · rw [if_pos h4, if_pos (by omega)]
  · rw [if_neg h4, if_neg (by omega)]

theorem reports_eq (w v last : Nat) :
    reports w v last = decide ((w ≤ (v - last) + (last - v)) ∨ ((v = 0 ∨ v = 255) ∧ v ≠ last)) := by
  rw [reports, ← Bool.decide_and, ← Bool.decide_or]

/-- What a sample leaves of a pedal's record in every state (R40, R43). -/
theorem keptPedal_sampled (st : PedalSettings) (p : Pedal) (r : PedalRecord) (raw : Nat) :
    (keptPedal st p r raw).window = joinWindow r.window raw ∧ (keptPedal st p r raw).lastRaw = raw ∧
      (keptPedal st p r raw).avg = windowMean (joinWindow r.window raw) ∧ (keptPedal st p r raw).rest = r.rest ∧
      (keptPedal st p r raw).full = r.full ∧
      (r.state ≠ .uncalibrated → (keptPedal st p r raw).depth = r.depthAt raw) := by
  have hdepth : r.state ≠ .uncalibrated → (r.stored raw).depth = r.depthAt raw := fun h => by rw [stored_calibrated h]
  unfold keptPedal
  repeat' split
  all_goals exact ⟨rfl, rfl, rfl, rfl, rfl, hdepth⟩

theorem pedalSampled_routed {s t : State} {p : Pedal} {raw : Nat} {stamp : W32}
    (ht : t = chooseTx (pedalSampled p raw stamp s)) :
    t.SameRouted (tell stamp (formedEvent s.pedals.settings p (s.pedals.get p) raw)
      ((catchUp stamp s).withPedals (s.pedals.put p (keptPedal s.pedals.settings p (s.pedals.get p) raw)))) := by
  unfold pedalSampled at ht
  generalize tell stamp (formedEvent s.pedals.settings p (s.pedals.get p) raw)
    ((catchUp stamp s).withPedals (s.pedals.put p (keptPedal s.pedals.settings p (s.pedals.get p) raw))) = u at ht ⊢
  obtain ⟨l, hl⟩ := pedalFaultNotice_rest p raw (pedalOutcome (s.pedals.get p) raw) u
  rw [ht, hl]
  exact ⟨rfl, rfl, rfl, rfl, rfl, rfl, rfl⟩

/-- Settles O33: `samplePedal_eq` gives the record, the event and the notice of every sample. -/
theorem pedalSampleJudgesTheAverage : Obligations.PedalSampleJudgesTheAverage := by
  intro s p raw stamp h hlen
  have hframe := pedalSampled_frame p raw.val stamp s
  have htime := catchUp_frame stamp s
  have hjoin := joinWindow_eq hlen raw.val
  obtain ⟨t, ht⟩ : ∃ t, t = chooseTx (pedalSampled p raw.val stamp s) := ⟨_, rfl⟩
  have hrouted := pedalSampled_routed ht
  have hpedals : t.pedals = s.pedals.put p (keptPedal s.pedals.settings p (s.pedals.get p) raw.val) := by
    rw [ht]
    exact hframe.pedals
  refine ⟨t, ht ▸ exec_pedalSample p raw stamp h, ?_, fun q hq => ?_, ?_, ?_⟩
  · intro r r' w avg d inside judged low high v reported carries formed sampled
    have hw : w = joinWindow r.window raw.val := hjoin
    clear_value w
    subst hw
    have hreported : reported = reports s.pedals.settings.w v r.lastEmitted := (reports_eq _ _ _).symm
    clear_value reported
    subst hreported
    have hformed : formed = formedEvent s.pedals.settings p r raw.val := rfl
    clear_value formed
    subst hformed
    have hr' : r' = keptPedal s.pedals.settings p r raw.val := by
      show t.pedals.get p = _
      rw [hpedals]
      exact PedalUnit.get_put_same _ _ _
    clear_value r'
    subst hr'
    refine ⟨?_, ?_, ?_⟩
    · have hsampled : sampled = (catchUp stamp s).withPedals (s.pedals.put p (keptPedal s.pedals.settings p r raw.val)) :=
        congrArg (fun x => { catchUp stamp s with pedals := x }) hpedals
      clear_value sampled
      subst hsampled
      revert hrouted
      show t.SameRouted (tell stamp (formedEvent s.pedals.settings p r raw.val) _) → _
      cases formedEvent s.pedals.settings p r raw.val <;> exact id
    · intro stored kept base told noticed
      have hkept : kept = keptPedal s.pedals.settings p r raw.val := rfl
      clear_value kept
      subst hkept
      have htold : told = tell stamp (formedEvent s.pedals.settings p r raw.val) base := by
        show (match formedEvent s.pedals.settings p r raw.val with | none => _ | some kind => _) = _
        cases formedEvent s.pedals.settings p r raw.val <;> rfl
      clear_value told
      have hnoticed : noticed = pedalFaultNotice p raw.val (pedalOutcome r raw.val) told := by
        show (if r.state = .active ∧ r.judged raw.val = false then raise (.pedalFault p false raw.val) told
          else if r.state = .fault ∧ r.inRange raw.val = true ∧ 63 ≤ r.inCount then
            raise (.pedalFault p true raw.val) told else told) = _
        unfold pedalOutcome
        split
        · rfl
        · split <;> rfl
      rw [hnoticed, htold]
      exact ⟨rfl, ht⟩
    · obtain ⟨hwin, hlast, havg, hrest, hfull, hdepth⟩ := keptPedal_sampled s.pedals.settings p r raw.val
      refine ⟨hwin, hlast, havg, hrest, hfull, fun hs => ?_, hdepth, fun hs hj => ?_, fun hs hc => ?_⟩
      · rw [keptPedal_uncalibrated hs]
        exact ⟨hs, if_pos hs, rfl, rfl, rfl⟩
      · rw [keptPedal_judged hs hj]
        by_cases hp : p = .sostenuto
        · rw [if_pos hp]
          exact ⟨hs, rfl, fun hne => absurd hp hne, fun _ => rfl⟩
        · rw [if_neg hp]
          exact ⟨hs, rfl, fun _ => ⟨rfl, rfl⟩, fun he => absurd he hp⟩
      · rw [keptPedal_fault hs]
        show PedalRecord.state (if r.inRange raw.val = true then _ else _) = _ ∧ _
        have hinside : inside = r.inRange raw.val := rfl
        clear_value inside
        subst hinside
        rcases hin : r.inRange raw.val with _ | _
        · exact ⟨hs, rfl, rfl, rfl, rfl, rfl⟩
        · have hlt : r.inCount < 63 := hc.resolve_left (by rw [hin]; decide)
          rw [if_pos rfl, if_pos hlt]
          exact ⟨hs, rfl, rfl, rfl, rfl, rfl⟩
  · rw [hpedals]
    exact PedalUnit.get_put_of_ne hq _ _
  · rw [hpedals]
    exact PedalUnit.settings_put _ _ _
  · rw [ht]
    exact ⟨hframe.keys.trans htime.keys, hframe.touch.trans htime.touch, hframe.output.trans htime.output,
      hframe.bulk.trans htime.bulk, hframe.edit.trans htime.edit, hframe.flash.trans htime.flash,
      hframe.routes.trans (congrArg Router.routes htime.router), hframe.map.trans (congrArg Engine.map htime.engine),
      hframe.running.trans htime.running, hframe.pending.trans htime.pending, hframe.rail, hframe.clock⟩

/-! ### The fault rows -/

/-- Fault supervision reads the state, the calibration and the counts alone. -/
theorem supervisePedal_window (r : PedalRecord) (w : List Nat) (raw : Nat) :
    (supervisePedal { r with window := w } raw).2 = (supervisePedal r raw).2 := by
  obtain ⟨state, rest, full, window, lastRaw, avg, depth, value, lastEmitted, sost, outCount, inCount⟩ := r
  have hin : ∀ x, (PedalRecord.mk state rest full x lastRaw avg depth value lastEmitted sost outCount inCount).inRange raw =
      (PedalRecord.mk state rest full w lastRaw avg depth value lastEmitted sost outCount inCount).inRange raw := fun _ => rfl
  unfold supervisePedal
  cases state
  · rfl
  all_goals
    dsimp only
    rw [hin window]
    repeat' split
  all_goals rfl

theorem pedalSupervision_eq (p : Pedal) (raw : Raw) (s : State) :
    pedalSupervision p raw s = pedalOutcome (s.pedals.get p) raw.val :=
  (supervisePedal_window (s.pedals.get p) (joinWindow (s.pedals.get p).window raw.val) raw.val).symm.trans
    (congrArg (fun x => x.2.2) (samplePedal_eq s.pedals.settings p (s.pedals.get p) raw.val))

/-- The step of the row of the 32nd sample out of the window is that sample's (R50). -/
theorem exec_pedalFaultEntry {s : State} {p : Pedal} {raw : Raw} (stamp : W32) (h : s.Steady)
    (ho : pedalOutcome (s.pedals.get p) raw.val = .faulted) :
    exec (.pedalFaultEntry p raw stamp) s = .next (chooseTx (pedalSampled p raw.val stamp s)) := by
  refine exec_pedalSampled (f := takePedalFaultEntry p raw stamp) (fun _ => rfl) ?_ h
  rw [takePedalFaultEntry, if_pos ((pedalSupervision_eq p raw s).trans ho), takePedalSample_eq]

/-- The step of the row of the 64th sample in the window is that sample's (R51). -/
theorem exec_pedalFaultRecovery {s : State} {p : Pedal} {raw : Raw} (stamp : W32) (h : s.Steady)
    (ho : pedalOutcome (s.pedals.get p) raw.val = .recovered) :
    exec (.pedalFaultRecovery p raw stamp) s = .next (chooseTx (pedalSampled p raw.val stamp s)) := by
  refine exec_pedalSampled (f := takePedalFaultRecovery p raw stamp) (fun _ => rfl) ?_ h
  rw [takePedalFaultRecovery, if_pos ((pedalSupervision_eq p raw s).trans ho), takePedalSample_eq]

/-- What entering FAULT forces takes back what was reported (R50). -/
def forcedEvent (p : Pedal) (r : PedalRecord) : Option EventKind :=
  match p with
  | .damper => if r.lastEmitted = 0 then none else some (.damper 0)
  | .soft => if r.lastEmitted = 0 then none else some (.soft 0)
  | .sostenuto => if r.sost then some .sostOff else none

theorem formedEvent_faulted {r : PedalRecord} (h : r.state = .active) {raw : Nat} (hj : r.judged raw = false)
    (st : PedalSettings) (p : Pedal) : formedEvent st p r raw = forcedEvent p r := by
  cases p <;> simp [formedEvent, h, hj, carries, forcedEvent]

/-- A pedal that enters FAULT (R50). -/
def faultedPedal (p : Pedal) (r : PedalRecord) (raw : Nat) : PedalRecord :=
  { r with
    state := .fault, outCount := 32, inCount := 0, window := joinWindow r.window raw, lastRaw := raw
    avg := windowMean (joinWindow r.window raw), depth := r.depthAt raw
    value := if p = .sostenuto then r.value else 0
    lastEmitted := if p = .sostenuto then r.lastEmitted else 0
    sost := if p = .sostenuto then false else r.sost }

theorem keptPedal_faulted_eq {r : PedalRecord} (h : r.state = .active) {raw : Nat} (hj : r.judged raw = false)
    (st : PedalSettings) (p : Pedal) : keptPedal st p r raw = faultedPedal p r raw := by
  rw [keptPedal_faulted h hj, stored_calibrated (by rw [h]; decide)]
  cases p <;> rfl

theorem pedalSampled_faulted {s : State} {p : Pedal} {raw : Nat} (hs : (s.pedals.get p).state = .active)
    (hj : (s.pedals.get p).judged raw = false) (stamp : W32) :
    pedalSampled p raw stamp s = raise (.pedalFault p false raw) (tell stamp (forcedEvent p (s.pedals.get p))
      ((catchUp stamp s).withPedals (s.pedals.put p (faultedPedal p (s.pedals.get p) raw)))) := by
  rw [pedalSampled, formedEvent_faulted hs hj, keptPedal_faulted_eq hs hj, pedalOutcome, if_pos ⟨hs, hj⟩]
  rfl

/-- A faulted pedal that recovers (R51). -/
def recoveredPedal (r : PedalRecord) (raw : Nat) : PedalRecord :=
  { r with
    state := .active, outCount := 0, inCount := 0, window := joinWindow r.window raw, lastRaw := raw
    avg := windowMean (joinWindow r.window raw), depth := r.depthAt raw }

theorem pedalSampled_recovered {s : State} {p : Pedal} {raw : Nat} (hs : (s.pedals.get p).state = .fault)
    (hin : (s.pedals.get p).inRange raw = true) (hc : (s.pedals.get p).inCount = 63) (stamp : W32) :
    pedalSampled p raw stamp s = raise (.pedalFault p true raw)
      ((catchUp stamp s).withPedals (s.pedals.put p (recoveredPedal (s.pedals.get p) raw))) := by
  have hformed : formedEvent s.pedals.settings p (s.pedals.get p) raw = none := by simp [formedEvent, hs]
  have ho : pedalOutcome (s.pedals.get p) raw = .recovered := by simp [pedalOutcome, hs, hin, hc]
  rw [pedalSampled, hformed, keptPedal_fault hs, if_pos hin, if_neg (by omega), ho,
    stored_calibrated (by rw [hs]; decide)]
  rfl

theorem chooseTx_raise_at {s u : State} (b : NoticeBody) (h : u.clock = s.clock) :
    chooseTx (raise b u) = { u with link := u.link.notify b s.clock.ms } := by
  rw [← h]
  rfl

/-- Settles O34: the rows are the samples at which supervision decides, and `pedalSampled` gives these whole. -/
theorem pedalFaultEntryAndRecovery : Obligations.PedalFaultEntryAndRecovery := by
  refine ⟨fun s p raw stamp h hs hcount hraw => ?_, fun s p raw h hs hcount hlo hhi => ?_,
    fun s p raw stamp h hs hcount hlo hhi => ?_⟩
  · have hj : (s.pedals.get p).judged raw.val = false := by
      simp only [PedalRecord.judged, PedalRecord.inRange, hcount, Bool.or_eq_false_iff, decide_eq_false_iff_not]
      omega
    have ho : pedalOutcome (s.pedals.get p) raw.val = .faulted := by simp [pedalOutcome, hs, hj]
    have hexec (stamp : W32) := exec_pedalFaultEntry stamp h ho
    simp only [pedalSampled_faulted hs hj] at hexec
    have hnow := hexec s.clock.us
    rw [catchUp_now] at hnow
    refine ⟨?_, ?_, ?_, fun hlast hsost => ⟨faultedPedal p (s.pedals.get p) raw.val, ?_⟩, fun kind hkind =>
      ⟨faultedPedal p (s.pedals.get p) raw.val, ?_⟩⟩
    · rw [exec_pedalFaultEntry stamp h ho, exec_pedalSample p raw stamp h]
    · have hframe := tell_frame stamp (forcedEvent p (s.pedals.get p))
        ((catchUp stamp s).withPedals (s.pedals.put p (faultedPedal p (s.pedals.get p) raw.val)))
      have hpedals (q : Pedal) := congrArg (fun u => PedalUnit.get u q) hframe.pedals
      have hget := (hpedals p).trans (PedalUnit.get_put_same _ _ _)
      refine ⟨_, hexec stamp, ?_⟩
      generalize tell stamp (forcedEvent p (s.pedals.get p))
        ((catchUp stamp s).withPedals (s.pedals.put p (faultedPedal p (s.pedals.get p) raw.val))) = u at hget hpedals
      show (u.pedals.get p).state = _ ∧ (_ → (u.pedals.get p).value = _ ∧ (u.pedals.get p).lastEmitted = _) ∧
        (_ → (u.pedals.get p).sost = _) ∧ (u.pedals.get p).outCount = _ ∧ (u.pedals.get p).inCount = _ ∧
        ∀ q, q ≠ p → u.pedals.get q = _
      rw [hget]
      exact ⟨rfl, fun hp => ⟨if_neg hp, if_neg hp⟩, fun hp => if_pos hp, rfl, rfl,
        fun q hq => (hpedals q).trans (PedalUnit.get_put_of_ne hq _ _)⟩
    · intro r w avg r' forced sampled told
      have htold : told = tell stamp (forcedEvent p r) sampled := by
        have hforced : forced = forcedEvent p r := by cases p <;> rfl
        clear_value forced
        subst hforced
        show (match forcedEvent p r with | none => _ | some kind => _) = _
        cases forcedEvent p r <;> rfl
      rw [htold]
      exact hexec stamp
    · have hforced : forcedEvent p (s.pedals.get p) = none := by cases p <;> simp [forcedEvent, hlast, hsost]
      rw [hnow, hforced]
      rfl
    · have hforced : forcedEvent p (s.pedals.get p) = some kind := by
        rcases hkind with ⟨rfl, hne, rfl⟩ | ⟨rfl, hne, rfl⟩ | ⟨rfl, hon, rfl⟩
        · exact if_neg hne
        · exact if_neg hne
        · exact if_pos hon
      rw [hnow, hforced]
      exact congrArg Host.Outcome.next (chooseTx_raise_at _ (routeEvent_frame ⟨.live, s.clock.us, kind⟩ _).clock)
  · have hin : (s.pedals.get p).inRange raw.val = true := decide_eq_true ⟨hlo, hhi⟩
    have ho : pedalOutcome (s.pedals.get p) raw.val = .recovered := by simp [pedalOutcome, hs, hin, hcount]
    refine ⟨recoveredPedal (s.pedals.get p) raw.val, rfl, rfl, rfl, rfl, rfl, rfl, ?_⟩
    rw [exec_pedalFaultRecovery s.clock.us h ho, pedalSampled_recovered hs hin hcount, catchUp_now]
    rfl
  · have hin : (s.pedals.get p).inRange raw.val = true := decide_eq_true ⟨hlo, hhi⟩
    have ho : pedalOutcome (s.pedals.get p) raw.val = .recovered := by simp [pedalOutcome, hs, hin, hcount]
    refine ⟨?_, ?_⟩
    · rw [exec_pedalFaultRecovery stamp h ho, exec_pedalSample p raw stamp h]
    · rw [exec_pedalFaultRecovery stamp h ho, pedalSampled_recovered hs hin hcount]
      rfl

/-! ### The commands -/

theorem pedalOf_eq_none {b : Byte} (h : 2 < b.toNat) : pedalOf b = none := by
  rw [pedalOf, if_neg (by omega), if_neg (by omega), if_neg (by omega)]

theorem pedalOf_isSome {b : Byte} {p : Pedal} (h : pedalOf b = some p) : b.toNat ≤ 2 := by
  by_contra hc
  rw [pedalOf_eq_none (by omega)] at h
  cases h

/-- Settles O35: the operands' checks and the fields of GET_PEDAL. -/
theorem pedalCommandsReplaceAndReport : Obligations.PedalCommandsReplaceAndReport := by
  refine ⟨fun s b rest full h => ⟨fun hbad => ?_, fun p hp h1 h2 h3 => ?_⟩, fun s a b c d e f w h => ?_,
    fun s b h => ⟨fun hbad => ?_, fun p hp => ?_⟩⟩
  · have hc : cmdLoadPedalCal b rest full s = answer 0x18#8 .badValue s := by
      unfold cmdLoadPedalCal
      split
      · rfl
      · next p hp =>
        have hb := pedalOf_isSome hp
        exact if_neg (by omega)
    exact exec_answer h rfl rfl hc rfl
  · have hc : cmdLoadPedalCal b rest full s = answer 0x18#8 .ok (s.withPedals (s.pedals.put p
        { s.pedals.get p with
          rest := rest.toNat, full := full.toNat, outCount := 0, inCount := 0, state := .active })) := by
      rw [cmdLoadPedalCal, hp]
      exact if_pos ⟨h1, h2, h3⟩
    exact exec_answer h rfl rfl hc rfl
  · split
    · next hok =>
      have hc : cmdSetPedal a b c d e f w s = answer 0x19#8 .ok (s.withPedals { s.pedals with
          settings := ⟨a.toNat, b.toNat, c.toNat, d.toNat, e.toNat, f.toNat, w.toNat⟩ }) := if_pos (by omega)
      exact exec_answer h rfl rfl hc rfl
    · next hbad =>
      have hc : cmdSetPedal a b c d e f w s = answer 0x19#8 .badValue s := if_neg (by omega)
      exact exec_answer h rfl rfl hc rfl
  · have hc : cmdGetPedal b s = answer 0x1A#8 .badValue s := by rw [cmdGetPedal, pedalOf_eq_none hbad]
    exact exec_answer h rfl rfl hc rfl
  · have hc : cmdGetPedal b s = answerData 0x1A#8
        (b8 (s.pedals.get p).state.code :: (b16 (s.pedals.get p).lastRaw ++ b16 (s.pedals.get p).avg ++
          b16 (s.pedals.get p).depth ++ b16 (s.pedals.get p).rest ++ b16 (s.pedals.get p).full ++
          [((s.pedals.get p).reported p).1, ((s.pedals.get p).reported p).2])) s := by
      rw [cmdGetPedal, hp]
    refine exec_answerData h rfl rfl hc ?_
    cases p <;> rfl

end Sys2Proof.Machine
end

section
/-! PROOFS. The Touch Unit (chapter 2): a strike's velocity, and the commands that replace its settings. -/

namespace Sys2Proof.Machine

open Sys2Proof.StepRows Sys2Proof.CurveLookup

/-! ### A strike -/

/-- The soft reduction of a velocity (R35). -/
def reducedBy (v c : Nat) : Nat := v - v * c / 65280

/-- With the soft value and the soft strength at most their greatest, a velocity loses at most half of it. -/
theorem le_twice_reducedBy {c : Nat} (hc : c ≤ 255 * 128) (v : Nat) : v ≤ 2 * reducedBy v c := by
  have h : v * c / 65280 ≤ v / 2 := by
    calc v * c / 65280 ≤ v * (255 * 128) / 65280 := Nat.div_le_div_right (Nat.mul_le_mul_left v hc)
      _ = v / 2 := by omega
  unfold reducedBy
  omega

/-- A reduction by at most half keeps the order of velocities. -/
theorem reducedBy_mono {c : Nat} (hc : c ≤ 255 * 128) {v w : Nat} (h : v ≤ w) : reducedBy v c ≤ reducedBy w c := by
  obtain ⟨n, rfl⟩ := Nat.exists_eq_add_of_le h
  have hstep : (v + n) * c / 65280 ≤ v * c / 65280 + n := by
    calc (v + n) * c / 65280 ≤ (v * c + n * 65280) / 65280 := by
          rw [Nat.add_mul]
          exact Nat.div_le_div_right (Nat.add_le_add_left (Nat.mul_le_mul_left n (by omega)) _)
      _ = v * c / 65280 + n := Nat.add_mul_div_right _ _ (by decide)
  unfold reducedBy
  omega

/-- The velocity before the soft reduction (R31 to R34). -/
def Touch.unreduced (t : Touch) (retracted : Bool) (key : Key) (origin : Origin) (dt : Nat) : Nat :=
  curveAt (t.curve retracted).toList (t.distance origin * 10000 / max dt 100 * t.gain.get key / 256)

theorem Touch.velocity_eq (t : Touch) (retracted : Bool) (q : Nat) (key : Key) (origin : Origin) (dt : Nat) :
    t.velocity retracted q key origin dt = max 1 (reducedBy (t.unreduced retracted key origin dt) (q * t.soft)) := by
  dsimp only [Touch.velocity, Touch.unreduced, reducedBy]
  rw [Nat.mul_assoc]

/-- Settles O29: the curve's bounds and order (`curveLookupInterpolates`), and those of the soft reduction. -/
theorem strikeVelocityBounds : Obligations.StrikeVelocityBounds := by
  refine fun t retracted q key origin => ⟨fun dt => ?_, fun t0 t1 => ?_, fun hq hsoft hopen hstopped => ?_⟩
  · intro distance speed curve v reduced
    have hmax (n : Nat) : max 1 n = if n = 0 then 1 else n := by split <;> omega
    have htime : max dt 100 = if dt < 100 then 100 else dt := by split <;> omega
    have hdistance : distance = t.distance origin := by cases origin <;> rfl
    show max 1 (curveAt (t.curve retracted).toList (t.distance origin * 10000 / max dt 100 * t.gain.get key / 256) -
      curveAt (t.curve retracted).toList (t.distance origin * 10000 / max dt 100 * t.gain.get key / 256) * q * t.soft /
        65280) = _
    rw [hmax, htime, ← hdistance]
    rfl
  · rw [Touch.strike]
    cases origin <;> rfl
  · have hc : q * t.soft ≤ 255 * 128 := Nat.mul_le_mul hq hsoft
    have hcurve : curveOk (t.curve retracted).toList = true := by
      cases retracted
      · exact hstopped
      · exact hopen
    obtain ⟨-, -, -, -, hbound, hmono⟩ := curveLookupInterpolates _ hcurve
    refine ⟨fun dt => ?_, fun d e hde => ?_⟩
    · have hv := hbound (t.distance origin * 10000 / max dt 100 * t.gain.get key / 256)
      rw [Touch.velocity_eq, Touch.velocity_eq]
      change 1 ≤ t.unreduced retracted key origin dt ∧ t.unreduced retracted key origin dt ≤ 127 at hv
      generalize t.unreduced retracted key origin dt = v at hv
      have hhalf := le_twice_reducedBy hc v
      have hless : reducedBy v (q * t.soft) ≤ v := Nat.sub_le _ _
      have hnone : reducedBy v (0 * t.soft) ≤ v := Nat.sub_le _ _
      omega
    · rw [Touch.velocity_eq, Touch.velocity_eq]
      have hspeed : t.distance origin * 10000 / max e 100 * t.gain.get key / 256 ≤
          t.distance origin * 10000 / max d 100 * t.gain.get key / 256 :=
        Nat.div_le_div_right (Nat.mul_le_mul_right _ (Nat.div_le_div_left (by omega) (by omega)))
      have hle := reducedBy_mono hc (hmono _ _ hspeed)
      unfold Touch.unreduced
      omega

/-! ### What the commands check -/

theorem touchOk_iff (lRel lS1 lRep lS2 h tSilent : Nat) : touchOk lRel lS1 lRep lS2 h tSilent = true ↔
    4 ≤ h ∧ h ≤ 64 ∧ lRel + h ≤ lS1 ∧ lS1 < lRep ∧ lRep < lS2 ∧ lS2 ≤ 1000 ∧ lRel + h < lRep ∧
      20000 ≤ tSilent ∧ tSilent ≤ 2000000 := by
  simp only [touchOk, Bool.and_eq_true, decide_eq_true_eq]
  omega

/-- A breakpoint in its ranges (R27). -/
def breakpointOk (p : Nat × Nat) : Prop := 1 ≤ p.1 ∧ p.1 ≤ 60000 ∧ 1 ≤ p.2 ∧ p.2 ≤ 127

theorem curveOk_iff_chain (l : List (Nat × Nat)) : curveOk l = true ↔
    (∀ p ∈ l, breakpointOk p) ∧ l.IsChain fun p q => p.1 < q.1 ∧ p.2 ≤ q.2 := by
  induction l with
  | nil => exact ⟨fun _ => ⟨fun p hp => absurd hp List.not_mem_nil, .nil⟩, fun _ => rfl⟩
  | cons p l ih =>
    cases l with
    | nil => simp [curveOk, breakpointOk]
    | cons q rest =>
      rw [curveOk_cons_cons, ih, List.isChain_cons_cons, List.forall_mem_cons (a := p)]
      exact ⟨fun ⟨hp, hpq, hall, hchain⟩ => ⟨⟨hp, hall⟩, hpq, hchain⟩,
        fun ⟨⟨hp, hall⟩, hpq, hchain⟩ => ⟨hp, hpq, hall, hchain⟩⟩

theorem curveOk_iff (c : Curve) : curveOk c.toList = true ↔
    (∀ i : Fin 12, 1 ≤ (c.get i).1 ∧ (c.get i).1 ≤ 60000 ∧ 1 ≤ (c.get i).2 ∧ (c.get i).2 ≤ 127) ∧
      ∀ i : Fin 11, (c.get i.castSucc).1 < (c.get i.succ).1 ∧ (c.get i.castSucc).2 ≤ (c.get i.succ).2 := by
  rw [curveOk_iff_chain, List.isChain_iff_getElem]
  refine and_congr ⟨fun h i => h _ (get_mem_toList c i), fun h p hp => ?_⟩ ⟨fun h i => ?_, fun h i hi => ?_⟩
  · obtain ⟨i, rfl⟩ := exists_get_of_mem_toList hp
    exact h i
  · exact h i.val (by rw [Vector.length_toList]; omega)
  · rw [Vector.length_toList] at hi
    exact h ⟨i, by omega⟩

/-! ### What the commands replace -/

theorem foldl_set_get {α : Type} {n : Nat} (x : α) (l : List (Fin n)) (g : Vector α n) (j : Fin n) :
    (l.foldl (fun g k => g.set k.val x k.isLt) g).get j = if j ∈ l then x else g.get j := by
  induction l generalizing g with
  | nil => rfl
  | cons k l ih =>
    rw [List.foldl_cons, ih, Vector.get_eq_getElem, Vector.getElem_set]
    by_cases hj : j ∈ l
    · rw [if_pos hj, if_pos (List.mem_cons_of_mem k hj)]
    · by_cases hk : k = j
      · subst hk
        rw [if_neg hj, if_pos rfl, if_pos List.mem_cons_self]
      · rw [if_neg hj, if_neg fun h => hk (Fin.ext h), if_neg fun h => (List.mem_cons.1 h).elim (fun h => hk h.symm) hj]
        rfl

theorem mem_keysIn {lo hi : Nat} {k : Key} : k ∈ keysIn lo hi ↔ lo ≤ k.val ∧ k.val ≤ hi := by
  simp [keysIn]

theorem vgetD_get {α : Type} {n : Nat} (v : Vector α n) (i : Fin n) (d : α) : vgetD v i.val d = v.get i := by
  rw [vgetD, List.getD_eq_getElem?_getD, List.getElem?_eq_getElem (by rw [Vector.length_toList]; exact i.isLt)]
  rfl

theorem curveOf_get (speeds : Vector W16 12) (vs : Vector Byte 12) (i : Fin 12) :
    (curveOf speeds vs).get i = ((speeds.get i).toNat, (vs.get i).toNat) := by
  have h : (curveOf speeds vs).get i = ((vgetD speeds i.val 0).toNat, (vgetD vs i.val 0).toNat) := by
    simp [curveOf, vgen, Vector.get_eq_getElem]
  rw [h, vgetD_get, vgetD_get]

/-- A change of the keyboard-clear condition reaches the rail and the notices alone. -/
theorem noteKeyboard_rest (was : Bool) (s : State) :
    (((noteKeyboard was s).withRail s.rail).withLink s.link) = s := by
  unfold noteKeyboard railKeyboard
  dsimp only
  repeat' split
  all_goals rfl

/-- Settles O31: the conditions of the checks, and the step of each command. -/
theorem touchCommandsReplaceSettings : Obligations.TouchCommandsReplaceSettings := by
  refine ⟨touchOk_iff, curveOk_iff, fun s lRel lS1 lRep lS2 h tSilent hr => ?_, fun s lo hi g hr => ?_,
    fun s set speeds vs hr => ?_, fun s a hr => ?_⟩
  · intro admitted
    have hiff : touchOk lRel.toNat lS1.toNat lRep.toNat lS2.toNat h.toNat tSilent.toNat = true ↔ admitted :=
      touchOk_iff _ _ _ _ _ _
    refine ⟨fun hbad => ?_, fun hok => ?_⟩
    · have hc : cmdSetTouch lRel lS1 lRep lS2 h tSilent s = answer 0x13#8 .badValue s :=
        if_neg fun ht => hbad (hiff.1 ht)
      exact exec_answer hr rfl rfl hc rfl
    · let u := s.withTouch { s.touch with
        lRel := lRel.toNat, lS1 := lS1.toNat, lRep := lRep.toNat, lS2 := lS2.toNat, h := h.toNat
        tSilent := tSilent.toNat }
      have hc : cmdSetTouch lRel lS1 lRep lS2 h tSilent s = answer 0x13#8 .ok (noteKeyboard (keyboardClear s) u) :=
        if_pos (hiff.2 hok)
      have hrest := noteKeyboard_rest (keyboardClear s) u
      obtain ⟨t, ht⟩ : ∃ t, t = (noteKeyboard (keyboardClear s) u).withLink
        ((noteKeyboard (keyboardClear s) u).link.reply 0x13#8 .ok []) := ⟨_, rfl⟩
      have htouch : t.touch = u.touch := by
        rw [ht]
        exact (congrArg State.touch hrest :)
      refine ⟨t, exec_answer hr rfl rfl hc ht.symm, ?_, htouch, ?_, ?_⟩
      · rw [ht]
        exact Link.reply_answered ..
      · intro moved
        have hmoved : moved = noteKeyboard (keyboardClear s) u :=
          congrArg (fun x => noteKeyboard (keyboardClear s) { s with touch := x }) htouch
        rw [hmoved]
        exact ht
      · rw [ht]
        exact congrArg (fun v => v.withTouch s.touch) hrest
  · split
    · next hok =>
      have hc : cmdSetKeyGain lo hi g s = answer 0x14#8 .ok (s.withTouch { s.touch with
          gain := (keysIn lo.toNat hi.toNat).foldl (fun v k => v.set k.val g.toNat k.isLt) s.touch.gain }) :=
        if_pos ⟨rangeOk_iff.2 ⟨hok.1, hok.2.1⟩, hok.2.2.1, hok.2.2.2⟩
      refine ⟨_, exec_answer hr rfl rfl hc rfl, fun k => ?_, rfl⟩
      show Vector.get ((keysIn lo.toNat hi.toNat).foldl (fun v k => v.set k.val g.toNat k.isLt) s.touch.gain) k = _
      rw [foldl_set_get]
      simp only [mem_keysIn]
    · next hbad =>
      have hc : cmdSetKeyGain lo hi g s = answer 0x14#8 .badValue s := by
        refine if_neg fun hok => hbad ?_
        obtain ⟨h1, h2⟩ := rangeOk_iff.1 hok.1
        exact ⟨h1, h2, hok.2⟩
      exact ⟨_, exec_answer hr rfl rfl hc rfl, rfl⟩
  · intro admitted
    have hiff : curveOk (curveOf speeds vs).toList = true ↔ admitted := by
      rw [curveOk_iff]
      simp only [curveOf_get]
      rfl
    obtain ⟨u, hu, hbad, hopen, hstopped⟩ : ∃ u, exec (.setCurve set speeds vs) s = .next u ∧
        ((¬admitted ∨ 1 < set.toNat) → u = { s with link := s.link.reply 0x16#8 .badValue [] }) ∧
        (admitted → set = 0#8 → u = { s with
          touch := { s.touch with openCurve := curveOf speeds vs }, link := s.link.reply 0x16#8 .ok [] }) ∧
        (admitted → set = 1#8 → u = { s with
          touch := { s.touch with stoppedCurve := curveOf speeds vs }, link := s.link.reply 0x16#8 .ok [] }) := by
      by_cases hok : admitted
      · have hcurve := hiff.2 hok
        rcases (by omega : set.toNat = 0 ∨ set.toNat = 1 ∨ 1 < set.toNat) with hs | hs | hs
        · obtain rfl : set = 0#8 := BitVec.eq_of_toNat_eq hs
          exact ⟨_, exec_answer hr rfl rfl (if_pos hcurve) rfl, fun h => absurd hok (h.resolve_right (by decide)),
            fun _ _ => rfl, fun _ h => absurd h (by decide)⟩
        · obtain rfl : set = 1#8 := BitVec.eq_of_toNat_eq hs
          exact ⟨_, exec_answer hr rfl rfl (if_pos hcurve) rfl, fun h => absurd hok (h.resolve_right (by decide)),
            fun _ h => absurd h (by decide), fun _ _ => rfl⟩
        · have hc : cmdSetCurve set speeds vs s = answer 0x16#8 .badValue s := by
            unfold cmdSetCurve
            dsimp only
            rw [if_pos hcurve]
            split
            · next h0 => omega
            · next h1 => omega
            · rfl
          refine ⟨_, exec_answer hr rfl rfl hc rfl, fun _ => rfl, fun _ h => ?_, fun _ h => ?_⟩
          · rw [h] at hs
            exact absurd hs (by decide)
          · rw [h] at hs
            exact absurd hs (by decide)
      · have hc : cmdSetCurve set speeds vs s = answer 0x16#8 .badValue s := if_neg fun h => hok (hiff.1 h)
        exact ⟨_, exec_answer hr rfl rfl hc rfl, fun _ => rfl, fun h => absurd h hok, fun h => absurd h hok⟩
    exact ⟨u, curveOf speeds vs, hu, curveOf_get speeds vs, hbad, hopen, hstopped⟩
  · split
    · next hok =>
      have hc : cmdSetSoft a s = answer 0x17#8 .ok (s.withTouch { s.touch with soft := a.toNat }) := if_pos hok
      exact exec_answer hr rfl rfl hc rfl
    · next hbad =>
      have hc : cmdSetSoft a s = answer 0x17#8 .badValue s := if_neg hbad
      exact exec_answer hr rfl rfl hc rfl

end Sys2Proof.Machine
end

section
/-! PROOFS. The Key Scanner (chapter 1): a key sample, and the fault rows. -/

namespace Sys2Proof.Machine

open Sys2Proof.StepRows

/-! ### The judgement of a sample (R10 to R14) -/

/-- The state a judged sample of a depth leaves a key in (R10 to R14). -/
def KeyRecord.settles (t : Touch) (k : KeyRecord) (d : Nat) : KeyState :=
  match k.state with
  | .arming => if d < t.lRel then .rest else .arming
  | .rest => if t.lS2 ≤ d then .struck else if t.lS1 ≤ d then .descent else .rest
  | .descent => if t.lS2 ≤ d then .struck else if d + t.h < t.lS1 then .rest else .descent
  | .struck => if d < t.lRel then .rest else if d + t.h < t.lRep then .rearmed else .struck
  | .rearmed =>
    if d < t.lRel then .rest else if t.lS2 ≤ d then .struck else if t.lRep ≤ d then .repDescent else .rearmed
  | .repDescent =>
    if d < t.lRel then .rest else if t.lS2 ≤ d then .struck else if d + t.h < t.lRep then .rearmed else .repDescent
  | .offline => .offline
  | .capture => .capture
  | .fault => .fault

/-- The start of the stroke after a judged sample (R11, R13). -/
def KeyRecord.strokeStart (t : Touch) (k : KeyRecord) (d : Nat) (stamp : W32) : W32 :=
  if k.state = .rest ∧ t.lS1 ≤ d then crossing t.lS1 k d stamp
  else if k.state = .rearmed ∧ t.lRep ≤ d then crossing t.lRep k d stamp
  else k.tStart

/-- The origin of the stroke after a judged sample (R11, R13). -/
def KeyRecord.strokeOrigin (t : Touch) (k : KeyRecord) (d : Nat) : Origin :=
  if k.state = .rest ∧ t.lS1 ≤ d then .first else if k.state = .rearmed ∧ t.lRep ≤ d then .rep else k.origin

/-- What a judged sample forms (R11 to R13). -/
def KeyRecord.forms (t : Touch) (k : KeyRecord) (d : Nat) (stamp : W32) : Option KeyAct :=
  match k.state with
  | .rest => if t.lS2 ≤ d then some (.strike (crossing t.lS1 k d stamp) (crossing t.lS2 k d stamp) .first) else none
  | .descent => if t.lS2 ≤ d then some (.strike k.tStart (crossing t.lS2 k d stamp) k.origin) else none
  | .struck => if d < t.lRel then some (.release false) else none
  | .rearmed =>
    if d < t.lRel then some (.release false)
    else if t.lS2 ≤ d then some (.strike (crossing t.lRep k d stamp) (crossing t.lS2 k d stamp) .rep)
    else none
  | .repDescent =>
    if d < t.lRel then some (.release false)
    else if t.lS2 ≤ d then some (.strike k.tStart (crossing t.lS2 k d stamp) k.origin)
    else none
  | .offline | .arming | .capture | .fault => none

/-- The thresholds' order (R24). -/
structure Touch.Ordered (t : Touch) : Prop where
  rel : t.lRel + t.h ≤ t.lS1
  start : t.lS1 < t.lRep
  rep : t.lRep < t.lS2
  apart : t.lRel + t.h < t.lRep

theorem Touch.Ordered.of_touchOk {t : Touch} (h : touchOk t.lRel t.lS1 t.lRep t.lS2 t.h t.tSilent = true) :
    t.Ordered := by
  obtain ⟨-, -, h1, h2, h3, -, h4, -, -⟩ := (touchOk_iff ..).1 h
  exact ⟨h1, h2, h3, h4⟩

/-- Judged twice, a sample leaves no condition met: a key moves twice only from REST to STRUCK and from REARMED to
STRUCK (R14). -/
theorem judgeKey_two {t : Touch} (h : t.Ordered) (k : KeyRecord) (d : Nat) (stamp : W32) :
    judgeKey t d stamp 2 k =
      ({ k with state := k.settles t d, tStart := k.strokeStart t d stamp, origin := k.strokeOrigin t d },
        (k.forms t d stamp).toList) := by
  obtain ⟨h1, h2, h3, h4⟩ := h
  obtain ⟨state, rest, bottom, calibrated, lastRaw, lastDepth, lastStamp, tStart, origin, outCount, inCount, capMin, capMax⟩ := k
  unfold KeyRecord.settles KeyRecord.strokeStart KeyRecord.strokeOrigin KeyRecord.forms
  cases state with
  | offline => rfl
  | capture => rfl
  | fault => rfl
  | arming =>
    by_cases hd : d < t.lRel
    · have hs : ¬t.lS1 ≤ d := by omega
      simp [judgeKey, keyTransition, hd, hs]
    · simp [judgeKey, keyTransition, hd]
  | rest =>
    by_cases hs : t.lS1 ≤ d
    · have hback : ¬d + t.h < t.lS1 := by omega
      by_cases hd : t.lS2 ≤ d
      · simp [judgeKey, keyTransition, crossing, hs, hd]
      · simp [judgeKey, keyTransition, hs, hd, hback]
    · have hd : ¬t.lS2 ≤ d := by omega
      simp [judgeKey, keyTransition, hs, hd]
  | descent =>
    by_cases hd : t.lS2 ≤ d
    · have hup : ¬d < t.lRel := by omega
      have harmed : ¬d + t.h < t.lRep := by omega
      simp [judgeKey, keyTransition, hd, hup, harmed]
    · by_cases hback : d + t.h < t.lS1
      · have hs : ¬t.lS1 ≤ d := by omega
        simp [judgeKey, keyTransition, hd, hback, hs]
      · simp [judgeKey, keyTransition, hd, hback]
  | struck =>
    by_cases hup : d < t.lRel
    · have hs : ¬t.lS1 ≤ d := by omega
      simp [judgeKey, keyTransition, hup, hs]
    · by_cases harmed : d + t.h < t.lRep
      · have hr : ¬t.lRep ≤ d := by omega
        simp [judgeKey, keyTransition, hup, harmed, hr]
      · simp [judgeKey, keyTransition, hup, harmed]
  | rearmed =>
    by_cases hup : d < t.lRel
    · have hs : ¬t.lS1 ≤ d := by omega
      have hr : ¬t.lRep ≤ d := by omega
      simp [judgeKey, keyTransition, hup, hs, hr]
    · by_cases hr : t.lRep ≤ d
      · have harmed : ¬d + t.h < t.lRep := by omega
        by_cases hd : t.lS2 ≤ d
        · simp [judgeKey, keyTransition, crossing, hup, hr, hd]
        · simp [judgeKey, keyTransition, hup, hr, hd, harmed]
      · have hd : ¬t.lS2 ≤ d := by omega
        simp [judgeKey, keyTransition, hup, hr, hd]
  | repDescent =>
    by_cases hup : d < t.lRel
    · have hs : ¬t.lS1 ≤ d := by omega
      simp [judgeKey, keyTransition, hup, hs]
    · by_cases hd : t.lS2 ≤ d
      · have harmed : ¬d + t.h < t.lRep := by omega
        simp [judgeKey, keyTransition, hup, hd, harmed]
      · by_cases harmed : d + t.h < t.lRep
        · have hr : ¬t.lRep ≤ d := by omega
          simp [judgeKey, keyTransition, hup, hd, harmed, hr]
        · simp [judgeKey, keyTransition, hup, hd, harmed]

/-! ### One sample at a key record (R2, R19, R20) -/

/-- The record with a sample's raw value, depth and stamp (R2). -/
def KeyRecord.sampled (k : KeyRecord) (raw : Nat) (stamp : W32) : KeyRecord :=
  { k with lastRaw := raw, lastDepth := k.depthOf raw, lastStamp := stamp }

/-- A sample is judged in play: in the window, or out of it with a count below 31 (R19). -/
def KeyRecord.judged (k : KeyRecord) (raw : Nat) : Bool := k.inRange raw || decide (k.outCount < 31)

/-- The record after a sample. -/
def keptKey (t : Touch) (k : KeyRecord) (raw : Nat) (stamp : W32) : KeyRecord :=
  let d := k.depthOf raw
  if k.inPlay then
    if k.judged raw then
      { k.sampled raw stamp with
        outCount := if k.inRange raw then 0 else k.outCount + 1
        state := k.settles t d, tStart := k.strokeStart t d stamp, origin := k.strokeOrigin t d }
    else { k.sampled raw stamp with state := .fault, outCount := 32, inCount := 0 }
  else if k.state = .fault then
    if k.inRange raw then
      if k.inCount < 63 then { k.sampled raw stamp with inCount := k.inCount + 1 }
      else { k.sampled raw stamp with state := .arming, outCount := 0, inCount := 0 }
    else { k.sampled raw stamp with inCount := 0 }
  else if k.state = .capture then
    { k.sampled raw stamp with capMin := min k.capMin raw, capMax := max k.capMax raw }
  else k.sampled raw stamp

/-- What a sample forms. -/
def keyForms (t : Touch) (k : KeyRecord) (raw : Nat) (stamp : W32) : Option KeyAct :=
  if k.judged raw then k.forms t (k.depthOf raw) stamp else if k.isDown then some (.release true) else none

/-- What fault supervision makes of a sample. -/
def keyOutcome (k : KeyRecord) (raw : Nat) : Supervision :=
  if k.inPlay = true ∧ k.judged raw = false then .faulted
  else if k.state = .fault ∧ k.inRange raw = true ∧ 63 ≤ k.inCount then .recovered
  else .none

theorem superviseKey_judged {k : KeyRecord} (hp : k.inPlay = true) {raw : Nat} (hj : k.judged raw = true) :
    superviseKey k raw = ({ k with outCount := if k.inRange raw then 0 else k.outCount + 1 }, .none) := by
  have hj : k.inRange raw = true ∨ k.outCount < 31 := by simpa [KeyRecord.judged] using hj
  unfold superviseKey
  rw [if_pos hp]
  split
  · rfl
  · next hout =>
    have hcount := hj.resolve_left hout
    rw [if_neg (by omega)]

theorem superviseKey_faulted {k : KeyRecord} (hp : k.inPlay = true) {raw : Nat} (hj : k.judged raw = false) :
    superviseKey k raw = ({ k with state := .fault, outCount := 32, inCount := 0 }, .faulted) := by
  obtain ⟨hout, hcount⟩ : k.inRange raw = false ∧ 31 ≤ k.outCount := by simpa [KeyRecord.judged] using hj
  unfold superviseKey
  rw [if_pos hp, if_neg (ne_true_of_eq_false hout), if_pos (by omega)]

theorem inPlay_of_state {k : KeyRecord} (h : k.state = .fault ∨ k.state = .capture ∨ k.state = .offline) :
    k.inPlay = false := by
  unfold KeyRecord.inPlay
  rcases h with h | h | h <;> rw [h]

theorem captureKey_of_ne {k : KeyRecord} (h : k.state ≠ .capture) (raw : Nat) : captureKey k raw = k := if_neg h

theorem state_cases (k : KeyRecord) :
    k.inPlay = true ∨ k.state = .fault ∨ k.state = .capture ∨ k.state = .offline := by
  unfold KeyRecord.inPlay
  cases k.state <;> simp

theorem ne_capture_of_inPlay {k : KeyRecord} (h : k.inPlay = true) : k.state ≠ .capture := fun hs => by
  rw [inPlay_of_state (.inr (.inl hs))] at h
  cases h

theorem ne_fault_of_inPlay {k : KeyRecord} (h : k.inPlay = true) : k.state ≠ .fault := fun hs => by
  rw [inPlay_of_state (.inl hs)] at h
  cases h

theorem forms_of_not_inPlay {k : KeyRecord} (h : k.inPlay = false) (t : Touch) (raw : Nat) (stamp : W32) :
    keyForms t k raw stamp = none := by
  unfold keyForms KeyRecord.forms KeyRecord.isDown
  unfold KeyRecord.inPlay at h
  cases hs : k.state <;> simp_all

theorem sampleKey_of {k x : KeyRecord} {sup : Supervision} {raw : Nat} (h : superviseKey k raw = (x, sup))
    (hd : x.depthOf raw = k.depthOf raw) (t : Touch) (stamp : W32) : sampleKey t k raw stamp =
      let y := judgeSample t k (captureKey x raw) sup (k.depthOf raw) stamp
      ({ y.1 with lastRaw := raw, lastDepth := k.depthOf raw, lastStamp := stamp }, y.2, sup) := by
  dsimp only [sampleKey]
  rw [h]
  dsimp only
  rw [hd]

section
variable {k : KeyRecord} (t : Touch) {raw : Nat} (stamp : W32)

theorem keptKey_judged (hp : k.inPlay = true) (hj : k.judged raw = true) : keptKey t k raw stamp =
    { k.sampled raw stamp with
      outCount := if k.inRange raw then 0 else k.outCount + 1, state := k.settles t (k.depthOf raw)
      tStart := k.strokeStart t (k.depthOf raw) stamp, origin := k.strokeOrigin t (k.depthOf raw) } := by
  dsimp only [keptKey]
  rw [if_pos hp, if_pos hj]

theorem keptKey_faulted (hp : k.inPlay = true) (hj : k.judged raw = false) : keptKey t k raw stamp =
    { k.sampled raw stamp with state := .fault, outCount := 32, inCount := 0 } := by
  dsimp only [keptKey]
  rw [if_pos hp, if_neg (ne_true_of_eq_false hj)]

theorem keptKey_fault (hs : k.state = .fault) (raw : Nat) : keptKey t k raw stamp =
    if k.inRange raw then
      if k.inCount < 63 then { k.sampled raw stamp with inCount := k.inCount + 1 }
      else { k.sampled raw stamp with state := .arming, outCount := 0, inCount := 0 }
    else { k.sampled raw stamp with inCount := 0 } := by
  dsimp only [keptKey]
  rw [if_neg (ne_true_of_eq_false (inPlay_of_state (.inl hs))), if_pos hs]

theorem keptKey_capture (hs : k.state = .capture) (raw : Nat) : keptKey t k raw stamp =
    { k.sampled raw stamp with capMin := min k.capMin raw, capMax := max k.capMax raw } := by
  dsimp only [keptKey]
  rw [if_neg (ne_true_of_eq_false (inPlay_of_state (.inr (.inl hs)))), if_neg (by rw [hs]; decide), if_pos hs]

theorem keptKey_offline (hs : k.state = .offline) (raw : Nat) : keptKey t k raw stamp = k.sampled raw stamp := by
  dsimp only [keptKey]
  rw [if_neg (ne_true_of_eq_false (inPlay_of_state (.inr (.inr hs)))), if_neg (by rw [hs]; decide),
    if_neg (by rw [hs]; decide)]

end

theorem keyOutcome_judged {k : KeyRecord} (hp : k.inPlay = true) {raw : Nat} (hj : k.judged raw = true) :
    keyOutcome k raw = .none := by
  simp [keyOutcome, hj, ne_fault_of_inPlay hp]

theorem keyOutcome_faulted {k : KeyRecord} (hp : k.inPlay = true) {raw : Nat} (hj : k.judged raw = false) :
    keyOutcome k raw = .faulted := if_pos ⟨hp, hj⟩

theorem keyOutcome_recovered {k : KeyRecord} (hs : k.state = .fault) {raw : Nat} (hin : k.inRange raw = true)
    (hc : ¬k.inCount < 63) : keyOutcome k raw = .recovered := by
  rw [keyOutcome, if_neg fun h => ne_fault_of_inPlay h.1 hs, if_pos ⟨hs, hin, by omega⟩]

theorem keyOutcome_none {k : KeyRecord} (hp : k.inPlay = false) {raw : Nat}
    (h : k.state = .fault → k.inRange raw = true → k.inCount < 63) : keyOutcome k raw = .none := by
  rw [keyOutcome, if_neg (by simp [hp]), if_neg fun ⟨h1, h2, h3⟩ => by have := h h1 h2; omega]

theorem sampleKey_judged {t : Touch} (ht : t.Ordered) {k : KeyRecord} (hp : k.inPlay = true) {raw : Nat}
    (hj : k.judged raw = true) (stamp : W32) :
    sampleKey t k raw stamp = (keptKey t k raw stamp, (keyForms t k raw stamp).toList, .none) := by
  rw [sampleKey_of (superviseKey_judged hp hj) rfl, captureKey_of_ne, keptKey_judged t stamp hp hj, keyForms, if_pos hj]
  · dsimp only [judgeSample]
    rw [if_pos, judgeKey_two ht]
    · rfl
    · exact hp
  · exact ne_capture_of_inPlay hp

theorem sampleKey_faulted {k : KeyRecord} (hp : k.inPlay = true) {raw : Nat} (hj : k.judged raw = false) (t : Touch)
    (stamp : W32) : sampleKey t k raw stamp = (keptKey t k raw stamp, (keyForms t k raw stamp).toList, .faulted) := by
  rw [sampleKey_of (superviseKey_faulted hp hj) rfl, captureKey_of_ne, keptKey_faulted t stamp hp hj, keyForms,
    if_neg (ne_true_of_eq_false hj)]
  · dsimp only [judgeSample]
    cases k.isDown <;> rfl
  · exact (nofun : KeyState.fault ≠ .capture)

/-- A sample of a key in FAULT, CAPTURE or OFFLINE forms nothing (R2). -/
theorem sampleKey_idle {k x : KeyRecord} {sup : Supervision} {raw : Nat} (h : superviseKey k raw = (x, sup))
    (hd : x.depthOf raw = k.depthOf raw) (hp : k.inPlay = false) (hx : sup = .none ∧ (captureKey x raw).inPlay = false ∨ sup = .recovered)
    (t : Touch) (stamp : W32) : sampleKey t k raw stamp =
      ({ captureKey x raw with lastRaw := raw, lastDepth := k.depthOf raw, lastStamp := stamp },
        (keyForms t k raw stamp).toList, sup) := by
  rw [sampleKey_of h hd, forms_of_not_inPlay hp]
  rcases hx with ⟨rfl, hx⟩ | rfl
  · dsimp only [judgeSample]
    rw [if_neg (ne_true_of_eq_false hx)]
    rfl
  · rfl

theorem superviseKey_fault {k : KeyRecord} (hs : k.state = .fault) (raw : Nat) : superviseKey k raw =
    if k.inRange raw then
      if k.inCount < 63 then ({ k with inCount := k.inCount + 1 }, .none)
      else ({ k with state := .arming, outCount := 0, inCount := 0 }, .recovered)
    else ({ k with inCount := 0 }, .none) := by
  unfold superviseKey
  rw [if_neg (ne_true_of_eq_false (inPlay_of_state (.inl hs))), if_pos hs]
  split
  · split
    · next hlast => rw [if_neg (by omega)]
    · next hlast => rw [if_pos (by omega)]
  · rfl

/-- A sample of a key in FAULT (R20). -/
theorem sampleKey_fault {k : KeyRecord} (hs : k.state = .fault) (raw : Nat) (t : Touch) (stamp : W32) :
    sampleKey t k raw stamp = (keptKey t k raw stamp, (keyForms t k raw stamp).toList, keyOutcome k raw) := by
  have hp : k.inPlay = false := inPlay_of_state (.inl hs)
  have hcap : k.state ≠ .capture := by rw [hs]; decide
  have hsup := superviseKey_fault hs raw
  have hidle {x : KeyRecord} (hx : x.state = k.state) : (captureKey x raw).inPlay = false := by
    rw [captureKey_of_ne (hx ▸ hcap)]
    exact inPlay_of_state (.inl (hx.trans hs))
  rw [keptKey_fault t stamp hs]
  by_cases hin : k.inRange raw = true
  · rw [if_pos hin] at hsup ⊢
    by_cases hc : k.inCount < 63
    · rw [if_pos hc] at hsup ⊢
      rw [sampleKey_idle hsup rfl hp (.inl ⟨rfl, hidle rfl⟩), keyOutcome_none hp fun _ _ => hc, captureKey_of_ne]
      · rfl
      · exact hcap
    · rw [if_neg hc] at hsup ⊢
      rw [sampleKey_idle hsup rfl hp (.inr rfl), keyOutcome_recovered hs hin hc, captureKey_of_ne]
      · rfl
      · exact (nofun : KeyState.arming ≠ .capture)
  · rw [if_neg hin] at hsup ⊢
    rw [sampleKey_idle hsup rfl hp (.inl ⟨rfl, hidle rfl⟩), keyOutcome_none hp fun _ h => absurd h hin, captureKey_of_ne]
    · rfl
    · exact hcap

theorem superviseKey_rest {k : KeyRecord} (hp : k.inPlay = false) (hs : k.state ≠ .fault) (raw : Nat) :
    superviseKey k raw = (k, .none) := by
  unfold superviseKey
  rw [if_neg (ne_true_of_eq_false hp), if_neg hs]

/-- One sample at a key record, in every state of it. -/
theorem sampleKey_eq {t : Touch} (ht : t.Ordered) (k : KeyRecord) (raw : Nat) (stamp : W32) :
    sampleKey t k raw stamp = (keptKey t k raw stamp, (keyForms t k raw stamp).toList, keyOutcome k raw) := by
  rcases state_cases k with hp | hs | hs | hs
  · cases hj : k.judged raw with
    | true => rw [sampleKey_judged ht hp hj, keyOutcome_judged hp hj]
    | false => rw [sampleKey_faulted hp hj, keyOutcome_faulted hp hj]
  · exact sampleKey_fault hs raw t stamp
  · have hp : k.inPlay = false := inPlay_of_state (.inr (.inl hs))
    have hne : k.state ≠ .fault := by rw [hs]; decide
    have hcap : captureKey k raw = { k with capMin := min k.capMin raw, capMax := max k.capMax raw } := if_pos hs
    rw [sampleKey_idle (superviseKey_rest hp hne raw) rfl hp (.inl ⟨rfl, by rw [hcap]; exact hp⟩), keptKey_capture t stamp hs,
      keyOutcome_none hp fun h => absurd h hne, hcap]
    rfl
  · have hp : k.inPlay = false := inPlay_of_state (.inr (.inr hs))
    have hne : k.state ≠ .fault := by rw [hs]; decide
    have hcap : captureKey k raw = k := captureKey_of_ne (by rw [hs]; decide) raw
    rw [sampleKey_idle (superviseKey_rest hp hne raw) rfl hp (.inl ⟨rfl, by rw [hcap]; exact hp⟩), keptKey_offline t stamp hs,
      keyOutcome_none hp fun h => absurd h hne, hcap]
    rfl

/-! ### The step of a sample -/

/-- The event of what a key's sample formed (R16, R17, R30). -/
def KeyAct.event (key : Key) (s : State) : KeyAct → EventKind
  | .strike tStart tStrike origin =>
    s.touch.strike s.rail.physicallyRetracted s.pedals.soft.value key tStart tStrike origin
  | .release fault => .noteOff key fault

theorem keyEvent_eq (key : Key) (stamp : W32) (a : KeyAct) (s : State) :
    keyEvent key stamp a s = routeEvent ⟨.live, stamp, a.event key s⟩ s := by
  cases a <;> rfl

/-- The event a sample forms, read at the part as the sample finds it. -/
def keyTold (key : Key) (raw : Nat) (stamp : W32) (s : State) : Option EventKind :=
  (keyForms s.touch (s.keys.get key) raw stamp).map (KeyAct.event key s)

theorem keyFoldl_eq (key : Key) (stamp : W32) (o : Option KeyAct) (s : State) :
    o.toList.foldl (fun s a => keyEvent key stamp a s) s = tell stamp (o.map (KeyAct.event key s)) s := by
  cases o with
  | none => rfl
  | some a => exact keyEvent_eq key stamp a s

/-- A key sample: the record, the event, KEY_FAULT, the keyboard-clear condition at the rail. -/
def keySampled (key : Key) (raw : Nat) (stamp : W32) (s : State) : State :=
  noteKeyboard (keyboardClear s) (keyFaultNotice key raw (keyOutcome (s.keys.get key) raw)
    (tell stamp (keyTold key raw stamp s)
      ((catchUp stamp s).withKey key (keptKey s.touch (s.keys.get key) raw stamp))))

theorem advance_physicallyRetracted (n : Nat) (s : State) :
    (advance n s).rail.physicallyRetracted = s.rail.physicallyRetracted := by
  rw [advance_eq]
  rfl

theorem keyboardClear_of_eq {s t : State} (hk : t.keys = s.keys) (ht : t.touch = s.touch) :
    keyboardClear t = keyboardClear s := by
  unfold keyboardClear
  rw [hk, ht]

/-- What a sample makes of the key's record is what `keptKey`, `keyForms` and `keyOutcome` say. -/
def SampleIs (s : State) (key : Key) (raw : Nat) (stamp : W32) : Prop :=
  sampleKey s.touch (s.keys.get key) raw stamp =
    (keptKey s.touch (s.keys.get key) raw stamp, (keyForms s.touch (s.keys.get key) raw stamp).toList,
      keyOutcome (s.keys.get key) raw)

theorem takeKeySample_spec {s : State} {key : Key} {raw : Raw} {stamp : W32} (hx : SampleIs s key raw.val stamp) :
    takeKeySample key raw stamp s = keySampled key raw.val stamp s := by
  have hframe := catchUp_frame stamp s
  have hretracted : (catchUp stamp s).rail.physicallyRetracted = s.rail.physicallyRetracted :=
    catchUp_keeps (P := fun t => t.rail.physicallyRetracted = s.rail.physicallyRetracted)
      (fun n t h => (advance_physicallyRetracted n t).trans h) stamp s rfl
  have hevent (x : KeyRecord) : KeyAct.event key ((catchUp stamp s).withKey key x) = KeyAct.event key s := by
    funext a
    cases a with
    | strike a b o =>
      show (catchUp stamp s).touch.strike (catchUp stamp s).rail.physicallyRetracted (catchUp stamp s).pedals.soft.value
        key a b o = _
      rw [hframe.touch, hframe.pedals, hretracted]
      rfl
    | release f => rfl
  rw [takeKeySample_eq]
  dsimp only
  rw [keyboardClear_of_eq hframe.keys hframe.touch, hframe.touch, hframe.keys, hx, keyFoldl_eq, hevent]
  rfl

/-- The part before the rail learns of a sample. -/
theorem keyTold_frame (key : Key) (raw : Nat) (stamp : W32) (x : Supervision) (o : Option EventKind) (u : State) :
    EventFrame u (keyFaultNotice key raw x (tell stamp o u)) :=
  (tell_frame _ _ _).trans (keyFaultNotice_frame ..)

theorem noteKeyboard_field {α : Type} (f : State → α) (hf : ∀ s r l, f ((s.withRail r).withLink l) = f s) (was : Bool)
    (s : State) : f (noteKeyboard was s) = f s := by
  rw [← hf _ s.rail s.link, noteKeyboard_rest]

/-- What a key sample leaves as it was, besides what its event reaches. -/
theorem keySampled_kept {α : Type} (f : State → α) (hf : ∀ s r l, f ((s.withRail r).withLink l) = f s) (key : Key)
    (raw : Nat) (stamp : W32) (s : State) : f (keySampled key raw stamp s) =
      f (keyFaultNotice key raw (keyOutcome (s.keys.get key) raw) (tell stamp (keyTold key raw stamp s)
        ((catchUp stamp s).withKey key (keptKey s.touch (s.keys.get key) raw stamp)))) :=
  noteKeyboard_field f hf _ _

theorem exec_keySampled {i : Instr} {key : Key} {raw : Nat} {stamp : W32} {s : State} {f : State → State}
    (hi : ∀ s, rowAct i s = whenRunning f s) (hf : f s = keySampled key raw stamp s) (h : s.Steady) :
    exec i s = .next (chooseTx (keySampled key raw stamp s)) := by
  have hframe := keyTold_frame key raw stamp (keyOutcome (s.keys.get key) raw) (keyTold key raw stamp s)
    ((catchUp stamp s).withKey key (keptKey s.touch (s.keys.get key) raw stamp))
  have htime := catchUp_frame stamp s
  have hr : (keySampled key raw stamp s).running = s.running :=
    (keySampled_kept State.running (fun _ _ _ => rfl) key raw stamp s).trans (hframe.running.trans htime.running)
  have hc : (keySampled key raw stamp s).link.core = s.link.core :=
    (noteKeyboard_frame _ _).core.trans (hframe.core.trans htime.core)
  rw [← hf] at hr hc ⊢
  exact exec_event hi h hr hc

theorem exec_keySample {s : State} {key : Key} {raw : Raw} {stamp : W32} (hx : SampleIs s key raw.val stamp)
    (h : s.Steady) : exec (.keySample key raw stamp) s = .next (chooseTx (keySampled key raw.val stamp s)) :=
  exec_keySampled (f := takeKeySample key raw stamp) (fun _ => rfl) (takeKeySample_spec hx) h

/-! ### The rules of the states -/

@[simp] theorem get_withKey_same (s : State) (key : Key) (k : KeyRecord) : (s.withKey key k).keys.get key = k := by
  show Vector.get (s.keys.set key.val k key.isLt) key = k
  rw [Vector.get_eq_getElem, Vector.getElem_set_self]

theorem get_withKey_of_ne {j key : Key} (h : j ≠ key) (s : State) (k : KeyRecord) :
    (s.withKey key k).keys.get j = s.keys.get j := by
  show Vector.get (s.keys.set key.val k key.isLt) j = _
  rw [Vector.get_eq_getElem, Vector.getElem_set_ne _ _ fun he => h (Fin.ext he.symm)]
  rfl

/-- The event a sample forms, by the state of the key (R11 to R13, R19). -/
def keyFormed (key : Key) (raw : Nat) (stamp : W32) (s : State) : Option EventKind :=
  let k := s.keys.get key
  let d := k.depthOf raw
  let strike : W32 → Origin → EventKind := fun start origin =>
    s.touch.strike s.rail.physicallyRetracted s.pedals.soft.value key start (crossing s.touch.lS2 k d stamp) origin
  if k.judged raw then
    match k.state with
    | .rest => if s.touch.lS2 ≤ d then some (strike (crossing s.touch.lS1 k d stamp) .first) else none
    | .descent => if s.touch.lS2 ≤ d then some (strike k.tStart k.origin) else none
    | .struck => if d < s.touch.lRel then some (.noteOff key false) else none
    | .rearmed =>
      if d < s.touch.lRel then some (.noteOff key false)
      else if s.touch.lS2 ≤ d then some (strike (crossing s.touch.lRep k d stamp) .rep) else none
    | .repDescent =>
      if d < s.touch.lRel then some (.noteOff key false)
      else if s.touch.lS2 ≤ d then some (strike k.tStart k.origin) else none
    | .offline | .arming | .capture | .fault => none
  else
    match k.state with
    | .struck | .rearmed | .repDescent => some (.noteOff key true)
    | .offline | .arming | .rest | .descent | .capture | .fault => none

theorem keyTold_eq (key : Key) (raw : Nat) (stamp : W32) (s : State) :
    keyTold key raw stamp s = keyFormed key raw stamp s := by
  unfold keyTold keyForms keyFormed
  dsimp only
  split
  · unfold KeyRecord.forms
    cases (s.keys.get key).state
    case offline | arming | capture | fault => rfl
    all_goals
      dsimp only
      repeat' split
    all_goals rfl
  · unfold KeyRecord.isDown
    cases (s.keys.get key).state <;> rfl

/-- What a sample stores in every state, and what the states do not touch (R2, R19). -/
theorem keptKey_sampled (t : Touch) (k : KeyRecord) (raw : Nat) (stamp : W32) :
    (keptKey t k raw stamp).lastRaw = raw ∧ (keptKey t k raw stamp).lastStamp = stamp ∧
      (keptKey t k raw stamp).lastDepth = k.depthOf raw ∧ (keptKey t k raw stamp).rest = k.rest ∧
      (keptKey t k raw stamp).bottom = k.bottom ∧ (keptKey t k raw stamp).calibrated = k.calibrated := by
  unfold keptKey
  dsimp only
  repeat' split
  all_goals exact ⟨rfl, rfl, rfl, rfl, rfl, rfl⟩

theorem keptKey_extremes (t : Touch) {k : KeyRecord} (hs : k.state ≠ .capture) (raw : Nat) (stamp : W32) :
    (keptKey t k raw stamp).capMin = k.capMin ∧ (keptKey t k raw stamp).capMax = k.capMax := by
  unfold keptKey
  dsimp only
  rw [if_neg hs]
  repeat' split
  all_goals exact ⟨rfl, rfl⟩

/-- The stroke's start and origin move at a judged crossing alone (R11, R13). -/
theorem keptKey_stroke (t : Touch) (k : KeyRecord) (raw : Nat) (stamp : W32) :
    (keptKey t k raw stamp).tStart = (if k.judged raw then k.strokeStart t (k.depthOf raw) stamp else k.tStart) ∧
      (keptKey t k raw stamp).origin = if k.judged raw then k.strokeOrigin t (k.depthOf raw) else k.origin := by
  rcases state_cases k with hp | hs
  · cases hj : k.judged raw with
    | true =>
      rw [keptKey_judged t stamp hp hj]
      exact ⟨rfl, rfl⟩
    | false =>
      rw [keptKey_faulted t stamp hp hj]
      exact ⟨rfl, rfl⟩
  · have hplay := inPlay_of_state hs
    have hrest : k.state ≠ .rest ∧ k.state ≠ .rearmed := by rcases hs with hs | hs | hs <;> rw [hs] <;> decide
    have hstart : k.strokeStart t (k.depthOf raw) stamp = k.tStart := by
      rw [KeyRecord.strokeStart, if_neg fun h => hrest.1 h.1, if_neg fun h => hrest.2 h.1]
    have horigin : k.strokeOrigin t (k.depthOf raw) = k.origin := by
      rw [KeyRecord.strokeOrigin, if_neg fun h => hrest.1 h.1, if_neg fun h => hrest.2 h.1]
    rw [hstart, horigin, ite_self, ite_self]
    unfold keptKey
    dsimp only
    rw [if_neg (ne_true_of_eq_false hplay)]
    repeat' split
    all_goals exact ⟨rfl, rfl⟩

theorem ite_judged {α : Type} {j : Bool} {a b : Prop} [Decidable a] [Decidable b] (x y z : α) :
    (if j = true then (if a then x else if b then y else z) else z) =
      if j = true ∧ a then x else if j = true ∧ b then y else z := by
  cases j <;> simp

theorem inPlay_iff (k : KeyRecord) : k.inPlay = true ↔ k.state ≠ .offline ∧ k.state ≠ .capture ∧ k.state ≠ .fault := by
  unfold KeyRecord.inPlay
  cases k.state <;> decide

theorem keyFaultNotice_rest (key : Key) (raw : Nat) (x : Supervision) (s : State) :
    ∃ l, keyFaultNotice key raw x s = s.withLink l := by
  cases x <;> exact ⟨_, rfl⟩

theorem keyFaultNotice_eq (key : Key) (raw : Nat) (k : KeyRecord) (s : State) :
    keyFaultNotice key raw (keyOutcome k raw) s =
      if k.state ≠ .offline ∧ k.state ≠ .capture ∧ k.state ≠ .fault ∧ k.judged raw = false then
        { s with link := s.link.note (.keyFault key false raw) s.clock.ms }
      else if k.state = .fault ∧ k.inRange raw = true ∧ 63 ≤ k.inCount then
        { s with link := s.link.note (.keyFault key true raw) s.clock.ms }
      else s := by
  have hiff : (k.inPlay = true ∧ k.judged raw = false) ↔
      (k.state ≠ .offline ∧ k.state ≠ .capture ∧ k.state ≠ .fault ∧ k.judged raw = false) := by
    rw [inPlay_iff, and_assoc, and_assoc]
  unfold keyOutcome
  simp only [hiff]
  split
  · rfl
  · split <;> rfl

/-- The whole step of a key sample, and what of it the key's event reaches. -/
theorem keySampled_routed {s t : State} {key : Key} {raw : Nat} {stamp : W32}
    (ht : t = chooseTx (keySampled key raw stamp s)) :
    t.keys = s.keys.set key.val (keptKey s.touch (s.keys.get key) raw stamp) key.isLt ∧
      t.SameRouted (tell stamp (keyTold key raw stamp s)
        ((catchUp stamp s).withKey key (keptKey s.touch (s.keys.get key) raw stamp))) := by
  have hframe := tell_frame stamp (keyTold key raw stamp s)
    ((catchUp stamp s).withKey key (keptKey s.touch (s.keys.get key) raw stamp))
  have hkeys : ((catchUp stamp s).withKey key (keptKey s.touch (s.keys.get key) raw stamp)).keys =
      s.keys.set key.val (keptKey s.touch (s.keys.get key) raw stamp) key.isLt := by
    rw [← (catchUp_frame stamp s).keys]
    rfl
  unfold keySampled at ht
  generalize tell stamp (keyTold key raw stamp s)
    ((catchUp stamp s).withKey key (keptKey s.touch (s.keys.get key) raw stamp)) = u at ht hframe ⊢
  obtain ⟨l, hl⟩ := keyFaultNotice_rest key raw (keyOutcome (s.keys.get key) raw) u
  rw [hl] at ht
  have hrest := noteKeyboard_rest (keyboardClear s) (u.withLink l)
  generalize noteKeyboard (keyboardClear s) (u.withLink l) = v at ht hrest
  have field {α : Type} (f : State → α) (hf : ∀ s r l, f ((s.withRail r).withLink l) = f s)
      (hl : f (u.withLink l) = f u) : f t = f u := by
    rw [ht, ← hl, ← hrest, hf]
    exact hf v v.rail v.link.transmit
  exact ⟨(field State.keys (fun _ _ _ => rfl) rfl).trans (hframe.keys.trans hkeys),
    field State.engine (fun _ _ _ => rfl) rfl, field State.store (fun _ _ _ => rfl) rfl,
    field State.recorder (fun _ _ _ => rfl) rfl, field State.router (fun _ _ _ => rfl) rfl,
    field State.guide (fun _ _ _ => rfl) rfl, field State.player (fun _ _ _ => rfl) rfl,
    field State.choices (fun _ _ _ => rfl) rfl⟩

/-- Settles O26: `sampleKey_eq` gives the record, the event and the notice of every sample. -/
theorem keySampleFollowsTheStateRules : Obligations.KeySampleFollowsTheStateRules := by
  intro s key raw stamp h hok
  have hord := Touch.Ordered.of_touchOk hok
  have hexec := exec_keySample (sampleKey_eq hord (s.keys.get key) raw.val stamp) h
  obtain ⟨t, ht⟩ : ∃ t, t = chooseTx (keySampled key raw.val stamp s) := ⟨_, rfl⟩
  obtain ⟨hkeys, hrouted⟩ := keySampled_routed ht
  have hget : t.keys.get key = keptKey s.touch (s.keys.get key) raw.val stamp := by
    rw [hkeys]
    exact get_withKey_same s key _
  have htime := catchUp_frame stamp s
  have hframe := keyTold_frame key raw.val stamp (keyOutcome (s.keys.get key) raw.val) (keyTold key raw.val stamp s)
    ((catchUp stamp s).withKey key (keptKey s.touch (s.keys.get key) raw.val stamp))
  have kept {α : Type} (f : State → α) (hf : ∀ s r l, f ((s.withRail r).withLink l) = f s) {x : α}
      (hx : f (keyFaultNotice key raw.val (keyOutcome (s.keys.get key) raw.val) (tell stamp (keyTold key raw.val stamp s)
        ((catchUp stamp s).withKey key (keptKey s.touch (s.keys.get key) raw.val stamp)))) = x) : f t = x := by
    rw [ht]
    exact (hf _ (keySampled key raw.val stamp s).rail _).trans ((keySampled_kept f hf key raw.val stamp s).trans hx)
  refine ⟨t, ht ▸ hexec, ?_, fun j hj => ?_, ?_⟩
  · intro k k' d inside judged cross strike formed sampled
    have hk' : k' = keptKey s.touch k raw.val stamp := hget
    clear_value k'
    subst hk'
    have hformed : formed = keyTold key raw.val stamp s := by
      rw [keyTold_eq]
      rfl
    clear_value formed
    subst hformed
    have hsampled : sampled = (catchUp stamp s).withKey key (keptKey s.touch k raw.val stamp) := by
      refine (congrArg (fun x => { catchUp stamp s with keys := x }) hkeys).trans ?_
      exact congrArg (fun x : Vector KeyRecord 88 =>
        { catchUp stamp s with keys := x.set key.val (keptKey s.touch k raw.val stamp) key.isLt }) htime.keys.symm
    clear_value sampled
    subst hsampled
    refine ⟨?_, ?_, ?_⟩
    · revert hrouted
      cases keyTold key raw.val stamp s <;> exact id
    · intro told noticed moved
      have htold : told = tell stamp (keyTold key raw.val stamp s)
          ((catchUp stamp s).withKey key (keptKey s.touch k raw.val stamp)) := by
        show (match keyTold key raw.val stamp s with | none => _ | some kind => _) = _
        cases keyTold key raw.val stamp s <;> rfl
      clear_value told
      have hnoticed : noticed = keyFaultNotice key raw.val (keyOutcome k raw.val) told :=
        (keyFaultNotice_eq key raw.val k told).symm
      clear_value noticed
      have hmoved : moved = keySampled key raw.val stamp s := by
        show noteKeyboard (keyboardClear s) noticed = _
        rw [hnoticed, htold]
        rfl
      rw [hmoved]
      exact ht
    · obtain ⟨hraw, hstamp, hdepth, hrest, hbottom, hcalibrated⟩ := keptKey_sampled s.touch k raw.val stamp
      obtain ⟨hstart, horigin⟩ := keptKey_stroke s.touch k raw.val stamp
      refine ⟨hraw, hstamp, hdepth, hrest, hbottom, hcalibrated, fun hs => keptKey_offline s.touch stamp hs raw.val,
        fun hs => keptKey_capture s.touch stamp hs raw.val, fun hs => keptKey_extremes s.touch hs raw.val stamp, ?_, ?_,
        fun h1 h2 h3 hj => ?_, fun hs hc => ?_, fun hj => ?_⟩
      · exact hstart.trans (ite_judged _ _ _)
      · exact horigin.trans (ite_judged _ _ _)
      · rw [keptKey_judged s.touch stamp ((inPlay_iff k).2 ⟨h1, h2, h3⟩) hj]
        exact ⟨rfl, rfl⟩
      · rw [keptKey_fault s.touch stamp hs]
        rcases hin : k.inRange raw.val with _ | _
        · exact ⟨hs, rfl, (if_neg (ne_true_of_eq_false hin)).symm⟩
        · have hlt : k.inCount < 63 := hc.resolve_left fun h => absurd (h.symm.trans hin) (by decide)
          rw [if_pos rfl, if_pos hlt]
          exact ⟨hs, rfl, (if_pos hin).symm⟩
      · have hstate (hp : k.inPlay = true) : (keptKey s.touch k raw.val stamp).state = k.settles s.touch d :=
          (congrArg KeyRecord.state (keptKey_judged s.touch stamp hp hj) :)
        refine ⟨fun hs => ?_, fun hs => ?_, fun hs => ?_, fun hs => ?_, fun hs => ?_, fun hs => ?_⟩
        all_goals
          rw [hstate (by rw [KeyRecord.inPlay, hs]), KeyRecord.settles, hs]
  · rw [hkeys]
    exact get_withKey_of_ne hj s _
  · exact ⟨kept State.touch (fun _ _ _ => rfl) (hframe.touch.trans htime.touch),
      kept State.pedals (fun _ _ _ => rfl) (hframe.pedals.trans htime.pedals),
      kept State.output (fun _ _ _ => rfl) (hframe.output.trans htime.output),
      kept State.bulk (fun _ _ _ => rfl) (hframe.bulk.trans htime.bulk),
      kept State.edit (fun _ _ _ => rfl) (hframe.edit.trans htime.edit),
      kept State.flash (fun _ _ _ => rfl) (hframe.flash.trans htime.flash),
      kept (fun s => s.router.routes) (fun _ _ _ => rfl) (hframe.routes.trans (congrArg Router.routes htime.router)),
      kept (fun s => s.engine.map) (fun _ _ _ => rfl) (hframe.map.trans (congrArg Engine.map htime.engine)),
      kept State.pending (fun _ _ _ => rfl) (hframe.pending.trans htime.pending)⟩

/-! ### The fault rows -/

theorem keyboardClear_iff (s : State) : keyboardClear s = true ↔ ∀ k : Key, keyClear s.touch.lS1 (s.keys.get k) = true := by
  unfold keyboardClear
  rw [List.all_eq_true]
  constructor
  · exact fun h k => h _ (by rw [Vector.mem_toList_iff]; exact Vector.getElem_mem _)
  · intro h x hx
    obtain ⟨i, hi, rfl⟩ := List.getElem_of_mem hx
    exact h ⟨i, by rwa [Vector.length_toList] at hi⟩

/-- A record as clear as the one it replaces leaves the keyboard-clear condition (R21). -/
theorem keyboardClear_withKey {s : State} {key : Key} {k : KeyRecord}
    (h : keyClear s.touch.lS1 k = keyClear s.touch.lS1 (s.keys.get key)) :
    keyboardClear (s.withKey key k) = keyboardClear s := by
  rw [Bool.eq_iff_iff, keyboardClear_iff, keyboardClear_iff]
  refine forall_congr' fun j => ?_
  by_cases hj : j = key
  · subst hj
    rw [get_withKey_same]
    exact Bool.eq_iff_iff.1 h
  · rw [get_withKey_of_ne hj]
    rfl

theorem noteKeyboard_same {was : Bool} {s : State} (h : keyboardClear s = was) : noteKeyboard was s = s := if_pos h

theorem sampleIs_faulted {s : State} {key : Key} {raw : Nat} (hp : (s.keys.get key).inPlay = true)
    (hj : (s.keys.get key).judged raw = false) (stamp : W32) : SampleIs s key raw stamp := by
  rw [SampleIs, keyOutcome_faulted hp hj]
  exact sampleKey_faulted hp hj s.touch stamp

theorem sampleIs_fault {s : State} {key : Key} {raw : Nat} (hs : (s.keys.get key).state = .fault) (stamp : W32) :
    SampleIs s key raw stamp := sampleKey_fault hs raw s.touch stamp

/-- The step of the row of the 32nd sample out of the window is that sample's (R19). -/
theorem exec_keyFaultEntry {s : State} {key : Key} {raw : Raw} (stamp : W32) (h : s.Steady)
    (hp : (s.keys.get key).inPlay = true) (hj : (s.keys.get key).judged raw.val = false) :
    exec (.keyFaultEntry key raw stamp) s = .next (chooseTx (keySampled key raw.val stamp s)) := by
  refine exec_keySampled (f := takeKeyFaultEntry key raw stamp) (fun _ => rfl) ?_ h
  have hsup : keySupervision key raw s = .faulted := by rw [keySupervision, superviseKey_faulted hp hj]
  rw [takeKeyFaultEntry, if_pos hsup, takeKeySample_spec (sampleIs_faulted hp hj stamp)]

/-- The step of the row of the 64th sample in the window is that sample's (R20). -/
theorem exec_keyFaultRecovery {s : State} {key : Key} {raw : Raw} (stamp : W32) (h : s.Steady)
    (hs : (s.keys.get key).state = .fault) (hin : (s.keys.get key).inRange raw.val = true)
    (hc : ¬(s.keys.get key).inCount < 63) :
    exec (.keyFaultRecovery key raw stamp) s = .next (chooseTx (keySampled key raw.val stamp s)) := by
  refine exec_keySampled (f := takeKeyFaultRecovery key raw stamp) (fun _ => rfl) ?_ h
  have hsup : keySupervision key raw s = .recovered := by
    rw [keySupervision, superviseKey_fault hs, if_pos hin, if_neg hc]
  rw [takeKeyFaultRecovery, if_pos hsup, takeKeySample_spec (sampleIs_fault hs stamp)]

theorem keySampled_faulted {s : State} {key : Key} {raw : Nat} (hp : (s.keys.get key).inPlay = true)
    (hj : (s.keys.get key).judged raw = false) (stamp : W32) : keySampled key raw stamp s =
      noteKeyboard (keyboardClear s) (raise (.keyFault key false raw)
        (tell stamp (if (s.keys.get key).isDown then some (.noteOff key true) else none)
          ((catchUp stamp s).withKey key
            { (s.keys.get key).sampled raw stamp with state := .fault, outCount := 32, inCount := 0 }))) := by
  have htold : keyTold key raw stamp s = if (s.keys.get key).isDown then some (.noteOff key true) else none := by
    rw [keyTold, keyForms, if_neg (ne_true_of_eq_false hj)]
    split <;> rfl
  rw [keySampled, htold, keyOutcome_faulted hp hj, keptKey_faulted s.touch stamp hp hj]
  rfl

theorem keySampled_recovered {s : State} {key : Key} {raw : Nat} (hs : (s.keys.get key).state = .fault)
    (hin : (s.keys.get key).inRange raw = true) (hc : ¬(s.keys.get key).inCount < 63) (stamp : W32) :
    keySampled key raw stamp s = noteKeyboard (keyboardClear s) (raise (.keyFault key true raw)
      ((catchUp stamp s).withKey key
        { (s.keys.get key).sampled raw stamp with state := .arming, outCount := 0, inCount := 0 })) := by
  rw [keySampled, keyTold, forms_of_not_inPlay (inPlay_of_state (.inl hs)), keyOutcome_recovered hs hin hc,
    keptKey_fault s.touch stamp hs, if_pos hin, if_neg hc]
  rfl

theorem isDown_iff (k : KeyRecord) :
    k.isDown = true ↔ k.state = .struck ∨ k.state = .rearmed ∨ k.state = .repDescent := by
  unfold KeyRecord.isDown
  cases k.state <;> simp

theorem withKey_catchUp (s : State) (stamp : W32) (key : Key) (k : KeyRecord) :
    { catchUp stamp s with keys := s.keys.set key.val k key.isLt } = (catchUp stamp s).withKey key k :=
  congrArg (fun x : Vector KeyRecord 88 => { catchUp stamp s with keys := x.set key.val k key.isLt })
    (catchUp_frame stamp s).keys.symm

/-- Settles O27: the rows are the samples at which supervision decides, and `keySampled` gives these whole. -/
theorem keyFaultEntryAndRecovery : Obligations.KeyFaultEntryAndRecovery := by
  refine ⟨fun s key raw stamp h hp hcount hraw => ?_, fun s key raw stamp h hs hcount hlo hhi => ?_⟩
  · have hj : (s.keys.get key).judged raw.val = false := by
      simp only [KeyRecord.judged, KeyRecord.inRange, hcount, Bool.or_eq_false_iff, decide_eq_false_iff_not]
      omega
    have hexec (stamp : W32) := exec_keyFaultEntry stamp h hp hj
    have hkept := keptKey_faulted s.touch stamp hp hj
    obtain ⟨hkeys, -⟩ := keySampled_routed (s := s) (key := key) (raw := raw.val) (stamp := stamp) rfl
    rw [hkept] at hkeys
    refine ⟨?_, ?_, ?_, fun hrest => ?_⟩
    · rw [hexec, exec_keySample (sampleIs_faulted hp hj stamp) h]
    · refine ⟨_, hexec stamp, ?_⟩
      generalize chooseTx (keySampled key raw.val stamp s) = t at hkeys
      have hget : t.keys.get key =
          { (s.keys.get key).sampled raw.val stamp with state := .fault, outCount := 32, inCount := 0 } := by
        rw [hkeys]
        exact get_withKey_same s key _
      rw [hget, hkeys]
      exact ⟨rfl, rfl, rfl, fun j hj => get_withKey_of_ne hj s _⟩
    · intro k sampled released moved
      have hsampled : sampled = (catchUp stamp s).withKey key
          { k.sampled raw.val stamp with state := .fault, outCount := 32, inCount := 0 } := withKey_catchUp s stamp key _
      clear_value sampled
      have hreleased : released = tell stamp (if k.isDown then some (.noteOff key true) else none) sampled := by
        show (if k.state = .struck ∨ k.state = .rearmed ∨ k.state = .repDescent then _ else _) = _
        by_cases hd : k.isDown = true
        · rw [if_pos ((isDown_iff k).1 hd), if_pos hd]
          rfl
        · rw [if_neg fun hx => hd ((isDown_iff k).2 hx), if_neg hd]
          rfl
      clear_value released
      have hmoved : moved = keySampled key raw.val stamp s := by
        rw [keySampled_faulted hp hj, ← hsampled, ← hreleased]
        rfl
      rw [hmoved]
      exact hexec stamp
    · have hdown : (s.keys.get key).isDown = false := by rw [KeyRecord.isDown, hrest]
      rw [hexec, keySampled_faulted hp hj, catchUp_now, hdown, if_neg Bool.false_ne_true, noteKeyboard_same]
      · rfl
      · refine keyboardClear_withKey (s := s) (key := key) ?_
        rw [keyClear, keyClear, hrest]
  · have hin : (s.keys.get key).inRange raw.val = true := decide_eq_true ⟨hlo, hhi⟩
    have hc : ¬(s.keys.get key).inCount < 63 := by omega
    have hexec (stamp : W32) := exec_keyFaultRecovery stamp h hs hin hc
    have hkept : keptKey s.touch (s.keys.get key) raw.val stamp =
        { (s.keys.get key).sampled raw.val stamp with state := .arming, outCount := 0, inCount := 0 } := by
      rw [keptKey_fault s.touch stamp hs, if_pos hin, if_neg hc]
    obtain ⟨hkeys, -⟩ := keySampled_routed (s := s) (key := key) (raw := raw.val) (stamp := stamp) rfl
    rw [hkept] at hkeys
    refine ⟨?_, ?_, ?_, fun hdepth => ?_⟩
    · rw [hexec, exec_keySample (sampleIs_fault hs stamp) h]
    · refine ⟨_, hexec stamp, ?_⟩
      generalize chooseTx (keySampled key raw.val stamp s) = t at hkeys
      have hget : t.keys.get key =
          { (s.keys.get key).sampled raw.val stamp with state := .arming, outCount := 0, inCount := 0 } := by
        rw [hkeys]
        exact get_withKey_same s key _
      rw [hget, hkeys]
      exact ⟨rfl, rfl, rfl, fun j hj => get_withKey_of_ne hj s _⟩
    · intro k sampled moved
      have hsampled : sampled = (catchUp stamp s).withKey key
          { k.sampled raw.val stamp with state := .arming, outCount := 0, inCount := 0 } := withKey_catchUp s stamp key _
      clear_value sampled
      have hmoved : moved = keySampled key raw.val stamp s := by
        rw [keySampled_recovered hs hin hc, ← hsampled]
        rfl
      rw [hmoved]
      exact hexec stamp
    · rw [hexec, keySampled_recovered hs hin hc, catchUp_now, noteKeyboard_same]
      · rfl
      · refine keyboardClear_withKey (s := s) (key := key) ?_
        rw [keyClear, keyClear, hs]
        exact decide_eq_true hdepth

end Sys2Proof.Machine
end

section
/-! PROOFS. A change of the part that routing an event neither reads nor touches commutes with it: of the key records
(sections 1.3, 4.5), or of the frames that wait in the intake (section 11.3). -/

namespace Sys2Proof.Machine

open Sys2Proof.StepRows

/-- A change that routing an event neither reads nor touches. -/
structure Passive (φ : State → State) : Prop where
  clock : ∀ s, (φ s).clock = s.clock
  engine : ∀ s, (φ s).engine = s.engine
  router : ∀ s, (φ s).router = s.router
  recorder : ∀ s, (φ s).recorder = s.recorder
  store : ∀ s, (φ s).store = s.store
  player : ∀ s, (φ s).player = s.player
  guide : ∀ s, (φ s).guide = s.guide
  choices : ∀ s, (φ s).choices = s.choices
  withEngine : ∀ s x, (φ s).withEngine x = φ (s.withEngine x)
  withRouter : ∀ s x, (φ s).withRouter x = φ (s.withRouter x)
  withRecorder : ∀ s x, (φ s).withRecorder x = φ (s.withRecorder x)
  withStore : ∀ s x, (φ s).withStore x = φ (s.withStore x)
  withPlayer : ∀ s x, (φ s).withPlayer x = φ (s.withPlayer x)
  withGuide : ∀ s x, (φ s).withGuide x = φ (s.withGuide x)
  withChoices : ∀ s x, (φ s).withChoices x = φ (s.withChoices x)
  raise : ∀ b s, raise b (φ s) = φ (raise b s)
  link : ∀ s t, t.link.core = s.link.core → ((φ t).link = (φ s).link ↔ t.link = s.link)

/-- A change commutes with an operation. -/
def Commutes (φ f : State → State) : Prop := ∀ s, f (φ s) = φ (f s)

theorem Commutes.foldl {φ : State → State} {α : Type} {f : State → α → State} (hf : ∀ a, Commutes φ fun s => f s a)
    (l : List α) : Commutes φ fun s => l.foldl f s := by
  induction l with
  | nil => exact fun _ => rfl
  | cons a l ih =>
    intro s
    exact (congrArg (fun t => l.foldl f t) (hf a s)).trans (ih (f s a))

theorem passive_withKeys (ks : Vector KeyRecord 88) : Passive fun s => s.withKeys ks := by
  constructor
  case link => exact fun _ _ _ => Iff.rfl
  all_goals first
    | exact fun _ => rfl
    | exact fun _ _ => rfl

theorem deliveries_frame (d : Dests) (ev : Event) {f : State → State} (hf : f ∈ deliveries d ev) (s : State) :
    EventFrame s (f s) := by
  simp only [Machine.deliveries, List.mem_append] at hf
  rcases hf with ((hf | hf) | hf) | hf
  all_goals
    split at hf
    · obtain rfl := List.mem_singleton.1 hf
      first
        | exact engineEvent_frame ev s
        | exact recorderEvent_frame ev s
        | exact notifyEvent_frame ev s
        | exact guideEvent_frame ev s
    · exact absurd hf List.not_mem_nil

section
variable {φ : State → State} (h : Passive φ)
include h

theorem Passive.engineEvent (ev : Event) : Commutes φ (engineEvent ev) := by
  intro s
  unfold Machine.engineEvent
  rw [h.engine]
  cases ev.kind with
  | noteOn k v r =>
    dsimp only
    rw [h.withEngine]
    exact Commutes.foldl (fun n s => h.raise n s) _ _
  | noteOff k f => exact h.withEngine s _
  | silentPress k => exact h.withEngine s _
  | damper v => exact h.withEngine s _
  | soft v => rfl
  | sostOn => exact h.withEngine s _
  | sostOff => exact h.withEngine s _

theorem Passive.endRecording (r : Recording) (c : RecordEndCause) (time : Nat) :
    Commutes φ (endRecording r c time) := by
  intro s
  unfold Machine.endRecording
  dsimp only
  rw [h.store, h.withStore, h.withRecorder, h.raise]

theorem Passive.recordBody (r : Recording) (time : Nat) (b : Body) : Commutes φ (recordBody r time b) := by
  intro s
  unfold Machine.recordBody
  dsimp only
  rw [h.store]
  split
  · rw [h.withStore, h.withRecorder]
  · exact h.endRecording r .full time s

theorem Passive.recordGap : Commutes φ recordGap := by
  intro s
  unfold Machine.recordGap
  rw [h.recorder]
  cases s.recorder with
  | none => rfl
  | some r => exact h.recordBody r _ _ s

theorem Passive.recordGaps (n : Nat) : Commutes φ (recordGaps n) := by
  induction n with
  | zero => exact fun _ => rfl
  | succ n ih =>
    intro s
    rw [Machine.recordGaps, Machine.recordGaps, h.recordGap, ih]

theorem Passive.recordOverdueGaps (time : Nat) : Commutes φ (recordOverdueGaps time) := by
  intro s
  unfold Machine.recordOverdueGaps
  rw [h.recorder]
  cases s.recorder with
  | none => rfl
  | some r => exact h.recordGaps _ s

theorem Passive.recorderEvent (ev : Event) : Commutes φ (recorderEvent ev) := by
  intro s
  unfold Machine.recorderEvent
  rw [h.recorder]
  cases s.recorder with
  | none => rfl
  | some r0 =>
    dsimp only
    cases r0.ctx.bodyOf ev.kind with
    | none => rfl
    | some b0 =>
      dsimp only
      rw [h.clock, h.recordOverdueGaps, h.recorder]
      cases (Machine.recordOverdueGaps (r0.eventTime s.clock.us ev.stamp) s).recorder with
      | none => rfl
      | some r =>
        dsimp only
        cases r.ctx.bodyOf ev.kind with
        | none => rfl
        | some b => exact h.recordBody r _ b _

theorem Passive.playerNotice (t : Option TakeId) (c : PlayCause) : Commutes φ (playerNotice t c) := by
  intro s
  unfold Machine.playerNotice
  rw [h.player, h.guide, h.raise]

theorem Passive.releaseWait : Commutes φ releaseWait := by
  intro s
  unfold Machine.releaseWait
  rw [h.player, h.guide]
  split
  · rw [h.withPlayer, h.playerNotice]
  · rfl

theorem Passive.setExpected (ks : KeySet) : Commutes φ (setExpected ks) := by
  intro s
  unfold Machine.setExpected
  rw [h.guide, h.withGuide]

theorem Passive.setRecent (l : List Press) : Commutes φ (setRecent l) := by
  intro s
  unfold Machine.setRecent
  rw [h.router, h.withRouter]

theorem Passive.guideOffer (k : Key) : Commutes φ (guideOffer k) := by
  intro s
  unfold Machine.guideOffer
  rw [h.guide, h.clock, h.router]
  split
  · rw [h.setExpected, h.releaseWait]
  · exact h.setRecent _ s

theorem Passive.guideExpect (k : Key) (c : Bool) : Commutes φ (guideExpect k c) := by
  intro s
  unfold Machine.guideExpect
  rw [h.guide]
  split
  · exact h.raise _ s
  · split
    · exact h.raise _ s
    · split
      · rw [h.setExpected, h.raise]
      · exact h.raise _ s

theorem Passive.guideEvent (ev : Event) : Commutes φ (guideEvent ev) := by
  intro s
  unfold Machine.guideEvent
  rw [h.guide]
  cases ev.kind with
  | noteOn k v r =>
    dsimp only
    split
    · unfold guideWaitOn
      dsimp only
      rw [h.clock, h.guide, h.router, h.setRecent]
      exact h.guideExpect k _ _
    · exact h.raise _ s
  | noteOff k f => exact h.raise _ s
  | silentPress k => rfl
  | damper v => rfl
  | soft v => rfl
  | sostOn => rfl
  | sostOff => rfl

theorem Passive.notifyEvent (ev : Event) : Commutes φ (notifyEvent ev) := by
  intro s
  unfold Machine.notifyEvent
  cases ev.kind.key? <;> exact h.raise _ s

theorem Passive.deliveries (d : Dests) (ev : Event) {f : State → State} (hf : f ∈ deliveries d ev) : Commutes φ f := by
  simp only [Machine.deliveries, List.mem_append] at hf
  rcases hf with ((hf | hf) | hf) | hf
  all_goals
    split at hf
    · obtain rfl := List.mem_singleton.1 hf
      first
        | exact h.engineEvent ev
        | exact h.recorderEvent ev
        | exact h.notifyEvent ev
        | exact h.guideEvent ev
    · exact absurd hf List.not_mem_nil

theorem Passive.deliverFreely : ∀ (n : Nat) (fs : List (State → State)), (∀ f ∈ fs, Commutes φ f) →
    Commutes φ (deliverFreely n fs)
  | 0, _, _, _ => rfl
  | _ + 1, [], _, _ => rfl
  | _ + 1, [f], hf, s => hf f List.mem_cons_self s
  | n + 1, f :: g :: fs, hf, s => by
    have hdraw : drawChoice (f :: g :: fs).length (φ s) =
        ((drawChoice (f :: g :: fs).length s).1, φ (drawChoice (f :: g :: fs).length s).2) := by
      unfold drawChoice
      rw [h.choices, h.withChoices]
    have hpicked (c : Nat) : Commutes φ ((f :: g :: fs).getD c id) := by
      rw [List.getD_eq_getElem?_getD]
      cases hc : (f :: g :: fs)[c]? with
      | none => exact fun _ => rfl
      | some x => exact hf x (List.mem_of_getElem? hc)
    unfold Machine.deliverFreely
    rw [hdraw]
    dsimp only
    rw [hpicked]
    exact Passive.deliverFreely n _ (fun x hx => hf x (List.mem_of_mem_eraseIdx hx)) _

theorem Passive.deliver (d : Dests) (ev : Event) : Commutes φ (deliver d ev) := by
  intro s
  have hplaces : (Machine.deliveries d ev).countP (placesNotice (φ s)) =
      (Machine.deliveries d ev).countP (placesNotice s) := by
    refine List.countP_congr fun f hf => ?_
    unfold placesNotice
    rw [decide_eq_true_eq, decide_eq_true_eq, h.deliveries d ev hf]
    exact not_congr (h.link s (f s) (deliveries_frame d ev hf s).core)
  unfold Machine.deliver
  dsimp only
  rw [hplaces]
  split
  · exact Passive.deliverFreely h _ _ (fun f hf => h.deliveries d ev hf) s
  · have hall (fs : List (State → State)) (hfs : ∀ f ∈ fs, Commutes φ f) (s : State) :
        fs.foldl (fun s f => f s) (φ s) = φ (fs.foldl (fun s f => f s) s) := by
      induction fs generalizing s with
      | nil => rfl
      | cons f fs ih =>
        rw [List.foldl_cons, List.foldl_cons, hfs f List.mem_cons_self s]
        exact ih (fun g hg => hfs g (List.mem_cons_of_mem f hg)) (f s)
    exact hall _ (fun f hf => h.deliveries d ev hf) s

theorem Passive.finalSet (ev : Event) (s : State) : finalSet (φ s) ev = finalSet s ev := by
  unfold Machine.finalSet followThrough
  rw [h.player, h.router, h.engine, h.recorder]

theorem Passive.guideCheck (ev : Event) : Commutes φ (guideCheck ev) := by
  intro s
  unfold Machine.guideCheck
  split
  · exact h.guideOffer _ s
  · rfl

/-- Routing an event commutes with a passive change. -/
theorem Passive.routeEvent (ev : Event) : Commutes φ (routeEvent ev) := by
  intro s
  unfold Machine.routeEvent
  dsimp only
  rw [h.guideCheck, h.finalSet, h.deliver]

end

end Sys2Proof.Machine
end

section
/-! PROOFS. The calibration commands of the Key Scanner (section 1.3): LOAD_CAL, CAL_START and CAL_END. -/

namespace Sys2Proof.Machine

open Sys2Proof.StepRows

/-! ### The keys of a range, in ascending order -/

theorem keysIn_nodup (lo hi : Nat) : (keysIn lo hi).Nodup := (List.nodup_finRange 88).filter _

/-- The numbers of the keys of a range run from its low end. -/
theorem keysIn_map_val {lo hi : Nat} (h : hi ≤ 87) : (keysIn lo hi).map Fin.val = List.range' lo (hi + 1 - lo) := by
  have hasc : ((keysIn lo hi).map Fin.val).Pairwise (· < ·) :=
    List.Pairwise.map _ (fun _ _ h => h) ((List.pairwise_lt_finRange 88).filter _)
  refine hasc.eq_of_mem_iff (List.pairwise_lt_range' 1) fun n => ?_
  rw [List.mem_map, List.mem_range'_1]
  constructor
  · rintro ⟨k, hk, rfl⟩
    have hk := mem_keysIn.1 hk
    omega
  · intro hn
    exact ⟨⟨n, by omega⟩, mem_keysIn.2 ⟨hn.1, by show n ≤ hi; omega⟩, rfl⟩

theorem keysIn_length {lo hi : Nat} (h : hi ≤ 87) : (keysIn lo hi).length = hi + 1 - lo := by
  rw [← List.length_map (f := Fin.val), keysIn_map_val h, List.length_range']

theorem keysIn_getElem? {lo hi : Nat} (h : hi ≤ 87) {k : Key} (hlo : lo ≤ k.val) (hhi : k.val ≤ hi) :
    (keysIn lo hi)[k.val - lo]? = some k := by
  have hval : ((keysIn lo hi).map Fin.val)[k.val - lo]? = some k.val := by
    rw [keysIn_map_val h, List.getElem?_range' (by omega)]
    congr 1
    omega
  rw [List.getElem?_map, Option.map_eq_some_iff] at hval
  obtain ⟨j, hj, hjk⟩ := hval
  rw [hj, Fin.ext hjk]

/-! ### Replacing the records of several keys -/

section
variable {β : Type} (f : β → KeyRecord → KeyRecord)

/-- The key records after each key of a list takes its new record. -/
def replaced (l : List (Key × β)) (ks : Vector KeyRecord 88) : Vector KeyRecord 88 :=
  l.foldl (fun ks x => ks.set x.1.val (f x.2 (ks.get x.1)) x.1.isLt) ks

theorem get_set (ks : Vector KeyRecord 88) (j k : Key) (x : KeyRecord) :
    (ks.set j.val x j.isLt).get k = if j = k then x else ks.get k := by
  rw [Vector.get_eq_getElem, Vector.getElem_set]
  simp only [Fin.ext_iff]
  rfl

theorem replaced_get_of_not_mem {l : List (Key × β)} {k : Key} (h : k ∉ l.map Prod.fst) (ks : Vector KeyRecord 88) :
    (replaced f l ks).get k = ks.get k := by
  induction l generalizing ks with
  | nil => rfl
  | cons x l ih =>
    rw [List.map_cons, List.mem_cons, not_or] at h
    exact (ih h.2 _).trans ((get_set ks x.1 k _).trans (if_neg fun he => h.1 he.symm))

theorem replaced_get_of_mem {l : List (Key × β)} (hl : (l.map Prod.fst).Nodup) {k : Key} {b : β} (h : (k, b) ∈ l)
    (ks : Vector KeyRecord 88) : (replaced f l ks).get k = f b (ks.get k) := by
  induction l generalizing ks with
  | nil => exact absurd h List.not_mem_nil
  | cons x l ih =>
    rw [List.map_cons, List.nodup_cons] at hl
    rcases List.mem_cons.1 h with he | h
    · subst he
      exact (replaced_get_of_not_mem f hl.1 _).trans ((get_set ks k k _).trans (if_pos rfl))
    · have hne : x.1 ≠ k := fun he => hl.1 (he ▸ List.mem_map_of_mem (f := Prod.fst) h)
      refine (ih hl.2 h _).trans (congrArg (f b) ?_)
      exact (get_set ks x.1 k _).trans (if_neg hne)

/-- The NOTE_OFFs of keys, in their order, stamped with the µs time (R6, R7). -/
def released (l : List Key) (s : State) : State :=
  l.foldl (fun u k => routeEvent ⟨.live, s.clock.us, .noteOff k false⟩ u) s

theorem released_frame (l : List Key) (s : State) : EventFrame s (released l s) :=
  EventFrame.foldl (fun _ _ => routeEvent_frame _ _) l s

theorem released_withKeys (l : List Key) (ks : Vector KeyRecord 88) (s : State) :
    released l (s.withKeys ks) = (released l s).withKeys ks :=
  Commutes.foldl (f := fun u k => routeEvent ⟨.live, s.clock.us, .noteOff k false⟩ u)
    (fun _ => (passive_withKeys ks).routeEvent _) l s

theorem released_cons (k : Key) (l : List Key) (s : State) :
    released (k :: l) s = released l (routeEvent ⟨.live, s.clock.us, .noteOff k false⟩ s) := by
  unfold released
  rw [(routeEvent_frame _ s).clock]
  rfl

/-- Recalibrating keys one after the other: the NOTE_OFFs of those that were down, and their records (R6, R7). -/
theorem recalibrate_all {l : List (Key × β)} (hl : (l.map Prod.fst).Nodup) (s : State) :
    l.foldl (fun s x => recalibrate x.1 (f x.2 (s.keys.get x.1)) s) s =
      (released ((l.map Prod.fst).filter fun k => (s.keys.get k).isDown) s).withKeys (replaced f l s.keys) := by
  induction l generalizing s with
  | nil => rfl
  | cons x l ih =>
    rw [List.map_cons, List.nodup_cons] at hl
    obtain ⟨u, hu, hkeys, hclock, hstep⟩ : ∃ u : State,
        recalibrate x.1 (f x.2 (s.keys.get x.1)) s =
            u.withKeys (s.keys.set x.1.val (f x.2 (s.keys.get x.1)) x.1.isLt) ∧
          u.keys = s.keys ∧ u.clock = s.clock ∧
          ∀ r, released (if (s.keys.get x.1).isDown then x.1 :: r else r) s = released r u := by
      unfold recalibrate
      dsimp only
      cases (s.keys.get x.1).isDown with
      | true =>
        have hframe := routeEvent_frame ⟨.live, s.clock.us, .noteOff x.1 false⟩ s
        exact ⟨_, (passive_withKeys _).routeEvent _ s, hframe.keys, hframe.clock, fun r => released_cons x.1 r s⟩
      | false => exact ⟨s, rfl, rfl, rfl, fun _ => rfl⟩
    have hsame : (l.map Prod.fst).filter (fun k =>
        ((s.keys.set x.1.val (f x.2 (s.keys.get x.1)) x.1.isLt).get k).isDown) =
        (l.map Prod.fst).filter fun k => (s.keys.get k).isDown := by
      refine List.filter_congr fun k hk => ?_
      rw [get_set, if_neg fun he : x.1 = k => hl.1 (he ▸ hk)]
    rw [List.foldl_cons, hu, ih hl.2, List.map_cons, List.filter_cons, hstep]
    show (released ((l.map Prod.fst).filter fun k =>
      ((s.keys.set x.1.val (f x.2 (s.keys.get x.1)) x.1.isLt).get k).isDown) _).withKeys _ = _
    rw [hsame, released_withKeys]
    rfl

end

/-! ### LOAD_CAL and CAL_START -/

/-- The part after a calibration command: the NOTE_OFFs in `c`, the key records, the change of the keyboard-clear
condition, the reply. -/
theorem recalibrated_spec {s c t : State} {ks : Vector KeyRecord 88} {code : Byte} (hc : EventFrame s c)
    (ht : t = (noteKeyboard (keyboardClear s) (c.withKeys ks)).withLink
      ((noteKeyboard (keyboardClear s) (c.withKeys ks)).link.reply code .ok [])) :
    t.keys = ks ∧ t.link.Answered code .ok [] ∧ t.SameRouted c ∧
      (let moved := noteKeyboard (keyboardClear s) { c with keys := t.keys }
       t = { moved with link := moved.link.reply code .ok [] }) ∧
      t.touch = s.touch ∧ t.pedals = s.pedals ∧ t.output = s.output ∧ t.bulk = s.bulk ∧ t.edit = s.edit ∧
      t.flash = s.flash ∧ t.clock = s.clock := by
  have hrest := noteKeyboard_rest (keyboardClear s) (c.withKeys ks)
  have hmoved : (noteKeyboard (keyboardClear s) (c.withKeys ks)).withLink
      ((noteKeyboard (keyboardClear s) (c.withKeys ks)).link.reply code .ok []) = t := ht.symm
  have hanswered : t.link.Answered code .ok [] := by
    rw [ht]
    exact Link.reply_answered ..
  generalize hv : noteKeyboard (keyboardClear s) (c.withKeys ks) = v at hrest hmoved
  have field {α : Type} (f : State → α) (hf : ∀ s r l, f ((s.withRail r).withLink l) = f s) :
      f t = f (c.withKeys ks) := by
    rw [← hmoved, ← hrest, hf]
    exact hf v v.rail _
  have hkeys : t.keys = ks := field State.keys fun _ _ _ => rfl
  refine ⟨hkeys, hanswered, ⟨field State.engine fun _ _ _ => rfl, field State.store fun _ _ _ => rfl,
      field State.recorder fun _ _ _ => rfl, field State.router fun _ _ _ => rfl, field State.guide fun _ _ _ => rfl,
      field State.player fun _ _ _ => rfl, field State.choices fun _ _ _ => rfl⟩, ?_,
    (field State.touch fun _ _ _ => rfl).trans hc.touch, (field State.pedals fun _ _ _ => rfl).trans hc.pedals,
    (field State.output fun _ _ _ => rfl).trans hc.output, (field State.bulk fun _ _ _ => rfl).trans hc.bulk,
    (field State.edit fun _ _ _ => rfl).trans hc.edit, (field State.flash fun _ _ _ => rfl).trans hc.flash,
    (field State.clock fun _ _ _ => rfl).trans hc.clock⟩
  intro moved
  have he : moved = v := (congrArg (fun x => noteKeyboard (keyboardClear s) { c with keys := x }) hkeys).trans hv
  rw [he]
  exact hmoved.symm

/-- The keys of a range that were down, and their NOTE_OFFs (R6, R7). -/
theorem released_range (s : State) (lo hi : Nat) : released ((keysIn lo hi).filter fun k => (s.keys.get k).isDown) s =
    ((List.finRange 88).filter fun k => lo ≤ k.val ∧ k.val ≤ hi ∧
      ((s.keys.get k).state = .struck ∨ (s.keys.get k).state = .rearmed ∨
        (s.keys.get k).state = .repDescent)).foldl
      (fun u k => routeEvent ⟨.live, s.clock.us, .noteOff k false⟩ u) s := by
  unfold released keysIn
  rw [List.filter_filter]
  congr 1
  refine List.filter_congr fun k _ => ?_
  rw [Bool.eq_iff_iff, Bool.and_eq_true, isDown_iff, decide_eq_true_eq, decide_eq_true_eq]
  tauto

theorem pairOk_iff (p : CalPair) :
    pairOk p = true ↔ p.rest.toNat ≤ 4095 ∧ p.bottom.toNat ≤ 4095 ∧ p.rest.toNat + 256 ≤ p.bottom.toNat :=
  decide_eq_true_iff

theorem any_capture_iff (s : State) (lo hi : Nat) :
    ((keysIn lo hi).any fun k => decide ((s.keys.get k).state = .capture)) = true ↔
      ∃ k : Key, lo ≤ k.val ∧ k.val ≤ hi ∧ (s.keys.get k).state = .capture := by
  simp only [List.any_eq_true, mem_keysIn, decide_eq_true_eq, and_assoc]

/-- The record of a key after LOAD_CAL with a pair (R6). -/
def loadPair (p : CalPair) (k : KeyRecord) : KeyRecord := k.loaded p.rest.toNat p.bottom.toNat

/-- LOAD_CAL taken (R6). -/
theorem cmdLoadCal_ok {s : State} {lo hi : Byte} {pairs : List CalPair} (h1 : lo.toNat ≤ hi.toNat) (h2 : hi.toNat ≤ 87)
    (h14 : pairs.length ≤ 14) (hlen : pairs.length = hi.toNat - lo.toNat + 1)
    (hp : ∀ p ∈ pairs, p.rest.toNat ≤ 4095 ∧ p.bottom.toNat ≤ 4095 ∧ p.rest.toNat + 256 ≤ p.bottom.toNat)
    (hs : ∀ k : Key, lo.toNat ≤ k.val → k.val ≤ hi.toNat → (s.keys.get k).state ≠ .capture) :
    cmdLoadCal lo hi pairs s = answer 0x10#8 .ok (noteKeyboard (keyboardClear s)
      ((released ((keysIn lo.toNat hi.toNat).filter fun k => (s.keys.get k).isDown) s).withKeys
        (replaced loadPair ((keysIn lo.toNat hi.toNat).zip pairs) s.keys))) := by
  have hlength : calLengthOk lo hi pairs.length = true := by
    simp only [calLengthOk, Bool.and_eq_true, Bool.or_eq_true, decide_eq_true_eq, beq_iff_eq]
    exact ⟨by omega, .inr hlen⟩
  have hrange : rangeOk lo hi = true := rangeOk_iff.2 ⟨h1, h2⟩
  have hpairs : pairs.all pairOk = true := List.all_eq_true.2 fun p hm => (pairOk_iff p).2 (hp p hm)
  have hcap : ((keysIn lo.toNat hi.toNat).any fun k => decide ((s.keys.get k).state = .capture)) = false := by
    refine Bool.eq_false_of_not_eq_true fun h => ?_
    obtain ⟨k, hlo, hhi, hk⟩ := (any_capture_iff s _ _).1 h
    exact hs k hlo hhi hk
  have hfst : ((keysIn lo.toNat hi.toNat).zip pairs).map Prod.fst = keysIn lo.toNat hi.toNat :=
    List.map_fst_zip (by rw [keysIn_length h2]; omega)
  have hall := recalibrate_all loadPair (l := (keysIn lo.toNat hi.toNat).zip pairs)
    (by rw [hfst]; exact keysIn_nodup _ _) s
  rw [hfst] at hall
  unfold cmdLoadCal
  rw [hlength, hrange, hpairs]
  dsimp only
  rw [if_neg (by decide), if_neg (by decide), hcap, if_neg Bool.false_ne_true]
  exact congrArg (fun u => answer 0x10#8 .ok (noteKeyboard (keyboardClear s) u)) hall

/-- The length of a LOAD_CAL frame fits its range, when that is one (R182). -/
theorem calLengthOk_of {lo hi : Byte} {n : Nat} (h1 : 1 ≤ n) (h14 : n ≤ 14)
    (h : lo.toNat ≤ hi.toNat → hi.toNat ≤ 87 → n = hi.toNat - lo.toNat + 1) : calLengthOk lo hi n = true := by
  simp only [calLengthOk, Bool.and_eq_true, Bool.or_eq_true, Bool.not_eq_true', decide_eq_true_eq,
    decide_eq_false_iff_not, beq_iff_eq]
  exact ⟨⟨h1, h14⟩, (Decidable.em _).symm.imp_right fun hr => h hr.1 hr.2⟩

/-- What makes LOAD_CAL refuse its values (R5, R6). -/
theorem loadCal_values (lo hi : Byte) (pairs : List CalPair) :
    (!rangeOk lo hi || !pairs.all pairOk) = true ↔ 87 < hi.toNat ∨ hi.toNat < lo.toNat ∨
      ∃ p ∈ pairs, 4095 < p.rest.toNat ∨ 4095 < p.bottom.toNat ∨ p.bottom.toNat < p.rest.toNat + 256 := by
  have hpairs : (∃ p ∈ pairs, 4095 < p.rest.toNat ∨ 4095 < p.bottom.toNat ∨ p.bottom.toNat < p.rest.toNat + 256) ↔
      ¬pairs.all pairOk = true := by
    rw [List.all_eq_true, not_forall]
    simp only [pairOk_iff, not_forall, exists_prop]
    exact exists_congr fun p => and_congr_right fun _ => by omega
  have hrange : (87 < hi.toNat ∨ hi.toNat < lo.toNat) ↔ ¬rangeOk lo hi = true := by
    rw [rangeOk_iff]
    omega
  rw [← or_assoc, hrange, hpairs, Bool.or_eq_true, Bool.not_eq_true', Bool.not_eq_true', Bool.not_eq_true,
    Bool.not_eq_true]

/-- LOAD_CAL refused for a key in CAPTURE (R6). -/
theorem cmdLoadCal_busy {s : State} {lo hi : Byte} {pairs : List CalPair} (hl : calLengthOk lo hi pairs.length = true)
    (hv : ¬(!rangeOk lo hi || !pairs.all pairOk) = true)
    (hs : ∃ k : Key, lo.toNat ≤ k.val ∧ k.val ≤ hi.toNat ∧ (s.keys.get k).state = .capture) :
    cmdLoadCal lo hi pairs s = answer 0x10#8 .badState s := by
  unfold cmdLoadCal
  rw [hl, if_neg (by decide), if_neg hv]
  exact if_pos ((any_capture_iff s _ _).2 hs)

theorem cmdLoadCal_bad {s : State} {lo hi : Byte} {pairs : List CalPair} (hl : calLengthOk lo hi pairs.length = true)
    (hv : (!rangeOk lo hi || !pairs.all pairOk) = true) :
    cmdLoadCal lo hi pairs s = answer 0x10#8 .badValue s := by
  unfold cmdLoadCal
  rw [hl, if_neg (by decide), if_pos hv]

/-- CAL_START taken (R7). -/
theorem cmdCalStart_ok {s : State} {lo hi : Byte} (h1 : lo.toNat ≤ hi.toNat) (h2 : hi.toNat ≤ 87) :
    cmdCalStart lo hi s = answer 0x11#8 .ok (noteKeyboard (keyboardClear s)
      ((released ((keysIn lo.toNat hi.toNat).filter fun k => (s.keys.get k).isDown) s).withKeys
        (replaced (fun (_ : Unit) k => k.captureStart) ((keysIn lo.toNat hi.toNat).map fun k => (k, ())) s.keys))) := by
  have hfst : ((keysIn lo.toNat hi.toNat).map fun k => (k, ())).map Prod.fst = keysIn lo.toNat hi.toNat := by
    rw [List.map_map]
    exact List.map_id _
  have hall := recalibrate_all (fun (_ : Unit) k => k.captureStart) (l := (keysIn lo.toNat hi.toNat).map fun k => (k, ()))
    (by rw [hfst]; exact keysIn_nodup _ _) s
  rw [hfst, List.foldl_map] at hall
  have hrange : rangeOk lo hi = true := rangeOk_iff.2 ⟨h1, h2⟩
  unfold cmdCalStart
  rw [hrange, if_neg (by decide)]
  exact congrArg (fun u => answer 0x11#8 .ok (noteKeyboard (keyboardClear s) u)) hall

/-! ### CAL_END -/

theorem withKey_all (f : KeyRecord → KeyRecord) (l : List Key) (s : State) :
    l.foldl (fun s k => s.withKey k (f (s.keys.get k))) s =
      s.withKeys (replaced (fun (_ : Unit) k => f k) (l.map fun k => (k, ())) s.keys) := by
  induction l generalizing s with
  | nil => rfl
  | cons k l ih => exact ih _

theorem capturingKeys_nodup (s : State) : (capturingKeys s).Nodup := (List.nodup_finRange 88).filter _

theorem mem_capturingKeys {s : State} {k : Key} : k ∈ capturingKeys s ↔ (s.keys.get k).state = .capture := by
  simp [capturingKeys]

/-- A capturing key succeeds at CAL_END (R9). -/
def KeyRecord.captured (k : KeyRecord) : Prop :=
  256 ≤ k.capMax - k.capMin ∧ 256 ≤ k.capMax - k.capMin - 2 * ((k.capMax - k.capMin) / 64)

theorem judgeCapture_ok {k : KeyRecord} (h : k.captured) : judgeCapture k =
    (true, { k with
      rest := k.capMin + (k.capMax - k.capMin) / 64, bottom := k.capMax - (k.capMax - k.capMin) / 64
      calibrated := true, state := .arming }.redepth) := if_pos h

theorem judgeCapture_failed {k : KeyRecord} (h : ¬k.captured) : judgeCapture k =
    (false, { k with rest := 0, bottom := 0, calibrated := false, lastDepth := 0, state := .offline }) := if_neg h

theorem judgeCapture_fst (k : KeyRecord) : (judgeCapture k).1 = true ↔ k.captured := by
  by_cases h : k.captured
  · rw [judgeCapture_ok h]
    exact ⟨fun _ => h, fun _ => rfl⟩
  · rw [judgeCapture_failed h]
    exact ⟨fun he => absurd he Bool.false_ne_true, fun hk => absurd hk h⟩

/-- The keys that fail at CAL_END (R9). -/
def failedKeys (s : State) : List Key := (capturingKeys s).filter fun k => !(judgeCapture (s.keys.get k)).1

/-- The data of CAL_END's reply (R9). -/
def calEndData (s : State) : List Byte :=
  b8 ((capturingKeys s).length - (failedKeys s).length) :: b8 (failedKeys s).length ::
    keySetBytes ((failedKeys s).foldl KeySet.add KeySet.none)

theorem cmdCalEnd_ok {s : State} (h : ∃ k : Key, (s.keys.get k).state = .capture) : cmdCalEnd s =
    answerData 0x12#8 (calEndData s) (noteKeyboard (keyboardClear s) (s.withKeys
      (replaced (fun (_ : Unit) k => (judgeCapture k).2) ((capturingKeys s).map fun k => (k, ())) s.keys))) := by
  obtain ⟨k, hk⟩ := h
  have hne : (capturingKeys s).isEmpty = false := by
    rw [List.isEmpty_eq_false_iff]
    exact List.ne_nil_of_mem (mem_capturingKeys.2 hk)
  unfold cmdCalEnd
  dsimp only
  rw [hne, if_neg Bool.false_ne_true]
  exact congrArg (fun u => answerData 0x12#8 (calEndData s) (noteKeyboard (keyboardClear s) u))
    (withKey_all (fun k => (judgeCapture k).2) (capturingKeys s) s)

theorem cmdCalEnd_bad {s : State} (h : ∀ k : Key, (s.keys.get k).state ≠ .capture) :
    cmdCalEnd s = answer 0x12#8 .badState s := by
  have he : (capturingKeys s).isEmpty = true := by
    rw [List.isEmpty_iff, List.eq_nil_iff_forall_not_mem]
    exact fun k hk => h k (mem_capturingKeys.1 hk)
  unfold cmdCalEnd
  dsimp only
  rw [he, if_pos rfl]

/-! ### The bytes of a key set (section 11.6) -/

/-- A number added up from its bits. -/
def sumBits (g : Nat → Bool) (n : Nat) : Nat := (List.range n).foldl (fun acc j => if g j then acc + 2 ^ j else acc) 0

theorem sumBits_succ (g : Nat → Bool) (n : Nat) :
    sumBits g (n + 1) = if g n then sumBits g n + 2 ^ n else sumBits g n := by
  rw [sumBits, List.range_succ, List.foldl_append]
  rfl

theorem sumBits_spec (g : Nat → Bool) (n : Nat) :
    sumBits g n < 2 ^ n ∧ ∀ j, (sumBits g n).testBit j = (decide (j < n) && g j) := by
  induction n with
  | zero => exact ⟨Nat.one_pos, fun j => by simp [sumBits]⟩
  | succ n ih =>
    obtain ⟨hlt, hbits⟩ := ih
    rw [sumBits_succ]
    have hpow : 2 ^ (n + 1) = 2 ^ n + 2 ^ n := by rw [pow_succ]; omega
    cases hg : g n with
    | false =>
      rw [if_neg Bool.false_ne_true]
      refine ⟨by omega, fun j => ?_⟩
      rw [hbits]
      by_cases hj : j = n
      · rw [hj, hg, Bool.and_false, Bool.and_false]
      · rw [show decide (j < n + 1) = decide (j < n) from decide_eq_decide.2 (by omega)]
    | true =>
      rw [if_pos rfl, Nat.add_comm]
      refine ⟨by omega, fun j => ?_⟩
      rcases Nat.lt_trichotomy j n with hj | rfl | hj
      · rw [Nat.testBit_two_pow_add_gt hj, hbits, decide_eq_true hj, decide_eq_true (Nat.lt_succ_of_lt hj)]
      · rw [Nat.testBit_two_pow_add_eq, Nat.testBit_lt_two_pow hlt, decide_eq_true (Nat.lt_succ_self j), hg]
        rfl
      · rw [Nat.testBit_lt_two_pow, decide_eq_false (by omega), Bool.false_and]
        calc 2 ^ n + sumBits g n < 2 ^ (n + 1) := by omega
          _ ≤ 2 ^ j := Nat.pow_le_pow_right (by decide) hj

theorem keySetBytes_length (ks : KeySet) : (keySetBytes ks).length = 11 := by
  rw [keySetBytes, List.length_map, List.length_range]

theorem keySetBytes_bit (ks : KeySet) (k : Key) :
    ((keySetBytes ks).getD (k.val / 8) 0#8).getLsbD (k.val % 8) = ks.mem k := by
  have hk := k.isLt
  have hbyte : (keySetBytes ks).getD (k.val / 8) 0#8 = b8 (sumBits (fun j => vgetD ks (8 * (k.val / 8) + j) false) 8) := by
    rw [List.getD_eq_getElem?_getD, keySetBytes, List.getElem?_map, List.getElem?_range (by omega)]
    rfl
  have hplace : 8 * (k.val / 8) + k.val % 8 = k.val := Nat.div_add_mod ..
  rw [hbyte, b8, BitVec.getLsbD_ofNat, decide_eq_true (Nat.mod_lt _ (by decide)), Bool.true_and,
    (sumBits_spec _ 8).2, decide_eq_true (Nat.mod_lt _ (by decide)), Bool.true_and, hplace]
  exact vgetD_get ks k false

theorem mem_foldl_add (l : List Key) (ks : KeySet) (k : Key) :
    (l.foldl KeySet.add ks).mem k = true ↔ k ∈ l ∨ ks.mem k = true := by
  induction l generalizing ks with
  | nil => simp
  | cons j l ih =>
    rw [List.foldl_cons, ih, mem_add, Bool.or_eq_true, decide_eq_true_eq, List.mem_cons]
    constructor
    · rintro (h | h | h)
      · exact .inl (.inr h)
      · exact .inl (.inl h.symm)
      · exact .inr h
    · rintro ((h | h) | h)
      · exact .inr (.inl h.symm)
      · exact .inl h
      · exact .inr (.inr h)

theorem mem_failedKeys {s : State} {k : Key} :
    k ∈ failedKeys s ↔ (s.keys.get k).state = .capture ∧ ¬(s.keys.get k).captured := by
  rw [failedKeys, List.mem_filter, mem_capturingKeys, ← judgeCapture_fst, Bool.not_eq_true', Bool.not_eq_true]

theorem failedKeys_length (s : State) : (failedKeys s).length =
    (List.finRange 88).countP fun k => decide ((s.keys.get k).state = .capture ∧ ¬(judgeCapture (s.keys.get k)).1 = true) := by
  rw [failedKeys, capturingKeys, List.filter_filter, ← List.countP_eq_length_filter]
  refine List.countP_congr fun k _ => ?_
  simp [and_comm]

theorem acceptedKeys_length (s : State) : (capturingKeys s).length - (failedKeys s).length =
    (List.finRange 88).countP fun k => decide ((s.keys.get k).state = .capture ∧ (judgeCapture (s.keys.get k)).1 = true) := by
  have hsplit := List.length_eq_countP_add_countP (fun k => (judgeCapture (s.keys.get k)).1) (l := capturingKeys s)
  have hfailed : (failedKeys s).length = (capturingKeys s).countP fun k => decide ¬(judgeCapture (s.keys.get k)).1 = true := by
    rw [failedKeys, ← List.countP_eq_length_filter]
    refine List.countP_congr fun k _ => ?_
    simp
  have haccepted : ((capturingKeys s).countP fun k => (judgeCapture (s.keys.get k)).1) =
      (List.finRange 88).countP fun k =>
        decide ((s.keys.get k).state = .capture ∧ (judgeCapture (s.keys.get k)).1 = true) := by
    rw [capturingKeys, List.countP_filter]
    refine List.countP_congr fun k _ => ?_
    simp [and_comm]
  omega

/-- A capturing key's record after CAL_END (R9). -/
theorem judgeCapture_snd (k : KeyRecord) : (judgeCapture k).2 =
    if 256 ≤ k.capMax - k.capMin ∧ 256 ≤ k.capMax - k.capMin - 2 * ((k.capMax - k.capMin) / 64) then
      { k with
        rest := k.capMin + (k.capMax - k.capMin) / 64, bottom := k.capMax - (k.capMax - k.capMin) / 64
        calibrated := true, state := .arming }.redepth
    else { k with rest := 0, bottom := 0, calibrated := false, lastDepth := 0, state := .offline } := by
  by_cases h : k.captured
  · rw [judgeCapture_ok h]
    exact (if_pos h).symm
  · rw [judgeCapture_failed h]
    exact (if_neg h).symm

/-- CAL_END's step (R9). -/
theorem calEnd_spec {s : State} (h : s.Ready) (hs : ∃ k : Key, (s.keys.get k).state = .capture) :
    ∃ t, exec .calEnd s = .next t ∧ t.link.Answered 0x12#8 .ok (calEndData s) ∧
      t.keys = replaced (fun (_ : Unit) k => (judgeCapture k).2) ((capturingKeys s).map fun k => (k, ())) s.keys ∧
      (let moved := noteKeyboard (keyboardClear s) { s with keys := t.keys }
       t = { moved with link := moved.link.reply 0x12#8 .ok (calEndData s) }) ∧
      { t with keys := s.keys, rail := s.rail, link := s.link } = s := by
  have hc := cmdCalEnd_ok hs
  generalize replaced (fun (_ : Unit) k => (judgeCapture k).2) ((capturingKeys s).map fun k => (k, ())) s.keys = ks at hc ⊢
  have hrest := noteKeyboard_rest (keyboardClear s) (s.withKeys ks)
  obtain ⟨t, ht⟩ : ∃ t, t = (noteKeyboard (keyboardClear s) (s.withKeys ks)).withLink
    ((noteKeyboard (keyboardClear s) (s.withKeys ks)).link.reply 0x12#8 .ok (calEndData s)) := ⟨_, rfl⟩
  have hkeys : t.keys = ks := by
    rw [ht]
    exact (congrArg State.keys hrest :)
  refine ⟨t, exec_answerData h rfl rfl hc ht.symm, ?_, hkeys, ?_, ?_⟩
  · rw [ht]
    exact Link.reply_answered ..
  · intro moved
    have he : moved = noteKeyboard (keyboardClear s) (s.withKeys ks) :=
      congrArg (fun x => noteKeyboard (keyboardClear s) { s with keys := x }) hkeys
    rw [he]
    exact ht
  · rw [ht]
    exact congrArg (fun u => u.withKeys s.keys) hrest

/-- Settles O30: the records are those of `replaced`, and the NOTE_OFFs commute with them (`Passive.routeEvent`). -/
theorem calibrationCommandsReplaceRecords : Obligations.CalibrationCommandsReplaceRecords := by
  unfold Obligations.CalibrationCommandsReplaceRecords
  intro closed
  have hclosed (s : State) (lo hi : Byte) :
      released ((keysIn lo.toNat hi.toNat).filter fun k => (s.keys.get k).isDown) s = closed s lo hi :=
    released_range s _ _
  refine ⟨fun s lo hi pairs h h1 h2 h14 hlen hp hs => ?_, fun s lo hi pairs h hpos h14 hlen => ?_,
    fun s lo hi h hbad => ?_, fun s lo hi h h1 h2 => ?_, fun s h hs => ?_, fun s h hs => ?_⟩
  · have hw : (Instr.loadCal lo hi pairs).wf = true := decide_eq_true h14
    obtain ⟨t, ht⟩ : ∃ t, t = (noteKeyboard (keyboardClear s) ((closed s lo hi).withKeys
        (replaced loadPair ((keysIn lo.toNat hi.toNat).zip pairs) s.keys))).withLink
      ((noteKeyboard (keyboardClear s) ((closed s lo hi).withKeys
        (replaced loadPair ((keysIn lo.toNat hi.toNat).zip pairs) s.keys))).link.reply 0x10#8 .ok []) := ⟨_, rfl⟩
    have hc := cmdLoadCal_ok h1 h2 h14 hlen hp hs
    rw [hclosed] at hc
    have hframe := released_frame ((keysIn lo.toNat hi.toNat).filter fun k => (s.keys.get k).isDown) s
    rw [hclosed] at hframe
    obtain ⟨hkeys, hanswered, hrouted, hmoved, hrest⟩ := recalibrated_spec hframe ht
    have hfst : ((keysIn lo.toNat hi.toNat).zip pairs).map Prod.fst = keysIn lo.toNat hi.toNat :=
      List.map_fst_zip (by rw [keysIn_length h2]; omega)
    refine ⟨t, exec_answer h rfl hw hc ht.symm, hanswered, fun k p hlo hk => ?_, fun k hk => ?_, hrouted, hmoved, hrest⟩
    · have hlt : k.val - lo.toNat < pairs.length := (List.getElem?_eq_some_iff.1 hk).1
      have hhi : k.val ≤ hi.toNat := by
        clear hmoved hrest hrouted hkeys hclosed
        omega
      have hmem : (k, p) ∈ (keysIn lo.toNat hi.toNat).zip pairs :=
        List.mem_of_getElem? (List.getElem?_zip_eq_some.2 ⟨keysIn_getElem? h2 hlo hhi, hk⟩)
      rw [hkeys, replaced_get_of_mem loadPair (by rw [hfst]; exact keysIn_nodup _ _) hmem]
      rfl
    · rw [hkeys, replaced_get_of_not_mem]
      rw [hfst, mem_keysIn]
      omega
  · intro bad
    have hw : (Instr.loadCal lo hi pairs).wf = true := decide_eq_true h14
    have hl := calLengthOk_of hpos h14 hlen
    exact ⟨fun hbad => exec_answer h rfl hw (cmdLoadCal_bad hl ((loadCal_values lo hi pairs).2 hbad)) rfl,
      fun hgood hcap =>
        exec_answer h rfl hw (cmdLoadCal_busy hl (fun hv => hgood ((loadCal_values lo hi pairs).1 hv)) hcap) rfl⟩
  · have hc : cmdCalStart lo hi s = answer 0x11#8 .badValue s := by
      have hrange : rangeOk lo hi = false := Bool.eq_false_of_not_eq_true fun hr => by
        have hr := rangeOk_iff.1 hr
        omega
      rw [cmdCalStart, hrange]
      rfl
    exact exec_answer h rfl rfl hc rfl
  · obtain ⟨t, ht⟩ : ∃ t, t = (noteKeyboard (keyboardClear s) ((closed s lo hi).withKeys (replaced
        (fun (_ : Unit) k => k.captureStart) ((keysIn lo.toNat hi.toNat).map fun k => (k, ())) s.keys))).withLink
      ((noteKeyboard (keyboardClear s) ((closed s lo hi).withKeys (replaced (fun (_ : Unit) k => k.captureStart)
        ((keysIn lo.toNat hi.toNat).map fun k => (k, ())) s.keys))).link.reply 0x11#8 .ok []) := ⟨_, rfl⟩
    have hc := cmdCalStart_ok (s := s) h1 h2
    rw [hclosed] at hc
    have hframe := released_frame ((keysIn lo.toNat hi.toNat).filter fun k => (s.keys.get k).isDown) s
    rw [hclosed] at hframe
    obtain ⟨hkeys, hanswered, hrouted, hmoved, hrest⟩ := recalibrated_spec hframe ht
    have hfst : ((keysIn lo.toNat hi.toNat).map fun k => (k, ())).map Prod.fst = keysIn lo.toNat hi.toNat := by
      rw [List.map_map]
      exact List.map_id _
    refine ⟨t, exec_answer h rfl rfl hc ht.symm, hanswered, fun k => ?_, hrouted, hmoved, hrest⟩
    rw [hkeys]
    split
    · next hk =>
      exact replaced_get_of_mem _ (by rw [hfst]; exact keysIn_nodup _ _)
        (List.mem_map_of_mem (f := fun k => (k, ())) (mem_keysIn.2 hk)) _
    · next hk =>
      rw [replaced_get_of_not_mem]
      rw [hfst, mem_keysIn]
      exact hk
  · intro good
    have hgood (k : Key) : (judgeCapture (s.keys.get k)).1 = true ↔ good k := judgeCapture_fst (s.keys.get k)
    obtain ⟨t, hexec, hanswered, hkeys, hmoved, hrest⟩ := calEnd_spec h hs
    have hfst : ((capturingKeys s).map fun k => (k, ())).map Prod.fst = capturingKeys s := by
      rw [List.map_map]
      exact List.map_id _
    refine ⟨t, calEndData s, hexec, hanswered, ?_, ?_, ?_, fun k => ?_, fun k => ?_, hmoved, hrest⟩
    · rw [calEndData, List.length_cons, List.length_cons, keySetBytes_length]
    · refine congrArg (fun n => some (b8 n)) ((acceptedKeys_length s).trans ?_)
      simp only [hgood]
    · refine congrArg (fun n => some (b8 n)) ((failedKeys_length s).trans ?_)
      simp only [hgood]
    · have hbyte : (calEndData s).getD (2 + k.val / 8) 0#8 =
          (keySetBytes ((failedKeys s).foldl KeySet.add KeySet.none)).getD (k.val / 8) 0#8 := by
        rw [Nat.add_comm]
        rfl
      rw [hbyte, keySetBytes_bit, mem_foldl_add, mem_failedKeys, mem_none]
      simp only [Bool.false_eq_true, or_false]
      rfl
    · intro r
      rw [hkeys]
      split
      · next hk => exact replaced_get_of_not_mem _ (by rw [hfst, mem_capturingKeys]; exact hk) _
      · next hk =>
        have hmem := mem_capturingKeys.2 (not_not.1 hk)
        rw [replaced_get_of_mem (fun (_ : Unit) k => (judgeCapture k).2) (by rw [hfst]; exact capturingKeys_nodup s)
          (List.mem_map_of_mem (f := fun k => (k, ())) hmem), judgeCapture_snd]
        rfl
  · exact exec_answer h rfl rfl (cmdCalEnd_bad hs) rfl

end Sys2Proof.Machine
end

section
/-! PROOFS. The Voice Engine (chapter 5): the events that start no voice, LOAD_MAP and SOUND_OFF. -/

namespace Sys2Proof.Machine

open Sys2Proof.StepRows

/-! ### Components of vectors -/

theorem vmap_get {α β : Type} {n : Nat} (f : α → β) (v : Vector α n) (i : Fin n) : (vmap f v).get i = f (v.get i) := by
  simp [vmap, Vector.get_eq_getElem]

theorem set_get {α : Type} {n : Nat} (v : Vector α n) (j i : Fin n) (x : α) :
    (v.set j.val x j.isLt).get i = if i = j then x else v.get i := by
  rw [Vector.get_eq_getElem, Vector.getElem_set]
  by_cases h : i = j
  · rw [if_pos h, if_pos (congrArg Fin.val h).symm]
  · rw [if_neg h, if_neg fun he => h (Fin.ext he.symm)]
    rfl

/-! ### The events that start no voice -/

theorem release_eq (src : Source) (k : Key) :
    PendingStart.release src k = fun p => if p.source = src ∧ p.key = k then { p with released := true } else p := rfl

/-- Settles O41: each event at the engine, by its equation. -/
theorem engineEventsActOnTheirSource : Obligations.EngineEventsActOnTheirSource := by
  intro s src stamp k v flag x put run mark
  have hput (y : SourceState) : put y = s.engine.withSource src y := by cases src <;> rfl
  refine ⟨fun hmap => ?_, ?_, ⟨fun i => ?_, ?_⟩, ?_, rfl, ?_, ?_⟩
  · have hnote : s.engine.noteOn src k v = ([], s.engine.markDown src k) := by
      have hmap' : (s.engine.markDown src k).map.get k = none := by
        rw [Engine.markDown, Engine.withSource_map, hmap]
      unfold Engine.noteOn
      dsimp only
      rw [hmap']
    show engineEvent ⟨src, stamp, .noteOn k v flag⟩ s = _
    rw [hput, engineEvent]
    dsimp only
    rw [hnote]
    rfl
  · rw [hput]
    rfl
  · show (vmap (Voice.release src k) (s.engine.withSource src _).voices).get i = _
    rw [vmap_get, Engine.withSource_voices]
    rfl
  · rw [hput]
    show s.withEngine (s.engine.noteOff src k) = _
    cases src <;> rfl
  · rw [hput]
    rfl
  · show s.withEngine (s.engine.sostOn src) = _
    unfold Engine.sostOn
    dsimp only
    rw [hput]
    split
    · rfl
    · rfl
  · rw [hput]
    rfl

/-! ### The checks of LOAD_MAP (R76) -/

/-- The upper velocities ascend from above `low` and end at 127. -/
theorem uppersOk_iff (low : Nat) (l : List Layer) : uppersOk low l = true ↔
    (low :: l.map Layer.upper).Pairwise (· < ·) ∧ (low :: l.map Layer.upper).getLast? = some 127 := by
  induction l generalizing low with
  | nil => simp [uppersOk]
  | cons x l ih =>
    have hlast : (low :: (x :: l).map Layer.upper).getLast? = (x.upper :: l.map Layer.upper).getLast? :=
      List.getLast?_cons_cons
    rw [uppersOk, Bool.and_eq_true, decide_eq_true_eq, ih, hlast, List.map_cons, List.pairwise_cons (a := low)]
    constructor
    · rintro ⟨⟨hlow, -⟩, hasc, hend⟩
      refine ⟨⟨fun y hy => ?_, hasc⟩, hend⟩
      rcases List.mem_cons.1 hy with rfl | hy
      · exact hlow
      · exact hlow.trans ((List.pairwise_cons.1 hasc).1 y hy)
    · rintro ⟨⟨hlow, hasc⟩, hend⟩
      refine ⟨⟨hlow _ List.mem_cons_self, ?_⟩, hasc, hend⟩
      rcases List.mem_cons.1 (List.mem_of_getLast? hend) with h | h
      · exact h.symm.le
      · exact ((List.pairwise_cons.1 hasc).1 _ h).le

theorem layerOk_iff (a : LayerArg) : layerOk (layerOf a) = true ↔
    a.start.toNat % 2 = 0 ∧ 1 ≤ a.length.toNat ∧ a.length.toNat ≤ 4194304 ∧
      a.loopStart.toNat + a.loopLength.toNat ≤ a.length.toNat ∧ a.start.toNat + 2 * a.length.toNat ≤ 16777216 := by
  rw [layerOk, Bool.and_eq_true, Bool.and_eq_true, Bool.and_eq_true, beq_iff_eq, decide_eq_true_eq, decide_eq_true_eq,
    decide_eq_true_eq, and_assoc, and_assoc, and_assoc]
  rfl

/-- The checks of LOAD_MAP that apply with one layer or more, on the frame's operands (R76). -/
theorem mapOk_iff (rh rd : W16) (pan : Byte) (ls : List LayerArg) (hne : ls ≠ []) :
    mapOk rh.toNat rd.toNat pan.toNat (ls.map layerOf) = true ↔
      List.Pairwise (· < ·) (ls.map fun a => a.upper.toNat) ∧ (ls.map fun a => a.upper.toNat).getLast? = some 127 ∧
        (∀ a ∈ ls, 1 ≤ a.upper.toNat ∧ a.start.toNat % 2 = 0 ∧ 1 ≤ a.length.toNat ∧ a.length.toNat ≤ 4194304 ∧
          a.loopStart.toNat + a.loopLength.toNat ≤ a.length.toNat ∧ a.start.toNat + 2 * a.length.toNat ≤ 16777216) ∧
        rd.toNat ≤ rh.toNat ∧ pan.toNat ≤ 128 := by
  have huppers : (ls.map layerOf).map Layer.upper = ls.map fun a => a.upper.toNat := by
    rw [List.map_map]
    rfl
  have hlast : (0 :: ls.map fun a => a.upper.toNat).getLast? = (ls.map fun a => a.upper.toNat).getLast? := by
    cases ls with
    | nil => exact absurd rfl hne
    | cons a ls => exact List.getLast?_cons_cons
  have hrh := rh.isLt
  rw [mapOk, Bool.and_eq_true, Bool.and_eq_true, Bool.and_eq_true, uppersOk_iff, huppers, hlast, List.pairwise_cons,
    List.all_eq_true, decide_eq_true_eq, decide_eq_true_eq]
  simp only [List.forall_mem_map, layerOk_iff]
  constructor
  · rintro ⟨⟨⟨⟨⟨hpos, hasc⟩, hend⟩, hlayers⟩, -, hdamp⟩, hpan⟩
    exact ⟨hasc, hend, fun a ha => ⟨hpos a ha, hlayers a ha⟩, hdamp, hpan⟩
  · rintro ⟨hasc, hend, hall, hdamp, hpan⟩
    exact ⟨⟨⟨⟨⟨fun a ha => (hall a ha).1, hasc⟩, hend⟩, fun a ha => (hall a ha).2⟩, by omega, hdamp⟩, hpan⟩

/-! ### LOAD_MAP and SOUND_OFF -/

theorem cut_eq (v : Voice) :
    v.cut = if v.state = .held ∨ v.state = .released then { v with state := .cut, cutPos := 0 } else v := by
  unfold Voice.cut
  cases h : v.state <;> simp

theorem ls_ne_nil {n : Byte} {ls : List LayerArg} (hn : mapLengthOk n ls.length = true) (h4 : n.toNat ≤ 4)
    (h0 : n ≠ 0#8) : ls ≠ [] := by
  rintro rfl
  have hn' : n.toNat ≠ 0 := fun he => h0 (BitVec.eq_of_toNat_eq he)
  simp only [mapLengthOk, Bool.and_eq_true, Bool.or_eq_true, decide_eq_true_eq, beq_iff_eq, List.length_nil] at hn
  omega

/-- What LOAD_MAP installs (R77): no entry with no layer. -/
def loadedMap (n : Byte) (rh rd : W16) (pan : Byte) (ls : List LayerArg) : Option MapEntry :=
  if n = 0#8 then none else some ⟨ls.map layerOf, rh.toNat, rd.toNat, pan.toNat⟩

theorem cmdLoadMap_ok {s : State} {key n : Byte} {rh rd : W16} {pan : Byte} {ls : List LayerArg} {k : Key}
    (hl : mapLengthOk n ls.length = true) (hk : k.val = key.toNat) (h4 : n.toNat ≤ 4)
    (hok : n = 0#8 ∨ mapOk rh.toNat rd.toNat pan.toNat (ls.map layerOf) = true) :
    cmdLoadMap key n rh rd pan ls s =
      answer 0x24#8 .ok (s.withEngine (s.engine.installMap k (loadedMap n rh rd pan ls))) := by
  unfold cmdLoadMap loadedMap
  rw [hl, keyOf_eq_some hk, if_neg (by decide)]
  dsimp only
  rw [if_neg (by omega)]
  by_cases h0 : n = 0#8
  · rw [if_pos h0, if_pos h0]
  · rw [if_neg h0, if_neg h0, if_pos (hok.resolve_left h0)]

theorem cmdLoadMap_bad {s : State} {key n : Byte} {rh rd : W16} {pan : Byte} {ls : List LayerArg}
    (hl : mapLengthOk n ls.length = true) (hbad : 87 < key.toNat ∨ 4 < n.toNat ∨
      ¬(n = 0#8 ∨ mapOk rh.toNat rd.toNat pan.toNat (ls.map layerOf) = true)) :
    cmdLoadMap key n rh rd pan ls s = answer 0x24#8 .badValue s := by
  unfold cmdLoadMap
  rw [hl, if_neg (by decide)]
  split
  · rfl
  · next k hk =>
    dsimp only
    split
    · rfl
    · next h4 =>
      have hkey : key.toNat ≤ 87 := by
        by_contra hc
        rw [keyOf_eq_none (by omega)] at hk
        cases hk
      have hno := (hbad.resolve_left (by omega)).resolve_left h4
      rw [if_neg fun h => hno (.inl h), if_neg fun h => hno (.inr h)]

/-- Settles O42: the checks by `mapOk_iff`, the voices by `cut_eq`. -/
theorem mapAndSoundOffCutVoices : Obligations.MapAndSoundOffCutVoices := by
  refine ⟨fun s key n rh rd pan ls h hl => ?_, fun s h => ?_⟩
  · intro ok
    have hw : (Instr.loadMap key n rh rd pan ls).wf = true := by
      simp only [mapLengthOk, Bool.and_eq_true, decide_eq_true_eq] at hl
      exact decide_eq_true hl.1
    have hok (h4 : n.toNat ≤ 4) : ok ↔ (n = 0#8 ∨ mapOk rh.toNat rd.toNat pan.toNat (ls.map layerOf) = true) := by
      by_cases h0 : n = 0#8
      · exact ⟨fun _ => .inl h0, fun _ => .inl h0⟩
      · rw [mapOk_iff rh rd pan ls (ls_ne_nil hl h4 h0)]
    refine ⟨fun hbad => ?_, fun k hk h4 hgood => ?_⟩
    · refine exec_answer h rfl hw (cmdLoadMap_bad hl ?_) rfl
      by_cases h4 : n.toNat ≤ 4
      · exact hbad.imp_right fun hb => hb.imp_right fun hno hyes => hno ((hok h4).2 hyes)
      · exact .inr (.inl (by omega))
    · refine ⟨_, exec_answer h rfl hw (cmdLoadMap_ok hl hk h4 ((hok h4).1 hgood)) rfl, fun i => ?_, fun j => ?_, rfl⟩
      · show (vmap (fun v : Voice => if v.key = k then v.cut else v) s.engine.voices).get i = _
        rw [vmap_get]
        dsimp only
        rw [cut_eq]
        by_cases hkey : (s.engine.voices.get i).key = k
        · simp only [hkey, true_and, if_true]
        · rw [if_neg hkey, if_neg fun he => hkey he.1]
      · show (s.engine.map.set k.val (loadedMap n rh rd pan ls) k.isLt).get j = _
        rw [set_get]
        rfl
  · refine ⟨_, exec_answer h rfl rfl rfl rfl, fun i => ?_, rfl⟩
    show (vmap Voice.cut s.engine.voices).get i = _
    rw [vmap_get, cut_eq]

end Sys2Proof.Machine
end

section
/-! PROOFS. Voices that become free together (R85), and control blocks (sections 6.1, 6.2). -/

namespace Sys2Proof.Machine

open Sys2Proof.StepRows

/-! ### Freed voices take the waiting notes -/

theorem vset_get {α : Type} {n : Nat} (v : Vector α n) (j i : Fin n) (x : α) :
    (vset v j.val x).get i = if i = j then x else v.get i := by
  have h : vset v j.val x = v.set j.val x j.isLt := Vector.toList_inj.1 (by simp [Vector.toList_set])
  rw [h, set_get]

/-- A waiting entry on a voice (R85). -/
def PendingStart.voice (p : PendingStart) (map : Vector (Option MapEntry) 88) (seq : W32) : Voice :=
  { state := if p.released then .released else .held, key := p.key, source := p.source
    sound := (map.get p.key).bind fun m => m.sound p.layer, pos := 0
    level := p.velocity * p.velocity * 65535 / 16129, seq := seq, cutPos := 0 }

/-- Voices that take the waiting entries in an order. -/
def Engine.takeAll (e : Engine) (order : List (Fin 96)) : Engine := order.foldl (fun e i => e.takePending i.val) e

theorem takePending_nil {e : Engine} (h : e.queue = []) (i : Nat) : e.takePending i = e := by
  rw [Engine.takePending, h]

theorem takePending_cons {e : Engine} {p : PendingStart} {rest : List PendingStart} (h : e.queue = p :: rest) (i : Fin 96) :
    e.takePending i.val = { e with
      voices := vset e.voices i.val (p.voice e.map e.nextSeq), queue := rest, nextSeq := e.nextSeq + 1#32 } := by
  rw [Engine.takePending, h]
  rfl

theorem takeAll_nil {e : Engine} (h : e.queue = []) (order : List (Fin 96)) : e.takeAll order = e := by
  induction order with
  | nil => rfl
  | cons i order ih =>
    show (e.takePending i.val).takeAll order = e
    rw [takePending_nil h, ih]

theorem takeAll_cons {e : Engine} {p : PendingStart} {rest : List PendingStart} (h : e.queue = p :: rest) (i : Fin 96)
    (order : List (Fin 96)) : e.takeAll (i :: order) = ({ e with
      voices := vset e.voices i.val (p.voice e.map e.nextSeq), queue := rest
      nextSeq := e.nextSeq + 1#32 } : Engine).takeAll order := by
  rw [← takePending_cons h i]
  rfl

/-- The voices that an order leaves as they were: those not in it, or too late for an entry. -/
theorem takeAll_other (order : List (Fin 96)) (e : Engine) (i : Fin 96)
    (h : ∀ n, order[n]? = some i → e.queue.length ≤ n) : (e.takeAll order).voices.get i = e.voices.get i := by
  induction order generalizing e with
  | nil => rfl
  | cons j order ih =>
    cases hq : e.queue with
    | nil => rw [takeAll_nil hq]
    | cons p rest =>
      have hne : i ≠ j := by
        rintro rfl
        have h0 := h 0 rfl
        rw [hq] at h0
        cases h0
      rw [takeAll_cons hq, ih]
      · exact (vset_get _ _ _ _).trans (if_neg hne)
      · intro n hn
        have hlater := h (n + 1) (by rwa [List.getElem?_cons_succ])
        rw [hq, List.length_cons] at hlater
        exact Nat.le_of_succ_le_succ hlater

/-- Each voice of an order takes the entry of its place. -/
theorem takeAll_taken {order : List (Fin 96)} (hnodup : order.Nodup) (e : Engine) {n : Nat} {i : Fin 96} {p : PendingStart}
    (hi : order[n]? = some i) (hp : e.queue[n]? = some p) :
    (e.takeAll order).voices.get i = p.voice e.map (e.nextSeq + BitVec.ofNat 32 n) := by
  induction order generalizing e n with
  | nil => cases hi
  | cons j order ih =>
    cases hq : e.queue with
    | nil =>
      rw [hq] at hp
      cases hp
    | cons q rest =>
      rw [hq] at hp
      rw [takeAll_cons hq]
      obtain ⟨hfresh, hnodup⟩ := List.nodup_cons.1 hnodup
      cases n with
      | zero =>
        obtain rfl : j = i := Option.some.inj hi
        obtain rfl : q = p := Option.some.inj hp
        rw [takeAll_other order _ j fun n hn => absurd (List.mem_of_getElem? hn) hfresh]
        refine (vset_get _ _ _ _).trans ((if_pos rfl).trans ?_)
        rw [BitVec.add_zero]
      | succ n =>
        rw [List.getElem?_cons_succ] at hi hp
        rw [ih hnodup _ hi hp]
        congr 1
        show e.nextSeq + 1#32 + BitVec.ofNat 32 n = e.nextSeq + BitVec.ofNat 32 (n + 1)
        rw [BitVec.add_assoc, BitVec.ofNat_add, BitVec.add_comm 1#32]

theorem takeAll_rest (order : List (Fin 96)) (e : Engine) : e.takeAll order = { e with
    voices := (e.takeAll order).voices, queue := e.queue.drop order.length
    nextSeq := e.nextSeq + BitVec.ofNat 32 (min order.length e.queue.length) } := by
  induction order generalizing e with
  | nil =>
    show e = { e with nextSeq := e.nextSeq + BitVec.ofNat 32 (min 0 e.queue.length) }
    rw [Nat.zero_min, BitVec.add_zero]
  | cons i order ih =>
    cases hq : e.queue with
    | nil =>
      rw [takeAll_nil hq]
      show e = { e with queue := List.drop (i :: order).length [], nextSeq := e.nextSeq + BitVec.ofNat 32 (min _ 0) }
      rw [Nat.min_zero, BitVec.add_zero, List.drop_nil, ← hq]
    | cons p rest =>
      rw [takeAll_cons hq]
      refine (ih _).trans ?_
      have hseq : e.nextSeq + 1#32 + BitVec.ofNat 32 (min order.length rest.length) =
          e.nextSeq + BitVec.ofNat 32 (min (i :: order).length (p :: rest).length) := by
        rw [List.length_cons, List.length_cons, Nat.add_min_add_right, BitVec.add_assoc, BitVec.ofNat_add,
          BitVec.add_comm 1#32]
      rw [hseq]
      rfl

theorem offerFreed_nil (n : Nat) (freed : List Nat) {s : State} (h : s.engine.queue = []) : offerFreed n freed s = s := by
  match n, freed with
  | 0, _ => rw [offerFreed]
  | _ + 1, [] => rw [offerFreed]
  | _ + 1, [i] => rw [offerFreed, takePending_nil h, State.withEngine]
  | n + 1, i :: j :: rest => simp only [offerFreed, h, List.isEmpty_nil, if_true]

theorem offerFreed_cons {n : Nat} {i j : Nat} {rest : List Nat} {s : State} (h : s.engine.queue ≠ []) :
    offerFreed (n + 1) (i :: j :: rest) s =
      offerFreed n ((i :: j :: rest).eraseIdx (drawChoice (i :: j :: rest).length s).1)
        ((drawChoice (i :: j :: rest).length s).2.withEngine
          (s.engine.takePending ((i :: j :: rest).getD (drawChoice (i :: j :: rest).length s).1 0))) := by
  rw [offerFreed]
  · rw [if_neg (by rwa [List.isEmpty_iff])]
    rfl
  · nofun
  · nofun

/-- Freed voices take the waiting notes in some order, and nothing else changes but the counter of open choices
(R85). -/
theorem offerFreed_spec (n : Nat) (freed : List Nat) (s : State) (hlen : freed.length = n) (hlt : ∀ i ∈ freed, i < 96) :
    ∃ order : List (Fin 96), (order.map Fin.val).Perm freed ∧ offerFreed n freed s =
      { s with engine := s.engine.takeAll order, choices := (offerFreed n freed s).choices } := by
  induction n generalizing freed s with
  | zero =>
    obtain rfl := List.length_eq_zero_iff.1 hlen
    exact ⟨[], .nil, rfl⟩
  | succ n ih =>
    match freed with
    | [i] => exact ⟨[⟨i, hlt i (List.mem_singleton_self i)⟩], .refl _, rfl⟩
    | i :: j :: rest =>
      by_cases hq : s.engine.queue = []
      · refine ⟨(i :: j :: rest).pmap Fin.mk hlt, ?_, ?_⟩
        · rw [List.map_pmap, List.pmap_eq_map, List.map_id'' fun _ => rfl]
        · rw [offerFreed_nil _ _ hq, takeAll_nil hq]
      · obtain ⟨c, hc⟩ : ∃ c, c = (drawChoice (i :: j :: rest).length s).1 := ⟨_, rfl⟩
        have hclt : c < (i :: j :: rest).length := hc ▸ Nat.mod_lt _ (Nat.succ_pos _)
        have hmem : (i :: j :: rest)[c] ∈ i :: j :: rest := List.getElem_mem hclt
        rw [offerFreed_cons hq, ← hc, List.getD_eq_getElem _ _ hclt]
        obtain ⟨order, hperm, heq⟩ := ih ((i :: j :: rest).eraseIdx c)
          ((drawChoice (i :: j :: rest).length s).2.withEngine (s.engine.takePending (i :: j :: rest)[c]))
          (by rw [List.length_eraseIdx_of_lt hclt, hlen, Nat.add_sub_cancel])
          fun k hk => hlt k (List.mem_of_mem_eraseIdx hk)
        refine ⟨⟨_, hlt _ hmem⟩ :: order, ?_, heq⟩
        exact (hperm.cons _).trans (List.getElem_cons_eraseIdx_perm hclt)

/-! ### Replacing the voices -/

theorem mem_freedVoices {before after : Vector Voice 96} {i : Nat} : i ∈ freedVoices before after ↔
    ∃ h : i < 96, (before.get ⟨i, h⟩).state ≠ .free ∧ (after.get ⟨i, h⟩).state = .free := by
  rw [freedVoices, List.mem_filter, List.mem_range, Bool.and_eq_true, decide_eq_true_iff, decide_eq_true_iff]
  constructor
  · rintro ⟨h, hb, ha⟩
    exact ⟨h, vgetD_get before ⟨i, h⟩ {} ▸ hb, vgetD_get after ⟨i, h⟩ {} ▸ ha⟩
  · rintro ⟨h, hb, ha⟩
    exact ⟨h, (vgetD_get before ⟨i, h⟩ {}).symm ▸ hb, (vgetD_get after ⟨i, h⟩ {}).symm ▸ ha⟩

theorem freedVoices_nodup (before after : Vector Voice 96) : (freedVoices before after).Nodup :=
  List.nodup_range.filter _

/-- With nothing waiting the voices are replaced, and that is all. -/
theorem storeVoices_nil (after : Vector Voice 96) {s : State} (h : s.engine.queue = []) :
    storeVoices after s = s.withEngine { s.engine with voices := after } := offerFreed_nil _ _ h

theorem freedVoices_eq_singleton {before after : Vector Voice 96} {i : Fin 96} (hb : (before.get i).state ≠ .free)
    (ha : (after.get i).state = .free) (hother : ∀ j, j ≠ i → (after.get j).state = .free → (before.get j).state = .free) :
    freedVoices before after = [i.val] := by
  refine List.perm_singleton.1 ((List.perm_ext_iff_of_nodup (freedVoices_nodup _ _) (List.nodup_singleton _)).2 fun j => ?_)
  rw [mem_freedVoices, List.mem_singleton]
  constructor
  · rintro ⟨hj, hbefore, hafter⟩
    by_contra hne
    exact hbefore (hother _ (fun h => hne (congrArg Fin.val h)) hafter)
  · rintro rfl
    exact ⟨i.isLt, hb, ha⟩

/-- One freed voice takes the oldest waiting note, and no choice is open. -/
theorem storeVoices_single {after : Vector Voice 96} {s : State} {i : Fin 96} (hb : (s.engine.voices.get i).state ≠ .free)
    (ha : (after.get i).state = .free)
    (hother : ∀ j, j ≠ i → (after.get j).state = .free → (s.engine.voices.get j).state = .free) :
    storeVoices after s = s.withEngine (({ s.engine with voices := after } : Engine).takePending i.val) := by
  rw [storeVoices, freedVoices_eq_singleton hb ha hother]
  rfl

/-- Voices freed together take the waiting notes in some order (R85). -/
theorem storeVoices_spec (after : Vector Voice 96) (s : State) :
    ∃ order : List (Fin 96), order.Nodup ∧
      (∀ i, i ∈ order ↔ (s.engine.voices.get i).state ≠ .free ∧ (after.get i).state = .free) ∧
      storeVoices after s = { s with
        engine := ({ s.engine with voices := after } : Engine).takeAll order, choices := (storeVoices after s).choices } := by
  obtain ⟨order, hperm, heq⟩ := offerFreed_spec _ (freedVoices s.engine.voices after)
    (s.withEngine { s.engine with voices := after }) rfl fun i hi => (mem_freedVoices.1 hi).1
  refine ⟨order, ?_, fun i => ?_, heq⟩
  · exact (List.nodup_map_iff Fin.val_injective).1 (hperm.nodup_iff.2 (freedVoices_nodup _ _))
  · have hmem : i ∈ order ↔ i.val ∈ freedVoices s.engine.voices after := by
      rw [← hperm.mem_iff, List.mem_map_of_injective Fin.val_injective]
    rw [hmem, mem_freedVoices]
    exact ⟨fun ⟨_, hb, ha⟩ => ⟨hb, ha⟩, fun ⟨hb, ha⟩ => ⟨i.isLt, hb, ha⟩⟩

theorem storeVoices_freedTake (after : Vector Voice 96) (s : State) :
    s.engine.FreedTake (storeVoices after s).engine after.get := by
  obtain ⟨order, hnodup, hmem, heq⟩ := storeVoices_spec after s
  have heng : (storeVoices after s).engine = ({ s.engine with voices := after } : Engine).takeAll order :=
    (congrArg State.engine heq :)
  refine ⟨order, hnodup, hmem, fun n i p hi hp => ?_, fun i hi => ?_, ?_⟩
  · rw [heng]
    exact takeAll_taken hnodup { s.engine with voices := after } hi hp
  · rw [heng]
    exact takeAll_other order { s.engine with voices := after } i hi
  · rw [heng]
    exact takeAll_rest order _

theorem storeVoices_rest (after : Vector Voice 96) (s : State) : storeVoices after s =
    { s with engine := (storeVoices after s).engine, choices := (storeVoices after s).choices } := by
  obtain ⟨order, -, -, heq⟩ := storeVoices_spec after s
  have heng : (storeVoices after s).engine = ({ s.engine with voices := after } : Engine).takeAll order :=
    (congrArg State.engine heq :)
  rw [heng]
  exact heq

theorem storeVoices_link (after : Vector Voice 96) (s : State) : (storeVoices after s).link = s.link :=
  (congrArg State.link (storeVoices_rest after s) :)

theorem storeVoices_running (after : Vector Voice 96) (s : State) : (storeVoices after s).running = s.running :=
  (congrArg State.running (storeVoices_rest after s) :)

theorem storeVoices_output (after : Vector Voice 96) (s : State) : (storeVoices after s).output = s.output :=
  (congrArg State.output (storeVoices_rest after s) :)

/-! ### The row of the control block -/

/-- A steady part whose event leaves the link alone has nothing more to do. -/
theorem exec_quiet_event {i : Instr} {f : State → State} (hi : ∀ s, rowAct i s = whenRunning f s) {s : State} (h : s.Steady)
    (hr : (f s).running = s.running) (hl : (f s).link = s.link) : exec i s = .next (f s) := by
  rw [exec_event hi h hr (congrArg Link.core hl), chooseTx_of_settled (hl ▸ h.2)]

theorem takeControlBlock_eq (s : State) : takeControlBlock s =
    storeVoices (vmap s.engine.blockVoice s.engine.voices) (s.withOutput { s.output with blockCount := 0 }) := rfl

theorem exec_controlBlock {s : State} (h : s.Steady) : exec .controlBlock s = .next (takeBlockEvent s) := by
  refine exec_quiet_event (fun _ => rfl) h ?_ ?_
  · rw [takeBlockEvent, apply_ite State.running, takeControlBlock_eq, storeVoices_running]
    exact ite_self _
  · rw [takeBlockEvent, apply_ite State.link, takeControlBlock_eq, storeVoices_link]
    exact ite_self _

/-- Settles O43: every voice decays by itself, and the voices freed together take the waiting notes in some order. -/
theorem controlBlockDecaysVoices : Obligations.ControlBlockDecaysVoices := by
  refine ⟨fun s hs hn => ?_, ?_⟩
  · rw [exec_controlBlock hs, takeBlockEvent, if_neg (by omega)]
  · intro s hs hn after
    obtain ⟨u, hu⟩ : ∃ u, u = s.withOutput { s.output with blockCount := 0 } := ⟨_, rfl⟩
    obtain ⟨v, hv⟩ : ∃ v, v = vmap s.engine.blockVoice s.engine.voices := ⟨_, rfl⟩
    have hexec : exec .controlBlock s = .next (storeVoices v u) := by
      rw [exec_controlBlock hs, takeBlockEvent, if_pos hn, takeControlBlock_eq, hu, hv]
    have heng : u.engine = s.engine := hu ▸ rfl
    have hafter : after = v.get := by
      funext i
      rw [hv]
      refine Eq.trans ?_ (vmap_get _ _ _).symm
      simp only [after, Engine.blockVoice, Engine.decay]
      obtain ⟨state, key, src, sound, pos, level, seq, cutPos⟩ := s.engine.voices.get i
      cases state <;> cases sound <;> rfl
    clear_value after
    subst hafter
    refine ⟨fun hq => ?_, fun i p rest hq hb ha hother => ?_, ?_⟩
    · refine ⟨_, hexec, fun i => ?_, ?_⟩
      · rw [storeVoices_nil v (heng ▸ hq)]
        rfl
      · rw [storeVoices_nil v (heng ▸ hq), hu]
        rfl
    · rw [← heng] at hb hother
      have hstore := storeVoices_single hb ha hother
      rw [takePending_cons (by exact heng ▸ hq)] at hstore
      refine ⟨_, hexec, fun j hj => ?_, ?_, ?_⟩
      · rw [hstore]
        exact (vset_get _ _ _ _).trans (if_neg hj)
      · rw [hstore, heng]
        exact (vset_get _ _ _ _).trans (if_pos rfl)
      · rw [hstore, hu]
        rfl
    · refine ⟨_, hexec, heng ▸ storeVoices_freedTake v u, ?_⟩
      have hrest := storeVoices_rest v u
      generalize storeVoices v u = t at hrest ⊢
      rw [hrest, hu]
      rfl

end Sys2Proof.Machine
end

section
/-! PROOFS. The Output Stage (chapter 6): the sums, the gain, the serial audio frame, the voices' advance. -/

namespace Sys2Proof.Machine

open Sys2Proof.StepRows

/-! ### The mix -/

theorem physicallyRetracted_iff (r : Rail) : r.physicallyRetracted = true ↔
    r.state = .retracted ∨ (r.state = .waitClear ∧ r.origin = some .retracted) := by
  rw [Rail.physicallyRetracted]
  cases r.state <;> simp

theorem foldl_pair_sum {α : Type} (f g : α → Int) (l : List α) (a b : Int) :
    l.foldl (fun acc x => (acc.1 + f x, acc.2 + g x)) (a, b) = (a + (l.map f).sum, b + (l.map g).sum) := by
  induction l generalizing a b with
  | nil => simp
  | cons x l ih =>
    rw [List.foldl_cons, ih, List.map_cons, List.map_cons, List.sum_cons, List.sum_cons, Int.add_assoc, Int.add_assoc]

theorem mixSums_eq (s : State) : mixSums s =
    ((s.engine.voices.toList.map fun v => (v.terms s.flash).1).sum,
      (s.engine.voices.toList.map fun v => (v.terms s.flash).2).sum) := by
  refine (foldl_pair_sum (fun v : Voice => (v.terms s.flash).1) (fun v => (v.terms s.flash).2) _ 0 0).trans ?_
  rw [Int.zero_add, Int.zero_add]

theorem terms_of_free (m : List Host.Cell) {y : Voice} (h : y.state = .free) : y.terms m = (0, 0) := by
  obtain ⟨state, key, src, sound, pos, level, seq, cutPos⟩ := y
  cases h
  rfl

theorem terms_of_silent (m : List Host.Cell) {y : Voice} (h : y.sound = none) : y.terms m = (0, 0) := by
  obtain ⟨state, key, src, sound, pos, level, seq, cutPos⟩ := y
  cases h
  cases state <;> rfl

theorem terms_of_sounding (m : List Host.Cell) {y : Voice} {p : Sound} (h : y.state ≠ .free) (hp : y.sound = some p) :
    y.terms m = (y.contribution m p * (128 - p.pan : Int), y.contribution m p * (p.pan : Int)) := by
  obtain ⟨state, key, src, sound, pos, level, seq, cutPos⟩ := y
  cases hp
  cases state
  · exact absurd rfl h
  all_goals rfl

theorem channel_zero (vol : Nat) (sum : Int) : channel vol 0 sum = 0 := by
  simp [channel]

/-! ### The serial audio frame -/

theorem slotBits_getLsbD (x : Int) (i : Nat) :
    (slotBits x).getLsbD i = if i < 8 then false else (BitVec.ofInt 24 x).getLsbD (i - 8) := by
  rw [slotBits, BitVec.getLsbD_append]
  split
  · exact BitVec.getLsbD_zero
  · rfl

theorem dataLine_audioFrame (l r : Int) (period : Fin 64) : dataLine (audioFrame l r) period =
    if period.val < 24 then (BitVec.ofInt 24 l).getLsbD (23 - period.val)
    else if period.val < 32 then false
    else if period.val < 56 then (BitVec.ofInt 24 r).getLsbD (55 - period.val)
    else false := by
  have hperiod := period.isLt
  rw [dataLine, BitVec.getMsbD_eq_getLsbD, decide_eq_true hperiod, Bool.true_and, audioFrame, BitVec.getLsbD_append,
    slotBits_getLsbD, slotBits_getLsbD]
  by_cases h24 : period.val < 24
  · rw [if_pos h24, if_neg (by omega), if_neg (by omega), (by omega : 64 - 1 - period.val - 32 - 8 = 23 - period.val)]
  by_cases h32 : period.val < 32
  · rw [if_neg h24, if_pos h32, if_neg (by omega), if_pos (by omega)]
  by_cases h56 : period.val < 56
  · rw [if_neg h24, if_neg h32, if_pos h56, if_pos (by omega), if_neg (by omega),
      (by omega : 64 - 1 - period.val - 8 = 55 - period.val)]
  · rw [if_neg h24, if_neg h32, if_neg h56, if_pos (by omega), if_pos (by omega)]

/-! ### The voices' advance -/

theorem advance_of_free {v : Voice} (h : v.state = .free) : v.advance = v := by
  obtain ⟨state, key, src, sound, pos, level, seq, cutPos⟩ := v
  cases h
  rfl

theorem advance_of_silent {v : Voice} (h : v.sound = none) : v.advance = v := by
  obtain ⟨state, key, src, sound, pos, level, seq, cutPos⟩ := v
  cases h
  cases state <;> rfl

theorem nextPos_pos (p : Sound) (pos : Nat) : (nextPos p pos).1 =
    if p.loopLength ≠ 0 ∧ pos + 1 = p.loopStart + p.loopLength then p.loopStart else pos + 1 := by
  rw [nextPos]
  by_cases h : p.loopLength ≠ 0
  · rw [if_pos h]
    simp only [h, ne_eq, not_false_iff, true_and]
  · rw [if_neg h, if_neg fun hand => h hand.1]

theorem nextPos_ended (p : Sound) (pos : Nat) : (nextPos p pos).2 = true ↔ p.loopLength = 0 ∧ pos + 1 = p.length := by
  rw [nextPos]
  by_cases h : p.loopLength = 0
  · rw [if_neg (not_not_intro h), decide_eq_true_iff]
    exact (and_iff_right h).symm
  · rw [if_pos h]
    exact ⟨nofun, fun hand => absurd hand.1 h⟩

theorem advance_of_sounding {v : Voice} {p : Sound} (h : v.state ≠ .free) (hp : v.sound = some p) : v.advance =
    { v with
      pos := (nextPos p v.pos).1
      cutPos := if v.state = .cut then v.cutPos + 1 else v.cutPos
      state := if (nextPos p v.pos).2 = true ∨ (v.state = .cut ∧ (if v.state = .cut then v.cutPos + 1 else v.cutPos) = 64)
        then .free else v.state } := by
  obtain ⟨state, key, src, sound, pos, level, seq, cutPos⟩ := v
  cases hp
  cases state
  · exact absurd rfl h
  all_goals rfl

/-! ### One output sample -/

/-- The Output Stage after a sample, before the voices advance. -/
def Output.sampled (o : Output) (holds : Bool) (sums : Int × Int) : Output :=
  { o with
    mute := muteStep holds o.mute
    left := channel o.vol (muteStep holds o.mute) sums.1
    right := channel o.vol (muteStep holds o.mute) sums.2
    frame := audioFrame (channel o.vol (muteStep holds o.mute) sums.1) (channel o.vol (muteStep holds o.mute) sums.2)
    blockCount := o.blockCount + 1 }

theorem formOutputSample_eq (s : State) : formOutputSample s =
    storeVoices (vmap Voice.advance s.engine.voices) (s.withOutput (s.output.sampled (muteCondition s) (mixSums s))) := rfl

theorem exec_outputSample {s : State} (h : s.Steady) : exec .outputSample s = .next (takeOutputSample s) := by
  refine exec_quiet_event (fun _ => rfl) h ?_ ?_
  · rw [takeOutputSample, formOutputSample_eq, storeVoices_running]
    show State.running (ite _ _ _) = _
    rw [apply_ite State.running, takeControlBlock_eq, storeVoices_running]
    exact ite_self _
  · rw [takeOutputSample, formOutputSample_eq, storeVoices_link]
    show State.link (ite _ _ _) = _
    rw [apply_ite State.link, takeControlBlock_eq, storeVoices_link]
    exact ite_self _

theorem takeOutputSample_early {s : State} (h : s.output.blockCount < 48) : takeOutputSample s = formOutputSample s := by
  rw [takeOutputSample, if_neg (by omega)]

/-- Settles O44: an output sample is its sums, its gain and its frame, and the advance of every voice by itself. -/
theorem outputSampleMixesVoices : Obligations.OutputSampleMixesVoices := by
  refine ⟨physicallyRetracted_iff, ?_, ?_, ?_⟩
  · intro s hs hn amp left right m out l r after
    obtain ⟨u, hu⟩ : ∃ u, u = s.withOutput (s.output.sampled (muteCondition s) (mixSums s)) := ⟨_, rfl⟩
    obtain ⟨v, hv⟩ : ∃ v, v = vmap Voice.advance s.engine.voices := ⟨_, rfl⟩
    have hexec : exec .outputSample s = .next (storeVoices v u) := by
      rw [exec_outputSample hs, takeOutputSample_early hn, formOutputSample_eq, hu, hv]
    have heng : u.engine = s.engine := hu ▸ rfl
    have hafter : after = v.get := by
      funext i
      rw [hv]
      refine Eq.trans ?_ (vmap_get _ _ _).symm
      simp only [after]
      generalize s.engine.voices.get i = y
      cases hp : y.sound with
      | none => exact (advance_of_silent hp).symm
      | some p =>
        by_cases hfree : y.state = .free
        · rw [advance_of_free hfree]
          exact if_pos hfree
        · rw [advance_of_sounding hfree hp, nextPos_pos]
          refine (if_neg hfree).trans ?_
          simp only [nextPos_ended, hp]
    have hmute : m = muteStep (muteCondition s) s.output.mute := by
      simp only [m, muteStep, muteCondition, Bool.and_eq_true, Bool.not_eq_true']
    have hout : ∀ sum, out sum = channel s.output.vol m sum := fun sum => by
      simp only [out, channel, saturate, min_comm]
    have hterms : ∀ y, y.terms s.flash = (left y, right y) := fun y => by
      simp only [left, right]
      cases hp : y.sound with
      | none => exact terms_of_silent _ hp
      | some p =>
        by_cases hfree : y.state = .free
        · simp only [terms_of_free _ hfree, if_pos hfree]
        · simp only [terms_of_sounding _ hfree hp, if_neg hfree]
          rfl
    have hl : l = channel s.output.vol m (mixSums s).1 := by
      simp only [mixSums_eq, hterms, ← hout, l]
    have hr : r = channel s.output.vol m (mixSums s).2 := by
      simp only [mixSums_eq, hterms, ← hout, r]
    clear_value after l r
    clear hterms hout out left right amp
    clear_value m
    subst hafter hmute hl hr
    have hout := storeVoices_output v u
    have hrest := storeVoices_rest v u
    have htake := storeVoices_freedTake v u
    have hnil := storeVoices_nil (s := u) v
    generalize storeVoices v u = t at hexec hout hrest htake hnil
    rw [heng] at htake hnil
    have hframe : t.output.frame = audioFrame t.output.left t.output.right := by
      rw [hout, hu]
      rfl
    refine ⟨t, hexec, ?_, fun hm => ?_, fun hq => ⟨fun i => ?_, ?_⟩, htake, ?_, fun period => ⟨rfl, ?_⟩⟩
    · rw [hout, hu]
      rfl
    · rw [hout, hu]
      have hzero : ∀ sum, channel s.output.vol (muteStep (muteCondition s) s.output.mute) sum = 0 := fun sum => by
        rw [hm, channel_zero]
      exact ⟨hzero _, hzero _⟩
    · rw [hnil hq]
      rfl
    · rw [hnil hq, hu]
      rfl
    · rw [hrest, hu]
      rfl
    · rw [hframe, dataLine_audioFrame, hout, hu]
      rfl
  · intro s hs hn
    refine ⟨takeControlBlock s, ?_, ?_, ?_, ?_⟩
    · rw [exec_controlBlock hs, takeBlockEvent, if_pos hn]
    · rw [takeControlBlock_eq, storeVoices_output]
      exact Nat.succ_pos 47
    · rw [State.Steady, takeControlBlock_eq, storeVoices_running, storeVoices_link]
      exact hs
    · have hcount : (takeControlBlock s).output.blockCount < 48 := by
        rw [takeControlBlock_eq, storeVoices_output]
        exact Nat.succ_pos 47
      have hsteady : (takeControlBlock s).Steady := by
        rw [State.Steady, takeControlBlock_eq, storeVoices_running, storeVoices_link]
        exact hs
      rw [exec_outputSample hs, exec_outputSample hsteady, takeOutputSample_early hcount, takeOutputSample, if_pos hn]
  · intro s vol layer hs
    split
    next h =>
      have hc : cmdSetOutput vol layer s =
          answer 0x25#8 .ok (s.withOutput { s.output with vol := vol.toNat, layer := layer.getLsbD 0 }) := by
        rw [cmdSetOutput, switchOf_eq_some h.2]
        exact if_pos h.1
      exact exec_answer hs rfl rfl hc rfl
    next h =>
      have hc : cmdSetOutput vol layer s = answer 0x25#8 .badValue s := by
        rw [cmdSetOutput]
        by_cases hl : layer.toNat ≤ 1
        · rw [switchOf_eq_some hl]
          exact if_neg fun hvol => h ⟨hvol, hl⟩
        · rw [switchOf_eq_none (by omega)]
      exact exec_answer hs rfl rfl hc rfl

end Sys2Proof.Machine
end

section
/-! PROOFS. Starting a note (section 5.4): the limit of four for a key, the free voice, the steal, the wait. -/

namespace Sys2Proof.Machine

open Sys2Proof.StepRows

/-! ### The least measure of a list and of the voices -/

/-- The place with a measure below every other, the first of equals. -/
theorem leastIndex_eq_some {α : Type} {f : α → Option Nat} {l : List α} {i m : Nat} (hi : i < l.length)
    (hf : f l[i] = some m) (hleast : ∀ j (hj : j < l.length) n, f l[j] = some n → m < n ∨ (m = n ∧ i ≤ j)) :
    leastIndex f l = some (i, m) := by
  induction l generalizing i with
  | nil => cases hi
  | cons x xs ih =>
    cases i with
    | zero =>
      have hx : f x = some m := hf
      rw [leastIndex, hx]
      cases htail : leastIndex f xs with
      | none => rfl
      | some r =>
        obtain ⟨j, n⟩ := r
        obtain ⟨hj, hn⟩ := leastIndex_spec htail
        have hle : m ≤ n := (hleast (j + 1) (Nat.succ_lt_succ hj) n hn).elim Nat.le_of_lt fun h => h.1.le
        exact if_pos hle
    | succ i =>
      have htail : leastIndex f xs = some (i, m) := ih (Nat.lt_of_succ_lt_succ hi) hf fun j hj n hn =>
        (hleast (j + 1) (Nat.succ_lt_succ hj) n hn).imp_right fun h => ⟨h.1, Nat.le_of_succ_le_succ h.2⟩
      rw [leastIndex, htail]
      cases hx : f x with
      | none => rfl
      | some n =>
        have hlt : m < n := (hleast 0 (Nat.succ_pos _) n hx).resolve_right fun h => Nat.not_succ_le_zero _ h.2
        exact if_neg (Nat.not_le.2 hlt)

theorem leastIndex_eq_none_iff {α : Type} {f : α → Option Nat} {l : List α} :
    leastIndex f l = none ↔ ∀ x ∈ l, f x = none := by
  refine ⟨leastIndex_eq_none, fun h => Option.eq_none_iff_forall_not_mem.2 fun r hr => ?_⟩
  obtain ⟨hi, hf⟩ := leastIndex_spec (i := r.1) (m := r.2) hr
  cases (h _ (List.getElem_mem hi)).symm.trans hf

theorem toList_get {α : Type} {n : Nat} (v : Vector α n) {i : Nat} (h : i < v.toList.length) :
    v.toList[i] = v.get ⟨i, by rwa [Vector.length_toList] at h⟩ := by
  rw [Vector.getElem_toList, Vector.get_eq_getElem]

theorem leastVoice_eq {f : Voice → Option Nat} {vs : Vector Voice 96} {o : Fin 96} {m : Nat} (hf : f (vs.get o) = some m)
    (hleast : ∀ j n, f (vs.get j) = some n → m < n ∨ (m = n ∧ o ≤ j)) : leastIndex f vs.toList = some (o.val, m) := by
  refine leastIndex_eq_some (by rw [Vector.length_toList]; exact o.isLt) ?_ fun j hj n hn => ?_
  · rwa [toList_get]
  · rw [toList_get] at hn
    exact hleast ⟨j, _⟩ n hn

theorem leastVoice_none {f : Voice → Option Nat} {vs : Vector Voice 96} (h : ∀ j, f (vs.get j) = none) :
    leastIndex f vs.toList = none := by
  refine leastIndex_eq_none_iff.2 fun x hx => ?_
  obtain ⟨i, hi, rfl⟩ := List.getElem_of_mem hx
  rw [toList_get]
  exact h _

theorem freeVoice_eq {e : Engine} {i : Fin 96} (h : (e.voices.get i).state = .free)
    (hfirst : ∀ j : Fin 96, j < i → (e.voices.get j).state ≠ .free) : e.freeVoice = some i.val := by
  rw [Engine.freeVoice, leastVoice_eq (m := 0) (if_pos h)]
  · rfl
  · intro j n hn
    have hfree : (e.voices.get j).state = .free := by
      by_contra hne
      rw [if_neg hne] at hn
      cases hn
    rw [if_pos hfree] at hn
    exact .inr ⟨Option.some.inj hn, Fin.not_lt.1 fun hlt => hfirst j hlt hfree⟩

theorem freeVoice_none {e : Engine} (h : ∀ j, (e.voices.get j).state ≠ .free) : e.freeVoice = none := by
  rw [Engine.freeVoice, leastVoice_none fun j => if_neg (h j)]
  rfl

/-- The measure of a voice by a condition is there exactly when the condition holds. -/
theorem measure_some {p : Prop} [Decidable p] {a n : Nat} (h : (if p then some a else none) = some n) : p ∧ a = n := by
  by_cases hp : p
  · rw [if_pos hp] at h
    exact ⟨hp, Option.some.inj h⟩
  · rw [if_neg hp] at h
    cases h

theorem victim_released {e : Engine} {o : Fin 96} (h : (e.voices.get o).state = .released)
    (hleast : ∀ j : Fin 96, (e.voices.get j).state = .released → (e.voices.get o).level < (e.voices.get j).level ∨
      ((e.voices.get o).level = (e.voices.get j).level ∧ o ≤ j)) : e.victim = some o.val := by
  rw [Engine.victim, leastVoice_eq (m := (e.voices.get o).level) (if_pos h)]
  intro j n hn
  obtain ⟨hj, rfl⟩ := measure_some hn
  exact hleast j hj

theorem oldest_least {e : Engine} {p : Voice → Prop} [DecidablePred p] {o : Fin 96}
    (hold : ∀ j, j ≠ o → p (e.voices.get j) → e.age (e.voices.get o) < e.age (e.voices.get j)) (j : Fin 96) (n : Nat)
    (hn : (if p (e.voices.get j) then some (e.age (e.voices.get j)) else none) = some n) :
    e.age (e.voices.get o) < n ∨ (e.age (e.voices.get o) = n ∧ o ≤ j) := by
  obtain ⟨hj, rfl⟩ := measure_some hn
  by_cases h : j = o
  · subst h
    exact .inr ⟨rfl, le_refl _⟩
  · exact .inl (hold j h hj)

theorem victim_held {e : Engine} {o : Fin 96} (hnone : ∀ j, (e.voices.get j).state ≠ .released)
    (h : (e.voices.get o).state = .held)
    (hold : ∀ j, j ≠ o → (e.voices.get j).state = .held → e.age (e.voices.get o) < e.age (e.voices.get j)) :
    e.victim = some o.val := by
  rw [Engine.victim, leastVoice_none fun j => if_neg (hnone j)]
  show (leastIndex _ _).map Prod.fst = _
  rw [leastVoice_eq (if_pos h) (oldest_least (p := fun v => v.state = .held) hold)]
  rfl

theorem victim_none {e : Engine} (h : ∀ j, (e.voices.get j).state = .cut) : e.victim = none := by
  rw [Engine.victim, leastVoice_none fun j => if_neg (by rw [h j]; decide)]
  show (leastIndex _ _).map Prod.fst = _
  rw [leastVoice_none fun j => if_neg (by rw [h j]; decide)]
  rfl

theorem oldestOfKey_eq {e : Engine} {k : Key} {o : Fin 96}
    (h : ((e.voices.get o).state = .held ∨ (e.voices.get o).state = .released) ∧ (e.voices.get o).key = k)
    (hold : ∀ j, j ≠ o → ((e.voices.get j).state = .held ∨ (e.voices.get j).state = .released) ∧ (e.voices.get j).key = k →
      e.age (e.voices.get o) < e.age (e.voices.get j)) : e.oldestOfKey k = some o.val := by
  rw [Engine.oldestOfKey, leastVoice_eq (if_pos h)
    (oldest_least (p := fun v => (v.state = .held ∨ v.state = .released) ∧ v.key = k) hold)]
  rfl

/-! ### Cutting and starting one voice -/

theorem cutVoice_get (e : Engine) (o j : Fin 96) :
    (e.cutVoice o.val).voices.get j = if j = o then (e.voices.get o).cut else e.voices.get j := by
  refine (vset_get _ _ _ _).trans ?_
  rw [vgetD_get]

theorem startVoice_get (e : Engine) (i j : Fin 96) (k : Key) (src : Source) (v layer : Nat) (st : VoiceState) :
    (e.startVoice i.val k src v layer st).voices.get j = if j = i then
      { state := st, key := k, source := src, sound := (e.map.get k).bind fun m => m.sound layer
        pos := 0, level := v * v * 65535 / 16129, seq := e.nextSeq, cutPos := 0 } else e.voices.get j :=
  vset_get _ _ _ _

theorem cut_of_sounding {v : Voice} (h : v.state = .held ∨ v.state = .released) :
    v.cut = { v with state := .cut, cutPos := 0 } := by
  rw [Voice.cut]
  obtain h | h := h
  · rw [h]
  · rw [h]

/-! ### The limit of four for a key (R81) -/

theorem limitKey_below {e : Engine} {k : Key} (h : e.keyCount k < 4) : e.limitKey k = (false, e) := if_pos h

theorem limitKey_waiting {e : Engine} {k : Key} (h : 4 ≤ e.keyCount k) {a b : List PendingStart} {p : PendingStart}
    (hq : e.queue = a ++ p :: b) (hp : p.key = k) (ha : ∀ q ∈ a, q.key ≠ k) :
    e.limitKey k = (true, { e with queue := a ++ b }) := by
  have hany : (e.queue.any fun p => decide (p.key = k)) = true :=
    List.any_eq_true.2 ⟨p, hq ▸ List.mem_append_right _ List.mem_cons_self, decide_eq_true hp⟩
  have herase : (e.queue.eraseP fun p => decide (p.key = k)) = a ++ b := by
    rw [hq, List.eraseP_append_right _ fun q hq => by rw [decide_eq_true_iff]; exact ha q hq,
      List.eraseP_cons_of_pos (p := fun q : PendingStart => decide (q.key = k)) (decide_eq_true hp)]
  rw [Engine.limitKey, if_neg (Nat.not_lt.2 h), if_pos hany, herase]

theorem limitKey_oldest {e : Engine} {k : Key} (h : 4 ≤ e.keyCount k) (hq : ∀ q ∈ e.queue, q.key ≠ k) {o : Nat}
    (ho : e.oldestOfKey k = some o) : e.limitKey k = (true, e.cutVoice o) := by
  have hany : ¬(e.queue.any fun p => decide (p.key = k)) = true := fun hany => by
    obtain ⟨p, hp, hk⟩ := List.any_eq_true.1 hany
    exact hq p hp (of_decide_eq_true hk)
  rw [Engine.limitKey, if_neg (Nat.not_lt.2 h), if_neg hany, ho]

/-- What the limit can do. -/
theorem limitKey_cases (e : Engine) (k : Key) :
    (e.keyCount k < 4 ∧ e.limitKey k = (false, e)) ∨
    (4 ≤ e.keyCount k ∧ ∃ q, e.limitKey k = (true, { e with queue := q })) ∨
    (4 ≤ e.keyCount k ∧ ∃ o : Fin 96, ((e.voices.get o).state = .held ∨ (e.voices.get o).state = .released) ∧
      e.limitKey k = (true, e.cutVoice o.val)) := by
  by_cases h : e.keyCount k < 4
  · exact .inl ⟨h, limitKey_below h⟩
  by_cases hq : (e.queue.any fun p => decide (p.key = k)) = true
  · refine .inr (.inl ⟨Nat.not_lt.1 h, e.queue.eraseP fun p => decide (p.key = k), ?_⟩)
    rw [Engine.limitKey, if_neg h, if_pos hq]
  · cases ho : e.oldestOfKey k with
    | none =>
      have hzero : e.keyCount k = 0 := by
        rw [keyCount_eq, voiceCount_of_oldestOfKey ho, waitCount_eq_zero hq]
      omega
    | some o =>
      obtain ⟨hlt, hcounts⟩ := oldestOfKey_spec ho
      rw [toList_get, countsFor, decide_eq_true_iff] at hcounts
      refine .inr (.inr ⟨Nat.not_lt.1 h, ⟨o, by rwa [Vector.length_toList] at hlt⟩, hcounts.1, ?_⟩)
      rw [Engine.limitKey, if_neg h, if_neg hq, ho]

theorem limitKey_told {e : Engine} {k : Key} (h : 4 ≤ e.keyCount k) : (e.limitKey k).1 = true := by
  obtain ⟨hc, -⟩ | ⟨-, q, hl⟩ | ⟨-, o, -, hl⟩ := limitKey_cases e k
  · omega
  · rw [hl]
  · rw [hl]

theorem limitKey_rest (e : Engine) (k : Key) :
    (e.limitKey k).2 = { e with voices := (e.limitKey k).2.voices, queue := (e.limitKey k).2.queue } := by
  obtain ⟨-, hl⟩ | ⟨-, q, hl⟩ | ⟨-, o, -, hl⟩ := limitKey_cases e k
  · rw [hl]
  · rw [hl]
  · rw [hl]
    rfl

/-- The limit makes no voice FREE and takes none that is. -/
theorem limitKey_free (e : Engine) (k : Key) (j : Fin 96) :
    ((e.limitKey k).2.voices.get j).state = .free ↔ (e.voices.get j).state = .free := by
  obtain ⟨-, hl⟩ | ⟨-, q, hl⟩ | ⟨-, o, ho, hl⟩ := limitKey_cases e k
  · rw [hl]
  · rw [hl]
  · rw [hl, cutVoice_get]
    by_cases hj : j = o
    · rw [if_pos hj, cut_of_sounding ho, hj]
      refine ⟨nofun, fun h => ?_⟩
      rw [h] at ho
      simp at ho
    · rw [if_neg hj]

/-! ### The key's earlier sound released (R80) -/

/-- The engine after the key is marked down and its earlier sound released. -/
def Engine.pressed (e : Engine) (src : Source) (k : Key) : Engine := (e.markDown src k).releaseKey src k

theorem pressed_get (e : Engine) (src : Source) (k : Key) (i : Fin 96) :
    (e.pressed src k).voices.get i = (e.voices.get i).release src k := by
  refine (vmap_get _ _ _).trans ?_
  rw [Engine.markDown, Engine.withSource_voices]

theorem pressed_queue (e : Engine) (src : Source) (k : Key) :
    (e.pressed src k).queue = e.queue.map (PendingStart.release src k) := by
  cases src <;> rfl

theorem pressed_rest (e : Engine) (src : Source) (k : Key) : e.pressed src k =
    { e.withSource src { e.source src with down := (e.source src).down.set k.val true k.isLt } with
      voices := (e.pressed src k).voices, queue := (e.pressed src k).queue } := by
  cases src <;> rfl

theorem countsFor_release (src : Source) (j k : Key) (v : Voice) : countsFor k (v.release src j) = countsFor k v := by
  rw [Voice.release]
  split
  next h =>
    obtain ⟨state, key, source, sound, pos, level, seq, cutPos⟩ := v
    obtain ⟨rfl, -, -⟩ := h
    simp [countsFor]
  next => rfl

theorem pressed_keyCount (e : Engine) (src : Source) (k : Key) : (e.pressed src k).keyCount k =
    (e.voices.toList.filter fun x => (x.state = .held ∨ x.state = .released) ∧ x.key = k).length +
      (e.queue.filter fun p => p.key = k).length := by
  have hvoices : voiceCount k (e.pressed src k).voices = voiceCount k e.voices := by
    show voiceCount k (vmap (Voice.release src k) (e.markDown src k).voices) = _
    rw [voiceCount, vmap_toList, List.countP_map, Engine.markDown, Engine.withSource_voices]
    exact congrArg (List.countP · _) (funext fun v => countsFor_release src k k v)
  rw [keyCount_eq, hvoices, pressed_queue, waitCount_release, voiceCount, waitCount, List.countP_eq_length_filter,
    List.countP_eq_length_filter]
  rfl

theorem noteOn_mapped {e : Engine} {src : Source} {k : Key} (v : Nat) {m : MapEntry} (h : e.map.get k = some m) :
    e.noteOn src k v =
      ((if ((e.pressed src k).limitKey k).1 then [.voiceLimit k] else []) ++
        (if (((e.pressed src k).limitKey k).2.allocate k src v (m.layerFor v)).1 then [.voiceDrop k src] else []),
        (((e.pressed src k).limitKey k).2.allocate k src v (m.layerFor v)).2) := by
  have hmap : (e.markDown src k).map.get k = some m := by
    rw [Engine.markDown, Engine.withSource_map, h]
  rw [Engine.noteOn]
  dsimp only
  rw [hmap]
  rfl

/-! ### A voice for the new note (R82, R83) -/

theorem allocate_free {e : Engine} {i : Nat} (h : e.freeVoice = some i) (k : Key) (src : Source) (v layer : Nat) :
    e.allocate k src v layer = (false, e.startVoice i k src v layer .held) := by
  rw [Engine.allocate, h]

theorem allocate_full {e : Engine} (h : e.freeVoice = none) (hq : 16 ≤ e.queue.length) (k : Key) (src : Source)
    (v layer : Nat) : e.allocate k src v layer = (true, e) := by
  rw [Engine.allocate, h]
  exact if_pos hq

theorem allocate_steal {e : Engine} (h : e.freeVoice = none) (hq : e.queue.length < 16) {o : Nat}
    (ho : e.victim = some o) (k : Key) (src : Source) (v layer : Nat) : e.allocate k src v layer =
      (false, { e.cutVoice o with queue := e.queue ++ [⟨k, src, v, layer, false⟩] }) := by
  rw [Engine.allocate, h]
  refine (if_neg (Nat.not_le.2 hq)).trans ?_
  rw [ho]
  rfl

theorem allocate_wait {e : Engine} (h : e.freeVoice = none) (hq : e.queue.length < 16)
    (ho : e.victim = none) (k : Key) (src : Source) (v layer : Nat) : e.allocate k src v layer =
      (false, { e with queue := e.queue ++ [⟨k, src, v, layer, false⟩] }) := by
  rw [Engine.allocate, h]
  refine (if_neg (Nat.not_le.2 hq)).trans ?_
  rw [ho]

/-- With no voice free and room in the queue, the note waits. -/
theorem allocate_waits {e : Engine} (h : e.freeVoice = none) (hq : e.queue.length < 16) (k : Key) (src : Source)
    (v layer : Nat) : (e.allocate k src v layer).1 = false ∧
      (e.allocate k src v layer).2.queue = e.queue ++ [⟨k, src, v, layer, false⟩] := by
  cases ho : e.victim with
  | none =>
    rw [allocate_wait h hq ho]
    exact ⟨rfl, rfl⟩
  | some o =>
    rw [allocate_steal h hq ho]
    exact ⟨rfl, rfl⟩

theorem allocate_rest (e : Engine) (k : Key) (src : Source) (v layer : Nat) : (e.allocate k src v layer).2 =
    { e with
      voices := (e.allocate k src v layer).2.voices, nextSeq := (e.allocate k src v layer).2.nextSeq
      queue := (e.allocate k src v layer).2.queue } := by
  cases hf : e.freeVoice with
  | some i =>
    rw [allocate_free hf]
    rfl
  | none =>
    by_cases hq : 16 ≤ e.queue.length
    · rw [allocate_full hf hq]
    · cases ho : e.victim with
      | none => rw [allocate_wait hf (Nat.not_le.1 hq) ho]
      | some o =>
        rw [allocate_steal hf (Nat.not_le.1 hq) ho]
        rfl

theorem allocate_seq {e : Engine} (hf : e.freeVoice = none) (k : Key) (src : Source) (v layer : Nat) :
    (e.allocate k src v layer).2.nextSeq = e.nextSeq := by
  by_cases hq : 16 ≤ e.queue.length
  · rw [allocate_full hf hq]
  · cases ho : e.victim with
    | none => rw [allocate_wait hf (Nat.not_le.1 hq) ho]
    | some o =>
      rw [allocate_steal hf (Nat.not_le.1 hq) ho]
      rfl

/-- A stolen voice is cut, and no other changes. -/
theorem allocate_victim {e : Engine} (hf : e.freeVoice = none) (hq : e.queue.length < 16) {o : Fin 96}
    (ho : e.victim = some o.val) (hs : (e.voices.get o).state = .held ∨ (e.voices.get o).state = .released) (k : Key)
    (src : Source) (v layer : Nat) :
    (e.allocate k src v layer).2.voices.get o = { e.voices.get o with state := .cut, cutPos := 0 } ∧
      ∀ j, j ≠ o → (e.allocate k src v layer).2.voices.get j = e.voices.get j := by
  rw [allocate_steal hf hq ho]
  refine ⟨(cutVoice_get e o o).trans ?_, fun j hj => (cutVoice_get e o j).trans (if_neg hj)⟩
  rw [if_pos rfl, cut_of_sounding hs]

/-! ### The notices of a NOTE_ON -/

theorem raises_eq (ns : List NoticeBody) (s : State) : ns.foldl (fun s n => raise n s) s =
    s.withLink (ns.foldl (fun l n => l.note n s.clock.ms) s.link) := by
  induction ns generalizing s with
  | nil => rfl
  | cons n ns ih => exact ih _

theorem layerFor_eq {m : MapEntry} {v i : Nat} {l : Layer} (hl : m.layers[i]? = some l) (hv : v ≤ l.upper)
    (hfirst : ∀ j l', j < i → m.layers[j]? = some l' → l'.upper < v) : m.layerFor v = i := by
  obtain ⟨hi, rfl⟩ := List.getElem?_eq_some_iff.1 hl
  refine (List.findIdx_eq hi).2 ⟨decide_eq_true hv, fun j hj => ?_⟩
  have hlt := hfirst j _ hj (List.getElem?_eq_getElem (hj.trans hi))
  exact decide_eq_false (Nat.not_le.2 hlt)

/-- The engine a NOTE_ON of a mapped key leaves, but for its voices, queue and next sequence. -/
theorem noteOn_rest {e : Engine} {src : Source} {k : Key} (v : Nat) {m : MapEntry} (h : e.map.get k = some m) :
    (e.noteOn src k v).2 = { e.withSource src { e.source src with down := (e.source src).down.set k.val true k.isLt } with
      voices := (e.noteOn src k v).2.voices, nextSeq := (e.noteOn src k v).2.nextSeq
      queue := (e.noteOn src k v).2.queue } := by
  rw [noteOn_mapped v h]
  generalize hx : m.layerFor v = layer
  rw [allocate_rest, limitKey_rest, pressed_rest]

theorem release_free (src : Source) (k : Key) (v : Voice) : (v.release src k).state = .free ↔ v.state = .free := by
  rw [Voice.release]
  split
  next h =>
    rw [h.1]
    exact ⟨nofun, nofun⟩
  next => rfl

theorem release_key (src : Source) (k : Key) (p : PendingStart) : (p.release src k).key = p.key := by
  rw [PendingStart.release]
  split
  · rfl
  · rfl

/-- The entry the limit removes is found among the released entries as among the entries before. -/
theorem limitKey_pressed_waiting {e : Engine} {src : Source} {k : Key} (h : 4 ≤ (e.pressed src k).keyCount k)
    {a b : List PendingStart} {p : PendingStart} (hq : e.queue = a ++ p :: b) (hp : p.key = k) (ha : ∀ q ∈ a, q.key ≠ k) :
    (e.pressed src k).limitKey k =
      (true, { e.pressed src k with queue := (a ++ b).map (PendingStart.release src k) }) := by
  rw [List.map_append]
  refine limitKey_waiting (p := p.release src k) h ?_ ((release_key ..).trans hp) fun q hq => ?_
  · rw [pressed_queue, hq, List.map_append, List.map_cons]
  · obtain ⟨r, hr, rfl⟩ := List.mem_map.1 hq
    rw [release_key]
    exact ha r hr

theorem limitKey_pressed_oldest {e : Engine} {src : Source} {k : Key} (h : 4 ≤ (e.pressed src k).keyCount k)
    (hq : ∀ q ∈ e.queue, q.key ≠ k) {o : Nat} (ho : (e.pressed src k).oldestOfKey k = some o) :
    (e.pressed src k).limitKey k = (true, (e.pressed src k).cutVoice o) := by
  refine limitKey_oldest h (fun q hmem => ?_) ho
  rw [pressed_queue] at hmem
  obtain ⟨r, hr, rfl⟩ := List.mem_map.1 hmem
  rw [release_key]
  exact hq r hr

/-- Settles O40: the limit, the free voice, the steal and the wait are those of the key's engine with its earlier sound
released. -/
theorem noteOnFindsAVoice : Obligations.NoteOnFindsAVoice := by
  refine ⟨fun s src stamp k v rep => raises_eq _ _, ?_⟩
  intro e src k v m hm r old mark count started oldest noneFree
  obtain ⟨e1, he1⟩ : ∃ e1, e1 = e.pressed src k := ⟨_, rfl⟩
  have hr : r = ((if (e1.limitKey k).1 then [.voiceLimit k] else []) ++
      (if ((e1.limitKey k).2.allocate k src v (m.layerFor v)).1 then [.voiceDrop k src] else []),
      ((e1.limitKey k).2.allocate k src v (m.layerFor v)).2) := he1 ▸ noteOn_mapped v hm
  have hrest : r.2 = { e.withSource src { e.source src with down := (e.source src).down.set k.val true k.isLt } with
      voices := r.2.voices, nextSeq := r.2.nextSeq, queue := r.2.queue } := noteOn_rest v hm
  have hold : old = e1.voices.get := funext fun i => by
    rw [he1, pressed_get]
    rfl
  have hmark : mark = PendingStart.release src k := rfl
  have hqueue1 : e1.queue = e.queue.map (PendingStart.release src k) := he1 ▸ pressed_queue e src k
  have hwaiting : ∀ {a p b}, 4 ≤ e1.keyCount k → e.queue = a ++ p :: b → p.key = k → (∀ q ∈ a, q.key ≠ k) →
      e1.limitKey k = (true, { e1 with queue := (a ++ b).map (PendingStart.release src k) }) := fun h hq hp ha => by
    rw [he1] at h ⊢
    exact limitKey_pressed_waiting h hq hp ha
  have hvoice : ∀ {o}, 4 ≤ e1.keyCount k → (∀ q ∈ e.queue, q.key ≠ k) → e1.oldestOfKey k = some o →
      e1.limitKey k = (true, e1.cutVoice o) := fun h hq ho => by
    rw [he1] at h ho ⊢
    exact limitKey_pressed_oldest h hq ho
  have hcount : count = e1.keyCount k := he1 ▸ (pressed_keyCount e src k).symm
  have hseq : e1.nextSeq = e.nextSeq := by
    rw [he1]
    cases src <;> rfl
  have hmap : e1.map = e.map := by
    rw [he1]
    cases src <;> rfl
  have hfree1 : ∀ j, (e1.voices.get j).state = .free ↔ (e.voices.get j).state = .free := fun j => by
    rw [he1, pressed_get]
    exact release_free ..
  obtain ⟨e2, he2⟩ : ∃ e2, e2 = (e1.limitKey k).2 := ⟨_, rfl⟩
  have hlimit : e2 = { e1 with voices := e2.voices, queue := e2.queue } := he2 ▸ limitKey_rest e1 k
  have hseq2 : e2.nextSeq = e.nextSeq := (congrArg Engine.nextSeq hlimit).trans hseq
  have hmap2 : e2.map = e.map := (congrArg Engine.map hlimit).trans hmap
  have hfree2 : ∀ j, (e2.voices.get j).state = .free ↔ (e.voices.get j).state = .free := fun j => by
    rw [he2, limitKey_free, hfree1]
  rw [← he2] at hr
  have holdest : ∀ {o}, oldest o → e1.oldestOfKey k = some o.val ∧
      (e1.voices.get o).cut = { e1.voices.get o with state := .cut, cutPos := 0 } ∧ (e1.voices.get o).state ≠ .free :=
    fun {o} h => by
      simp only [oldest, hold, ← hseq] at h
      obtain ⟨hsounds, hkey, hage⟩ := h
      refine ⟨oldestOfKey_eq ⟨hsounds, hkey⟩ fun j hj hj' => hage j hj hj'.1 hj'.2, cut_of_sounding hsounds, fun hfree => ?_⟩
      rw [hfree] at hsounds
      exact hsounds.elim nofun nofun
  have hwait : (∀ j, (e.voices.get j).state ≠ .free) →
      noneFree (if (e1.limitKey k).1 then [.voiceLimit k] else []) e2.voices.get e2.queue := fun hnone => by
    have hfound : e2.freeVoice = none := freeVoice_none fun j => (hfree2 j).not.2 (hnone j)
    refine ⟨?_, fun hq => ?_, fun hq => ?_⟩
    · rw [hr, ← hseq2]
      exact allocate_seq hfound ..
    · rw [allocate_full hfound hq] at hr
      rw [hr]
      exact ⟨rfl, rfl, fun _ => rfl⟩
    · obtain ⟨hdrop, hqueue⟩ := allocate_waits hfound hq k src v (m.layerFor v)
      rw [hdrop] at hr
      have hstolen : ∀ {o : Fin 96}, e2.victim = some o.val →
          ((e2.voices.get o).state = .held ∨ (e2.voices.get o).state = .released) →
          r.2.voices.get o = { e2.voices.get o with state := .cut, cutPos := 0 } ∧
            ∀ j, j ≠ o → r.2.voices.get j = e2.voices.get j := fun ho hs => by
        rw [hr]
        exact allocate_victim hfound hq ho hs ..
      refine ⟨?_, ?_, fun o ho hleast => hstolen (victim_released ho hleast) (.inr ho), fun o hno ho hage => ?_, fun hcut j => ?_⟩
      · rw [hr]
        exact List.append_nil _
      · rw [hr]
        exact hqueue
      · refine hstolen (victim_held hno ho fun j hj hheld => ?_) (.inl ho)
        rw [Engine.age, Engine.age, hseq2]
        exact hage j hj hheld
      · rw [hr, allocate_wait hfound hq (victim_none hcut)]
  clear_value r old mark count oldest noneFree
  subst hold hmark
  refine ⟨?_, ?_, ?_, fun i l hl hv hfirst => ?_, fun i hi hfirst => ?_, fun hnone => ?_⟩
  · have hsource : r.2.source src = { e.source src with down := (e.source src).down.add k } := by
      rw [hrest]
      cases src <;> rfl
    rw [hsource, mem_add, decide_eq_true rfl, Bool.true_or]
  · exact (congrArg Engine.map hrest).trans (by cases src <;> rfl)
  · intro x put
    have hput : ∀ y, put y = e.withSource src y := fun y => by cases src <;> rfl
    rw [hput]
    exact hrest
  · have hlayer := layerFor_eq hl hv hfirst
    refine ⟨hlayer, ?_⟩
    rw [hlayer, MapEntry.sound, hl]
    rfl
  · have hfound : e2.freeVoice = some i.val :=
      freeVoice_eq ((hfree2 i).2 hi) fun j hj => (hfree2 j).not.2 (hfirst j hj)
    rw [allocate_free hfound] at hr
    have hstarted : r.2.voices.get i = started := by
      rw [hr]
      refine (startVoice_get ..).trans ((if_pos rfl).trans ?_)
      rw [hmap2, hm, hseq2]
      rfl
    have hother : ∀ j, j ≠ i → r.2.voices.get j = e2.voices.get j := fun j hj => by
      rw [hr]
      exact (startVoice_get ..).trans (if_neg hj)
    have hqueue : r.2.queue = e2.queue := by
      rw [hr]
      rfl
    have htold : r.1 = if (e1.limitKey k).1 then [.voiceLimit k] else [] := by
      rw [hr]
      exact List.append_nil _
    refine ⟨hstarted, ?_, fun hc => ?_, fun hc => ?_, fun a p b hc hq hp ha => ?_, fun o hc hq ho => ?_⟩
    · rw [hr, ← hseq2]
      rfl
    · rw [limitKey_below (hcount ▸ hc)] at htold he2
      refine ⟨htold, ?_, fun j hj => (hother j hj).trans (he2 ▸ rfl)⟩
      rw [hqueue, he2, hqueue1]
    · rw [htold, limitKey_told (hcount ▸ hc), if_pos rfl]
    · rw [hwaiting (hcount ▸ hc) hq hp ha] at he2
      exact ⟨hqueue.trans (he2 ▸ rfl), fun j hj => (hother j hj).trans (he2 ▸ rfl)⟩
    · rw [hvoice (hcount ▸ hc) hq (holdest ho).1] at he2
      obtain ⟨-, hcut, hne⟩ := holdest ho
      have hoi : o ≠ i := fun h => hne ((hfree1 o).2 (h ▸ hi))
      refine ⟨hqueue.trans (he2 ▸ hqueue1), ?_, fun j hj hjo => ?_⟩
      · rw [hother o hoi, he2, cutVoice_get, if_pos rfl, hcut]
      · rw [hother j hj, he2, cutVoice_get, if_neg hjo]
  · refine ⟨fun hc => ?_, fun a p b hc hq hp ha => ?_, fun o hc hq ho => ?_⟩
    · have hwait := hwait hnone
      rw [limitKey_below (hcount ▸ hc)] at he2 hwait
      rw [he2, hqueue1] at hwait
      exact hwait
    · have hwait := hwait hnone
      rw [hwaiting (hcount ▸ hc) hq hp ha] at he2 hwait
      rw [he2] at hwait
      exact hwait
    · have hwait := hwait hnone
      rw [hvoice (hcount ▸ hc) hq (holdest ho).1] at he2 hwait
      obtain ⟨-, hcut, -⟩ := holdest ho
      have hvoices : (e1.cutVoice o.val).voices.get =
          fun j => if j = o then { e1.voices.get o with state := .cut, cutPos := 0 } else e1.voices.get j := by
        funext j
        rw [cutVoice_get, hcut]
      rw [he2, hvoices] at hwait
      exact hqueue1 ▸ hwait

end Sys2Proof.Machine
end

section
/-! PROOFS. The Rail Controller (chapter 7): a return to the origin, and the commands of the rail. -/

namespace Sys2Proof.Machine

open Sys2Proof.StepRows

theorem railChange_fresh {r shown : Rail} (h : shown.runUs = 0) (cause : RailCause) (why : RailReason) (s : State) :
    railChange r shown cause why s =
      raise (.railState r.state shown.target shown.origin cause why 0 r.supply) (s.withRail r) := by
  rw [railChange, h, Nat.zero_div]

/-! ### A return to the origin (R112) -/

theorem railEndOf_eq_none {b : Byte} (h1 : b ≠ 1#8) (h2 : b ≠ 2#8) : railEndOf b = none := by
  have hn1 : b.toNat ≠ 1 := fun h => h1 (BitVec.eq_of_toNat_eq h)
  have hn2 : b.toNat ≠ 2 := fun h => h2 (BitVec.eq_of_toNat_eq h)
  rw [railEndOf, if_neg hn1, if_neg hn2]

theorem railEndOf_eq_some {b : Byte} {e : RailEnd} (h : b = 1#8 ∧ e = .retracted ∨ b = 2#8 ∧ e = .engaged) :
    railEndOf b = some e := by
  obtain ⟨rfl, rfl⟩ | ⟨rfl, rfl⟩ := h
  · rfl
  · rfl

theorem alone_iff (r : Rail) (e : RailEnd) : r.alone e = true ↔
    (if e = .engaged then r.eng else r.ret) = true ∧ (if e = .engaged then r.ret else r.eng) = false := by
  cases e with
  | engaged => rw [if_pos rfl, if_pos rfl, Rail.alone, Bool.and_eq_true, Bool.not_eq_true']
  | retracted => rw [if_neg nofun, if_neg nofun, Rail.alone, Bool.and_eq_true, Bool.not_eq_true']

/-- The switches show the origin to be where the rail is. -/
def Rail.standsAt (r : Rail) (og : RailOrigin) : Prop :=
  (og = .retracted → r.ret = true) ∧ (og = .engaged → r.eng = true) ∧ (og = .unknown → r.ret = r.eng)

theorem railReturned_stays {og : RailOrigin} {s : State} (h : s.rail.standsAt og) (was : Rail) :
    railReturned og was s = s := by
  obtain ⟨hret, heng, hunknown⟩ := h
  cases og with
  | retracted => exact if_pos (hret rfl)
  | engaged => exact if_pos (heng rfl)
  | unknown =>
    have hboth := hunknown rfl
    have h1 : ¬s.rail.alone .retracted = true := by
      rw [Rail.alone, hboth, Bool.and_not_self]
      decide
    have h2 : ¬s.rail.alone .engaged = true := by
      rw [Rail.alone, hboth, Bool.and_not_self]
      decide
    exact (if_neg h1).trans (if_neg h2)

theorem railReturned_lost {og : RailOrigin} {s : State}
    (h : og = .retracted ∧ s.rail.ret = false ∨ og = .engaged ∧ s.rail.eng = false) (was : Rail) :
    railReturned og was s = railMovesOn .unknown .switchLost was s := by
  obtain ⟨rfl, h⟩ | ⟨rfl, h⟩ := h
  · exact if_neg (ne_true_of_eq_false h)
  · exact if_neg (ne_true_of_eq_false h)

theorem railReturned_found {e : RailEnd} {s : State} (h : s.rail.alone e = true) (was : Rail) :
    railReturned .unknown was s = railMovesOn e.state .found was s := by
  cases e with
  | retracted => exact if_pos h
  | engaged =>
    have hne : ¬s.rail.alone .retracted = true := by
      rw [Rail.alone, Bool.and_eq_true, Bool.not_eq_true'] at h
      rw [Rail.alone, Bool.and_eq_true, h.2]
      exact nofun
    exact (if_neg hne).trans (if_pos h)

/-- What the notice of the second change of a return may carry (notes/assumptions/33.md). -/
def Rail.mayShow (r : Rail) (shown : Option RailEnd × Option RailOrigin × Nat) : Prop :=
  shown = (r.target, r.origin, r.runUs / 1000) ∨ shown = (none, none, 0)

/-- The state after the two changes of a return that a switch moves on. -/
def State.returnedTwice (s : State) (first second : RailState) (cause : RailCause) (why : RailReason)
    (moves : RailCause) (shown : Option RailEnd × Option RailOrigin × Nat) : State :=
  { s with
    rail := s.rail.enterRest second none
    link := (s.link.note
      (.railState first s.rail.target s.rail.origin cause why (s.rail.runUs / 1000) s.rail.supply) s.clock.ms).note
        (.railState second shown.1 shown.2.1 moves .none shown.2.2 s.rail.supply) s.clock.ms
    choices := s.choices + 1 }

theorem railMovesOn_returned (s : State) (first second : RailState) (cause : RailCause) (why : RailReason)
    (moves : RailCause) : ∃ shown, s.rail.mayShow shown ∧
      railMovesOn second moves s.rail (railChange (s.rail.enterRest first none) s.rail cause why s) =
        s.returnedTwice first second cause why moves shown := by
  obtain ⟨shown, hshown, h⟩ := railMovesOn_spec second moves s.rail (railChange (s.rail.enterRest first none) s.rail cause why s)
  obtain rfl | rfl := hshown
  · exact ⟨_, .inl rfl, h⟩
  · exact ⟨(none, none, 0 / 1000), .inr rfl, h⟩

theorem railReturn_stays {s : State} {og : RailOrigin} (ho : s.rail.origin = some og) (h : s.rail.standsAt og)
    (cause : RailCause) (why : RailReason) :
    railReturn cause why s = railChange (s.rail.enterRest og.state none) s.rail cause why s := by
  rw [railReturn, ho]
  exact railReturned_stays (s := railChange (s.rail.enterRest og.state none) s.rail cause why s) h s.rail

theorem railReturn_lost {s : State} {og : RailOrigin} (ho : s.rail.origin = some og)
    (h : og = .retracted ∧ s.rail.ret = false ∨ og = .engaged ∧ s.rail.eng = false)
    (cause : RailCause) (why : RailReason) : ∃ shown, s.rail.mayShow shown ∧
      railReturn cause why s = s.returnedTwice og.state .unknown cause why .switchLost shown := by
  rw [railReturn, ho]
  obtain ⟨shown, hshown, heq⟩ := railMovesOn_returned s og.state .unknown cause why .switchLost
  exact ⟨shown, hshown, (railReturned_lost (s := railChange (s.rail.enterRest og.state none) s.rail cause why s) h _).trans heq⟩

theorem railReturn_found {s : State} {e : RailEnd} (ho : s.rail.origin = some .unknown) (h : s.rail.alone e = true)
    (cause : RailCause) (why : RailReason) : ∃ shown, s.rail.mayShow shown ∧
      railReturn cause why s = s.returnedTwice .unknown e.state cause why .found shown := by
  rw [railReturn, ho]
  obtain ⟨shown, hshown, heq⟩ := railMovesOn_returned s .unknown e.state cause why .found
  exact ⟨shown, hshown, (railReturned_found (s := railChange (s.rail.enterRest .unknown none) s.rail cause why s) h _).trans heq⟩

/-! ### RAIL in each state of the rail (R108, R109) -/

section
variable {s : State} {b : Byte} {e : RailEnd}

theorem cmdRail_fault (hb : railEndOf b = some e) (h : s.rail.state = .fault) : cmdRail b s = answer 0x28#8 .badState s := by
  rw [cmdRail, hb]
  dsimp only
  rw [h]

theorem cmdRail_there (hb : railEndOf b = some e) (h : s.rail.state = e.state) : cmdRail b s = answer 0x28#8 .ok s := by
  rw [cmdRail, hb]
  dsimp only
  rw [h]
  cases e with
  | retracted => exact if_pos rfl
  | engaged => exact if_pos rfl

theorem cmdRail_underWay (hb : railEndOf b = some e)
    (h : s.rail.state = .waitClear ∨ s.rail.state = .moving ∨ s.rail.state = .paused) :
    cmdRail b s = railUnderWay e s := by
  rw [cmdRail, hb]
  dsimp only
  obtain h | h | h := h
  · rw [h]
  · rw [h]
  · rw [h]

theorem cmdRail_begin (hb : railEndOf b = some e) {og : RailOrigin} (h : s.rail.state = og.state)
    (hne : s.rail.state ≠ e.state) : cmdRail b s = railBegin e og s := by
  rw [cmdRail, hb]
  dsimp only
  cases og with
  | unknown => rw [h, RailOrigin.state]
  | retracted =>
    rw [h, RailOrigin.state]
    refine if_neg ?_
    rintro rfl
    exact hne h
  | engaged =>
    rw [h, RailOrigin.state]
    refine if_neg ?_
    rintro rfl
    exact hne h

theorem railUnderWay_same (h : s.rail.target = some e) : railUnderWay e s = answer 0x28#8 .ok s := if_pos h

theorem railUnderWay_cancel (hs : s.rail.state = .waitClear) (ht : s.rail.target ≠ some e)
    (ho : s.rail.origin = some e.origin) : railUnderWay e s = answer 0x28#8 .ok (railReturn .cancelled .none s) := by
  rw [railUnderWay]
  dsimp only
  rw [if_neg ht, hs]
  exact if_pos ho

theorem railUnderWay_turn (hs : s.rail.state = .waitClear) (ht : s.rail.target ≠ some e)
    (ho : s.rail.origin ≠ some e.origin) : railUnderWay e s = answer 0x28#8 .accepted
      (railChange { s.rail with target := some e, direction := some e.direction }
        { s.rail with target := some e, direction := some e.direction } .reversed .none s) := by
  rw [railUnderWay]
  dsimp only
  rw [if_neg ht, hs]
  exact if_neg ho

theorem railUnderWay_paused (hs : s.rail.state = .paused) (ht : s.rail.target ≠ some e) :
    railUnderWay e s = answer 0x28#8 .accepted
      (railChange { s.rail with target := some e, direction := some e.direction, runUs := 0 }
        { s.rail with target := some e, direction := some e.direction, runUs := 0 } .reversed .none s) := by
  rw [railUnderWay]
  dsimp only
  rw [if_neg ht, hs]

theorem railUnderWay_moving (hs : s.rail.state = .moving) (ht : s.rail.target ≠ some e) :
    railUnderWay e s = answer 0x28#8 .accepted (railReverse e s) := by
  rw [railUnderWay]
  dsimp only
  rw [if_neg ht, hs]

end

/-- The record of a reversal in MOVING before the motor is turned. -/
def Rail.reversed (r : Rail) (e : RailEnd) : Rail :=
  { r with target := some e, direction := some e.direction, runUs := 0, overCount := 0 }

theorem railReverse_driven {s : State} {e : RailEnd} (h : ¬s.rail.alone e = true) :
    railReverse e s = railChange (s.rail.reversed e).motorOn (s.rail.reversed e) .reversed .none s := by
  cases e with
  | engaged => exact if_neg h
  | retracted => exact if_neg h

theorem railReverse_arrived {s : State} {e : RailEnd} (h : s.rail.alone e = true) :
    railReverse e s = railArrive e (railChange (s.rail.reversed e).motorOff (s.rail.reversed e) .reversed .none s) := by
  cases e with
  | engaged => exact if_pos h
  | retracted => exact if_pos h

theorem cmdRailClear_fault {s : State} (h : s.rail.state = .fault) : cmdRailClear s = answer 0x29#8 .ok
    (railChange (s.rail.enterRest s.rail.switchState (if s.rail.switchState = .fault then some .switch else none)) s.rail
      .cleared (if s.rail.switchState = .fault then .switch else .none) s) := by
  rw [cmdRailClear, if_pos h]
  simp only [decide_eq_true_eq]

theorem switchState_eq (r : Rail) : r.switchState =
    if r.ret then (if r.eng then .fault else .retracted) else if r.eng then .engaged else .unknown := by
  rw [Rail.switchState]
  cases r.ret <;> cases r.eng <;> rfl

/-- Settles O46: RAIL by the rail's state, and a return by what the switches make of it. -/
theorem railCommandsMoveTheRail : Obligations.RailCommandsMoveTheRail := by
  refine ⟨fun s b hs h1 h2 => ?_, ?_, ?_, ?_⟩
  · have hc : cmdRail b s = answer 0x28#8 .badValue s := by rw [cmdRail, railEndOf_eq_none h1 h2]
    exact exec_answer hs rfl rfl hc rfl
  · intro s b e hs hb r way own other turned said
    have hend := railEndOf_eq_some hb
    have hway : way = e.direction := by cases e <;> rfl
    have halone : s.rail.alone e = true ↔ own = true ∧ other = false := alone_iff s.rail e
    have hstand (h : own = true) : s.rail.standsAt e.origin := by
      cases e with
      | engaged => exact ⟨nofun, fun _ => h, nofun⟩
      | retracted => exact ⟨fun _ => h, nofun, nofun⟩
    have hlost (h : own = false) : e.origin = .retracted ∧ s.rail.ret = false ∨ e.origin = .engaged ∧ s.rail.eng = false := by
      cases e with
      | engaged => exact .inr ⟨rfl, h⟩
      | retracted => exact .inl ⟨rfl, h⟩
    have hstate : e.origin.state = e.state := by cases e <;> rfl
    clear_value way own other
    subst hway
    refine ⟨fun h => ?_, fun h => ?_, fun og h hne => ?_, fun h ht ho hown => ?_, fun h ht ho hown => ?_, fun h ht ho => ?_,
      fun h ht => ?_, fun h ht hno => ?_, fun h ht hown hother => ?_⟩
    · exact exec_answer hs rfl rfl (cmdRail_fault hend h) rfl
    · obtain h | ⟨h, ht⟩ := h
      · exact exec_answer hs rfl rfl (cmdRail_there hend h) rfl
      · exact exec_answer hs rfl rfl ((cmdRail_underWay hend h).trans (railUnderWay_same ht)) rfl
    · have hc := cmdRail_begin hend h hne
      rw [railBegin, railChange_fresh rfl] at hc
      exact exec_answer hs rfl rfl hc rfl
    · have hc := (cmdRail_underWay hend (.inl h)).trans (railUnderWay_cancel h ht ho)
      rw [railReturn_stays ho (hstand hown), hstate] at hc
      exact exec_answer hs rfl rfl hc rfl
    · have hc := (cmdRail_underWay hend (.inl h)).trans (railUnderWay_cancel h ht ho)
      obtain ⟨shown, hshown, heq⟩ := railReturn_lost ho (hlost hown) .cancelled .none
      rw [heq, hstate] at hc
      exact ⟨shown, hshown, exec_answer hs rfl rfl hc rfl⟩
    · have hc := (cmdRail_underWay hend (.inl h)).trans (railUnderWay_turn h ht ho)
      refine exec_answer hs rfl rfl hc ?_
      rw [← h]
      rfl
    · have hc := (cmdRail_underWay hend (.inr (.inr h))).trans (railUnderWay_paused h ht)
      rw [railChange_fresh rfl] at hc
      refine exec_answer hs rfl rfl hc ?_
      rw [← h]
      rfl
    · have hc := (cmdRail_underWay hend (.inr (.inl h))).trans (railUnderWay_moving h ht)
      have hnot : ¬s.rail.alone e = true := fun ha => by
        obtain ⟨hown, hother⟩ := halone.1 ha
        obtain h | h := hno
        · exact Bool.noConfusion (hown.symm.trans h)
        · exact Bool.noConfusion (hother.symm.trans h)
      rw [railReverse_driven hnot, railChange_fresh (by rfl)] at hc
      refine exec_answer hs rfl rfl hc ?_
      rw [← h]
      cases e with
      | engaged => rfl
      | retracted => rfl
    · have hc := (cmdRail_underWay hend (.inr (.inl h))).trans (railUnderWay_moving h ht)
      rw [railReverse_arrived (halone.2 ⟨hown, hother⟩), railChange_fresh rfl, railArrive, railChange_fresh rfl] at hc
      refine exec_answer hs rfl rfl hc ?_
      rw [← h]
      rfl
  · intro s hs r st
    have hst : st = s.rail.switchState := (switchState_eq s.rail).symm
    clear_value st
    subst hst
    by_cases h : s.rail.state = .fault
    · refine (exec_answer (i := .railClear) hs rfl rfl (cmdRailClear_fault h) rfl).trans (congrArg _ ?_)
      exact (if_pos h).symm
    · have hc : runCommand .railClear s = answer 0x29#8 .badState s := if_neg h
      refine (exec_answer hs rfl rfl hc rfl).trans (congrArg _ ?_)
      exact (if_neg h).symm
  · intro s w m c v hs
    split
    next h =>
      have hc : runCommand (.setRail w m c v) s = answer 0x2A#8 .ok (s.withRail { s.rail with
          waitLimit := w.toNat, runLimit := m.toNat
          currentLimit := 100 * c.toNat, supplyMin := 100 * v.toNat }) := if_pos h
      exact exec_answer hs rfl rfl hc rfl
    next h =>
      have hc : runCommand (.setRail w m c v) s = answer 0x2A#8 .badValue s := if_neg h
      exact exec_answer hs rfl rfl hc rfl

end Sys2Proof.Machine
end

section
/-! PROOFS. The keyboard at the rail and the rail's timers (sections 7.4 and 7.5). -/

namespace Sys2Proof.Machine

open Sys2Proof.StepRows

/-! ### Rows of the Rail Controller -/

/-- An event of the rail on a steady part: the event, and then the transmitter's choice. -/
theorem exec_railEvent {i : Instr} {f : State → State} (hi : ∀ s, rowAct i s = whenRunning f s)
    (hf : ∀ s, RailFrame s (f s)) {s : State} (h : s.Steady) : exec i s = .next (chooseTx (f s)) :=
  exec_event hi h ((hf s).field State.running fun _ _ _ _ => rfl) (hf s).core

theorem exec_railEvent_idle {i : Instr} {f : State → State} (hi : ∀ s, rowAct i s = whenRunning f s)
    (hf : ∀ s, RailFrame s (f s)) {s : State} (h : s.Steady) (hidle : f s = s) : exec i s = .next s := by
  rw [exec_railEvent hi hf h, hidle, chooseTx_of_settled h.2]

/-! ### The keyboard-clear condition at the rail (R110, R114) -/

theorem noteKeyboard_changed {was : Bool} {u : State} (h : keyboardClear u ≠ was) :
    noteKeyboard was u = railKeyboard (!was) u := by
  have hnow : keyboardClear u = !was := Bool.eq_not_of_ne h
  exact (if_neg h).trans (congrArg (railKeyboard · u) hnow)

theorem railKeyboard_waiting {u : State} (h : u.rail.state = .waitClear ∨ u.rail.state = .paused) (clear : Bool) :
    railKeyboard clear u = u.withRail { u.rail with settle := if clear then some 0 else none } := by
  rw [railKeyboard]
  obtain h | h := h
  · rw [h]
  · rw [h]

theorem railKeyboard_moving {u : State} (h : u.rail.state = .moving) (clear : Bool) : railKeyboard clear u =
    if clear then u else railChange { u.rail.motorOff with state := .paused, overCount := 0, settle := none } u.rail
      .pause .none u := by
  rw [railKeyboard, h]

theorem railKeyboard_resting {u : State} (h : u.rail.state = .unknown ∨ u.rail.state = .retracted ∨
    u.rail.state = .engaged ∨ u.rail.state = .fault) (clear : Bool) : railKeyboard clear u = u := by
  rw [railKeyboard]
  obtain h | h | h | h := h
  · rw [h]
  · rw [h]
  · rw [h]
  · rw [h]

/-! ### When the timers are due -/

theorem settleDue_iff (r : Rail) : r.settleDue = true ↔
    (r.state = .waitClear ∨ r.state = .paused) ∧ ∃ n, r.settle = some n ∧ 50000 ≤ n := by
  rw [Rail.settleDue, Bool.and_eq_true, decide_eq_true_iff]
  cases hs : r.settle with
  | none => exact ⟨nofun, fun h => by obtain ⟨-, n, hn, -⟩ := h; cases hn⟩
  | some n =>
    refine and_congr_right fun _ => ?_
    rw [decide_eq_true_iff]
    exact ⟨fun h => ⟨n, rfl, h⟩, fun ⟨m, hm, h⟩ => Option.some.inj hm ▸ h⟩

theorem clearWaitDue_iff (r : Rail) : r.clearWaitDue = true ↔ r.state = .waitClear ∧ r.waitLimit * 1000 ≤ r.waitUs := by
  rw [Rail.clearWaitDue, Bool.and_eq_true, decide_eq_true_iff, decide_eq_true_iff]

theorem runLimitDue_iff (r : Rail) : r.runLimitDue = true ↔ r.state = .moving ∧ r.runLimit * 1000 ≤ r.runUs := by
  rw [Rail.runLimitDue, Bool.and_eq_true, decide_eq_true_iff, decide_eq_true_iff]

/-! ### What a completed settle does (R111) -/

theorem railSettled_low {s : State} (h : s.rail.supply < s.rail.supplyMin) :
    railSettled s = railReturn .failed .lowSupply s := if_pos h

theorem railSettled_arrives {s : State} {e : RailEnd} (h : s.rail.supplyMin ≤ s.rail.supply) (ht : s.rail.target = some e)
    (ha : s.rail.alone e = true) : railSettled s = railArrive e s := by
  rw [railSettled, if_neg (Nat.not_lt.2 h), ht]
  exact if_pos ha

theorem railSettled_moves {s : State} {e : RailEnd} (h : s.rail.supplyMin ≤ s.rail.supply) (ht : s.rail.target = some e)
    (ha : ¬s.rail.alone e = true) : railSettled s = railMove s := by
  rw [railSettled, if_neg (Nat.not_lt.2 h), ht]
  exact if_neg ha

/-- The record on entering MOVING. -/
def Rail.driven (r : Rail) (d : Direction) : Rail :=
  { r with
    state := .moving, settle := none, overCount := 0
    runUs := if r.state = .waitClear then 0 else r.runUs
    enable := true, driveIn := decide (d = .inward), driveOut := decide (d = .outward) }

theorem motorOn_of_direction {r : Rail} {d : Direction} (h : r.direction = some d) : r.motorOn =
    { r with enable := true, driveIn := decide (d = .inward), driveOut := decide (d = .outward) } := by
  rw [Rail.motorOn, h]
  cases d
  · rfl
  · rfl

theorem railMove_eq {s : State} {d : Direction} (h : s.rail.direction = some d) : railMove s =
    { s with
      rail := s.rail.driven d
      link := s.link.note (.railState .moving s.rail.target s.rail.origin
        (if s.rail.state = .waitClear then .start else .resume) .none
        (if s.rail.state = .waitClear then 0 else s.rail.runUs / 1000) s.rail.supply) s.clock.ms } := by
  rw [railMove, Rail.driven]
  by_cases hw : s.rail.state = .waitClear
  · simp only [if_pos hw]
    rw [railChange_fresh (by rfl), motorOn_of_direction (d := d)]
    · rfl
    · exact h
  · simp only [if_neg hw]
    rw [motorOn_of_direction (d := d)]
    · rfl
    · exact h

theorem keyClear_iff (lS1 : Nat) (k : KeyRecord) : keyClear lS1 k = true ↔
    k.state = .offline ∨ k.state = .fault ∨ k.state = .rest ∨ (k.state = .arming ∧ k.lastDepth < lS1) := by
  rw [keyClear]
  cases k.state <;> simp

/-- What the end of a wait in a return to the origin does. -/
theorem chooseTx_returnedTwice (s : State) (first second : RailState) (cause : RailCause) (why : RailReason)
    (moves : RailCause) (shown : Option RailEnd × Option RailOrigin × Nat) :
    chooseTx (s.returnedTwice first second cause why moves shown) =
      { s.returnedTwice first second cause why moves shown with
        link := Link.notify (s.link.note
          (.railState first s.rail.target s.rail.origin cause why (s.rail.runUs / 1000) s.rail.supply) s.clock.ms)
          (.railState second shown.1 shown.2.1 moves .none shown.2.2 s.rail.supply) s.clock.ms } := rfl

/-- Settles O47: each timer by whether it is due, and a return by what the switches make of it. -/
theorem railTimersEndTheWaitAndTheMove : Obligations.RailTimersEndTheWaitAndTheMove := by
  refine ⟨fun u => ?_, ?_, ?_⟩
  · rw [keyboardClear_iff]
    exact forall_congr' fun k => keyClear_iff ..
  · intro u was r
    refine ⟨noteKeyboard_same, fun hne => ⟨fun h => ?_, fun h hw => ?_, fun h hw => ?_, fun h => ?_⟩⟩
    · rw [noteKeyboard_changed hne, railKeyboard_waiting h]
      cases was
      · rfl
      · rfl
    · rw [noteKeyboard_changed hne, railKeyboard_moving h, hw]
      rfl
    · rw [noteKeyboard_changed hne, railKeyboard_moving h, hw]
      rfl
    · rw [noteKeyboard_changed hne, railKeyboard_resting h]
  · intro s hs r rest told twice
    have hsettle (h : s.rail.settleDue = true) : exec .settleComplete s = .next (chooseTx (railSettled s)) := by
      rw [exec_railEvent (fun _ => rfl) takeSettle_frame hs, takeSettle, if_pos h]
    have hwait (h : s.rail.clearWaitDue = true) :
        exec .clearWaitExpiry s = .next (chooseTx (railReturn .failed .blocked s)) := by
      rw [exec_railEvent (fun _ => rfl) takeClearWait_frame hs, takeClearWait, if_pos h]
    have hown (e : RailEnd) := alone_iff s.rail e
    refine ⟨fun h => ?_, fun n e hst hn hle ht => ?_, fun h => ?_, fun og hst hle ho => ?_, fun h => ?_, fun hst hle => ?_⟩
    · refine exec_railEvent_idle (fun _ => rfl) takeSettle_frame hs (if_neg fun hdue => ?_)
      obtain ⟨hst, m, hm, hle⟩ := (settleDue_iff _).1 hdue
      obtain ⟨h1, h2⟩ | h | ⟨n, hn, hlt⟩ := h
      · exact hst.elim h1 h2
      · cases h.symm.trans hm
      · cases hn.symm.trans hm
        exact Nat.not_lt.2 hle hlt
    · intro own other
      have hexec := hsettle ((settleDue_iff _).2 ⟨hst, n, hn, hle⟩)
      have halone : s.rail.alone e = true ↔ own = true ∧ other = false := hown e
      refine ⟨fun hsup ho ho' => ?_, fun d hsup hno hd => ?_, fun og hlow ho hret heng hun => ?_, fun og hlow ho hlost => ?_,
        fun e' hlow ho ha ha' => ?_⟩
      · rw [hexec, railSettled_arrives hsup ht (halone.2 ⟨ho, ho'⟩)]
        rfl
      · have hnot : ¬s.rail.alone e = true := fun ha => by
          obtain ⟨ho, ho'⟩ := halone.1 ha
          obtain h | h := hno
          · exact Bool.noConfusion (ho.symm.trans h)
          · exact Bool.noConfusion (ho'.symm.trans h)
        rw [hexec, railSettled_moves hsup ht hnot, railMove_eq hd]
        rfl
      · rw [hexec, railSettled_low hlow, railReturn_stays ho ⟨hret, heng, hun⟩]
        rfl
      · obtain ⟨shown, hshown, heq⟩ := railReturn_lost ho hlost .failed .lowSupply
        refine ⟨shown, hshown, ?_⟩
        rw [hexec, railSettled_low hlow, heq, chooseTx_returnedTwice]
        rfl
      · obtain ⟨shown, hshown, heq⟩ := railReturn_found ho ((hown e').2 ⟨ha, ha'⟩) .failed .lowSupply
        refine ⟨shown, hshown, ?_⟩
        rw [hexec, railSettled_low hlow, heq, chooseTx_returnedTwice]
        rfl
    · refine exec_railEvent_idle (fun _ => rfl) takeClearWait_frame hs (if_neg fun hdue => ?_)
      obtain ⟨hst, hle⟩ := (clearWaitDue_iff _).1 hdue
      obtain h | h := h
      · exact h hst
      · exact Nat.not_lt.2 hle h
    · have hexec := hwait ((clearWaitDue_iff _).2 ⟨hst, hle⟩)
      refine ⟨fun hret heng hun => ?_, fun hlost => ?_, fun e hog halone hother => ?_⟩
      · rw [hexec, railReturn_stays ho ⟨hret, heng, hun⟩]
        rfl
      · obtain ⟨shown, hshown, heq⟩ := railReturn_lost ho hlost .failed .blocked
        refine ⟨shown, hshown, ?_⟩
        rw [hexec, heq, chooseTx_returnedTwice]
        rfl
      · subst hog
        obtain ⟨shown, hshown, heq⟩ := railReturn_found ho ((hown e).2 ⟨halone, hother⟩) .failed .blocked
        refine ⟨shown, hshown, ?_⟩
        rw [hexec, heq, chooseTx_returnedTwice]
        rfl
    · refine exec_railEvent_idle (fun _ => rfl) takeRunLimit_frame hs (if_neg fun hdue => ?_)
      obtain ⟨hst, hle⟩ := (runLimitDue_iff _).1 hdue
      obtain h | h := h
      · exact h hst
      · exact Nat.not_lt.2 hle h
    · rw [exec_railEvent (fun _ => rfl) takeRunLimit_frame hs, takeRunLimit, if_pos ((runLimitDue_iff _).2 ⟨hst, hle⟩)]
      rfl

end Sys2Proof.Machine
end

section
/-! PROOFS. Switch events (R105, R115, R118): what an operation of the rail reads and tells, and the judging of the
levels. -/

namespace Sys2Proof.Machine

open Sys2Proof.StepRows

/-! ### Notices of one class and the transmitter -/

theorem transmit_single {l : Link} {n : Notice} (ht : l.tx = none) (hc : l.cts = true) (hs : l.slot = none)
    (hn : l.notices = [n]) : l.transmit = { l with notices := [], lost := false, tx := some (.notice n l.lost) } := by
  have h : takeOldest l.notices = some (n, []) := by
    rw [hn]
    exact takeOldest_eq (a := []) (b := []) (List.forall_mem_nil _) (List.forall_mem_nil _)
  rw [Link.transmit, ht, hc, hs, h]
  rfl

theorem transmit_pair {l : Link} {m n : Notice} (ht : l.tx = none) (hc : l.cts = true) (hs : l.slot = none)
    (hn : l.notices = [m, n]) (hcls : n.cls ≤ m.cls) :
    l.transmit = { l with notices := [n], lost := false, tx := some (.notice m l.lost) } := by
  have h : takeOldest l.notices = some (m, [n]) := by
    rw [hn]
    exact takeOldest_eq (a := []) (b := [n]) (List.forall_mem_nil _) fun x hx => List.mem_singleton.1 hx ▸ hcls
  rw [Link.transmit, ht, hc, hs, h]
  rfl

theorem note_of_empty {l : Link} (h : l.notices = []) (b : NoticeBody) (ms : W32) :
    l.note b ms = { l with notices := [⟨b, l.classes.get b.kind, ms⟩] } := by
  rw [Link.note, Link.place, h]
  rfl

/-- On a link with nothing left to do, a notice chosen before another of its kind is raised is the one chosen after
both. -/
theorem transmit_between {l : Link} (h : l.Settled) {b c : NoticeBody} (hk : c.kind = b.kind) (ms : W32) :
    ((l.note b ms).transmit.note c ms).transmit = ((l.note b ms).note c ms).transmit := by
  by_cases hheld : l.tx.isSome = true ∨ l.cts = false
  · rw [Link.transmit_of_held (l.note b ms) (by rwa [Link.note_tx, Link.note_cts])]
  obtain ⟨ht, hc⟩ := not_or.1 hheld
  obtain ⟨hs, hn⟩ := (h.2.resolve_left ht).resolve_left hc
  rw [Bool.not_eq_true, Option.isSome_eq_false_iff, Option.isNone_iff_eq_none] at ht
  rw [Bool.not_eq_false] at hc
  have hpair : (l.note b ms).note c ms =
      { l with notices := [⟨b, l.classes.get b.kind, ms⟩, ⟨c, l.classes.get c.kind, ms⟩] } := by
    rw [note_of_empty hn]
    rfl
  have hfirst := transmit_single (l := { l with notices := [⟨b, l.classes.get b.kind, ms⟩] }) ht hc hs rfl
  have hboth := transmit_pair (l := { l with notices := [⟨b, l.classes.get b.kind, ms⟩, ⟨c, l.classes.get c.kind, ms⟩] })
    ht hc hs rfl (by rw [hk])
  rw [hpair, hboth, note_of_empty hn, hfirst, note_of_empty rfl]
  exact Link.transmit_of_held _ (.inl rfl)

theorem note_withCts (l : Link) (b : Bool) (body : NoticeBody) (ms : W32) :
    Link.note { l with cts := b } body ms = { l.note body ms with cts := b } := by
  unfold Link.note Link.place
  dsimp only
  split
  · rfl
  · split
    · rfl
    · split
      · rfl
      · rfl

/-! ### Operations that read and change the rail record and tell it -/

/-- The counts of consecutive reads replaced. -/
def Rail.withRuns (r : Rail) (a b : Nat) : Rail := { r with engRun := a, retRun := b }

/-- A notice of a change of the rail. -/
def NoticeBody.ofRail (b : NoticeBody) : Prop := b.kind = 7

/-- Notices raised in order at an ms time. -/
def Link.tell (l : Link) (told : List NoticeBody) (ms : W32) : Link := told.foldl (fun l b => l.note b ms) l

/-- The operation changes the rail record and raises at most `n` notices of the rail, both by the record alone, and
neither reads nor changes the counts of reads. -/
def Plays (n : Nat) (f : State → State) : Prop :=
  ∃ (record : Rail → Rail) (told : Rail → List NoticeBody),
    (∀ s, f s = { s with rail := record s.rail, link := s.link.tell (told s.rail) s.clock.ms }) ∧
    (∀ r, (told r).length ≤ n ∧ ∀ b ∈ told r, b.ofRail) ∧
    ∀ r a b, record (r.withRuns a b) = (record r).withRuns a b ∧ told (r.withRuns a b) = told r

theorem Plays.rest (n : Nat) : Plays n id :=
  ⟨id, fun _ => [], fun _ => rfl, fun _ => ⟨Nat.zero_le _, List.forall_mem_nil _⟩, fun _ _ _ => ⟨rfl, rfl⟩⟩

theorem Plays.record {f : Rail → Rail} (hf : ∀ r a b, f (r.withRuns a b) = (f r).withRuns a b) (n : Nat) :
    Plays n fun s => s.withRail (f s.rail) :=
  ⟨f, fun _ => [], fun _ => rfl, fun _ => ⟨Nat.zero_le _, List.forall_mem_nil _⟩, fun r a b => ⟨hf r a b, rfl⟩⟩

theorem Plays.change {f g : Rail → Rail} (hf : ∀ r a b, f (r.withRuns a b) = (f r).withRuns a b)
    (hg : ∀ r a b, g (r.withRuns a b) = (g r).withRuns a b) (cause : RailCause) (why : RailReason) :
    Plays 1 fun s => railChange (f s.rail) (g s.rail) cause why s :=
  ⟨f, fun r => [.railState (f r).state (g r).target (g r).origin cause why ((g r).runUs / 1000) (f r).supply],
    fun _ => rfl, fun _ => ⟨Nat.le_refl 1, fun _ hb => List.mem_singleton.1 hb ▸ rfl⟩,
    fun r a b => ⟨hf r a b, by dsimp only; rw [hf, hg]; rfl⟩⟩

theorem Plays.ite {n : Nat} {f g : State → State} {p : Rail → Prop} [DecidablePred p]
    (hp : ∀ r a b, p (r.withRuns a b) ↔ p r) (hf : Plays n f) (hg : Plays n g) :
    Plays n fun s => if p s.rail then f s else g s := by
  obtain ⟨fr, ft, hf, hfn, hfr⟩ := hf
  obtain ⟨gr, gt, hg, hgn, hgr⟩ := hg
  refine ⟨fun r => if p r then fr r else gr r, fun r => if p r then ft r else gt r, fun s => ?_, fun r => ?_, fun r a b => ?_⟩
  · by_cases h : p s.rail
    · simp only [if_pos h, hf]
    · simp only [if_neg h, hg]
  · by_cases h : p r
    · simp only [if_pos h, hfn r, true_and]
      exact (hfn r).2
    · simp only [if_neg h, hgn r, true_and]
      exact (hgn r).2
  · simp only [hp]
    by_cases h : p r
    · simp only [if_pos h]
      exact hfr r a b
    · simp only [if_neg h]
      exact hgr r a b

/-- An operation that is another one in each state of the rail. -/
theorem Plays.byState {n : Nat} {f : State → State}
    (h : ∀ st, ∃ g, Plays n g ∧ ∀ s : State, s.rail.state = st → f s = g s) : Plays n f := by
  choose g hg hfg using h
  choose record told hrun htold hruns using hg
  refine ⟨fun r => record r.state r, fun r => told r.state r, fun s => ?_, fun r => htold _ r, fun r a b => hruns _ r a b⟩
  rw [hfg s.rail.state s rfl, hrun]

theorem Link.tell_append (l : Link) (a b : List NoticeBody) (ms : W32) : l.tell (a ++ b) ms = (l.tell a ms).tell b ms :=
  List.foldl_append ..

theorem Plays.comp {m n : Nat} {f g : State → State} (hg : Plays n g) (hf : Plays m f) : Plays (m + n) fun s => g (f s) := by
  obtain ⟨fr, ft, hf, hfn, hfr⟩ := hf
  obtain ⟨gr, gt, hg, hgn, hgr⟩ := hg
  refine ⟨fun r => gr (fr r), fun r => ft r ++ gt (fr r), fun s => ?_, fun r => ⟨?_, fun b hb => ?_⟩, fun r a b => ⟨?_, ?_⟩⟩
  · dsimp only
    rw [hg, hf, Link.tell_append]
  · rw [List.length_append]
    exact Nat.add_le_add (hfn r).1 (hgn _).1
  · exact (List.mem_append.1 hb).elim ((hfn r).2 b) ((hgn _).2 b)
  · dsimp only
    rw [(hfr r a b).1, (hgr _ a b).1]
  · dsimp only
    rw [(hfr r a b).1, (hfr r a b).2, (hgr _ a b).2]

theorem Plays.mono {m n : Nat} {f : State → State} (hf : Plays m f) (h : m ≤ n) : Plays n f := by
  obtain ⟨record, told, hrun, htold, hruns⟩ := hf
  exact ⟨record, told, hrun, fun r => ⟨(htold r).1.trans h, (htold r).2⟩, hruns⟩

/-! ### The judging of the levels -/

section
variable {e : RailEnd} {on : Bool} {s : State}

theorem switchJudge_retracted (h : s.rail.state = .retracted) : switchJudge e on s =
    if e = .retracted ∧ on = false then railRest .unknown .switchLost s else s := by
  rw [switchJudge]
  dsimp only
  rw [h]

theorem switchJudge_engaged (h : s.rail.state = .engaged) : switchJudge e on s =
    if e = .engaged ∧ on = false then railRest .unknown .switchLost s else s := by
  rw [switchJudge]
  dsimp only
  rw [h]

theorem switchJudge_unknown (h : s.rail.state = .unknown) : switchJudge e on s =
    if on = true ∧ s.rail.alone e = true then railRest e.state .found s else s := by
  rw [switchJudge]
  dsimp only
  rw [h]

theorem switchJudge_fault (h : s.rail.state = .fault) : switchJudge e on s = s := by
  rw [switchJudge]
  dsimp only
  rw [h]

theorem switchJudge_travel (h : s.rail.state = .moving ∨ s.rail.state = .paused) : switchJudge e on s =
    if on = true ∧ s.rail.alone e = true ∧ s.rail.target = some e then railArrive e s else s := by
  rw [switchJudge]
  dsimp only
  obtain h | h := h
  · rw [h]
  · rw [h]

/-- A change of the origin while the rail waits, with its notice. -/
def railOrigin (og : RailOrigin) (cause : RailCause) (s : State) : State :=
  railChange { s.rail with origin := some og } { s.rail with origin := some og } cause .none s

theorem switchJudge_waitClear (h : s.rail.state = .waitClear) : switchJudge e on s =
    if on = false then
      if s.rail.origin = some e.origin then railOrigin .unknown .switchLost s else s
    else if s.rail.alone e = true ∧ s.rail.origin = some .unknown then
      if s.rail.target = some e then railArrive e s else railOrigin e.origin .found s
    else s := by
  rw [switchJudge, railOrigin, railOrigin]
  dsimp only
  rw [h]

end

theorem plays_railRest (st : RailState) (cause : RailCause) : Plays 1 (railRest st cause) :=
  .change (f := fun r => r.enterRest st none) (g := id) (fun _ _ _ => rfl) (fun _ _ _ => rfl) _ _

theorem plays_railArrive (e : RailEnd) : Plays 1 (railArrive e) :=
  .change (f := fun r => r.enterRest e.state none) (g := id) (fun _ _ _ => rfl) (fun _ _ _ => rfl) _ _

theorem plays_railFault (why : FaultReason) : Plays 1 (railFault why) :=
  .change (f := fun r => r.enterRest .fault (some why)) (g := id) (fun _ _ _ => rfl) (fun _ _ _ => rfl) _ _

theorem plays_railOrigin (og : RailOrigin) (cause : RailCause) : Plays 1 (railOrigin og cause) :=
  .change (f := fun r => { r with origin := some og }) (g := fun r => { r with origin := some og })
    (fun _ _ _ => rfl) (fun _ _ _ => rfl) _ _

theorem plays_switchJudge (e : RailEnd) (on : Bool) : Plays 1 (switchJudge e on) := by
  refine .byState fun st => ?_
  cases st with
  | retracted => exact ⟨_, .ite (p := fun _ => e = .retracted ∧ on = false) (fun _ _ _ => Iff.rfl) (plays_railRest ..) (.rest _),
      fun _ h => switchJudge_retracted h⟩
  | engaged => exact ⟨_, .ite (p := fun _ => e = .engaged ∧ on = false) (fun _ _ _ => Iff.rfl) (plays_railRest ..) (.rest _),
      fun _ h => switchJudge_engaged h⟩
  | unknown => exact ⟨_, .ite (p := fun r => on = true ∧ r.alone e = true) (fun _ _ _ => by cases e <;> rfl) (plays_railRest ..) (.rest _),
      fun _ h => switchJudge_unknown h⟩
  | fault => exact ⟨_, .rest _, fun _ h => switchJudge_fault h⟩
  | moving => exact ⟨_, .ite (p := fun r => on = true ∧ r.alone e = true ∧ r.target = some e) (fun _ _ _ => by cases e <;> rfl)
      (plays_railArrive e) (.rest _), fun _ h => switchJudge_travel (.inl h)⟩
  | paused => exact ⟨_, .ite (p := fun r => on = true ∧ r.alone e = true ∧ r.target = some e) (fun _ _ _ => by cases e <;> rfl)
      (plays_railArrive e) (.rest _), fun _ h => switchJudge_travel (.inr h)⟩
  | waitClear => exact ⟨_, .ite (p := fun _ => on = false) (fun _ _ _ => Iff.rfl)
      (.ite (p := fun r => r.origin = some e.origin) (fun _ _ _ => Iff.rfl) (plays_railOrigin ..) (.rest _))
      (.ite (p := fun r => r.alone e = true ∧ r.origin = some .unknown) (fun _ _ _ => by cases e <;> rfl)
        (.ite (p := fun r => r.target = some e) (fun _ _ _ => Iff.rfl) (plays_railArrive e) (plays_railOrigin ..)) (.rest _)),
      fun _ h => switchJudge_waitClear h⟩

theorem withSwitch_withRuns (r : Rail) (e : RailEnd) (on : Bool) (a b : Nat) :
    (r.withRuns a b).withSwitch e on = (r.withSwitch e on).withRuns a b := by
  cases e <;> rfl

theorem plays_switchOne (e : RailEnd) (on : Bool) : Plays 1 (switchOne e on) :=
  .comp (.ite (p := fun r => r.eng = true ∧ r.ret = true ∧ r.state ≠ .fault) (fun _ _ _ => Iff.rfl) (plays_railFault _)
    (plays_switchJudge e on)) (.record (f := fun r => r.withSwitch e on) (fun r a b => withSwitch_withRuns r e on a b) 0)

theorem plays_switchLevels (eng ret : Bool) : Plays 2 (switchLevels eng ret) := by
  have hone (e : RailEnd) (on : Bool) : Plays 2 (switchOne e on) := (plays_switchOne e on).mono (Nat.le_succ 1)
  exact .ite (p := fun r => r.eng = eng ∧ r.ret = ret) (fun _ _ _ => Iff.rfl) (.rest _)
    (.ite (p := fun r => r.ret = ret) (fun _ _ _ => Iff.rfl) (hone ..)
      (.ite (p := fun r => r.eng = eng) (fun _ _ _ => Iff.rfl) (hone ..)
        (.ite (p := fun _ => eng = true ∧ (!ret) = true) (fun _ _ _ => Iff.rfl)
          ((plays_switchOne ..).comp (plays_switchOne ..))
          (.ite (p := fun _ => ret = true ∧ (!eng) = true) (fun _ _ _ => Iff.rfl)
            ((plays_switchOne ..).comp (plays_switchOne ..))
            (((plays_switchOne .engaged eng).comp (plays_switchOne .retracted ret)).comp
              (.record (f := fun r => { r with eng := eng, ret := ret }) (fun _ _ _ => rfl) 0))))))

/-! ### The row of the switch event -/

/-- The record with the filtered levels of a switch event, its counts of reads cleared. -/
def Rail.seen (r : Rail) (eng ret : Bool) : Rail := { r with eng := eng, ret := ret, engRun := 0, retRun := 0 }

theorem takeSwitchEvent_frame (eng ret : Bool) (s : State) : RailFrame s (takeSwitchEvent eng ret s) := by
  unfold takeSwitchEvent
  split
  · exact RailFrame.refl s
  · exact (withRail_railFrame s _).trans (switchLevels_frame ..)

theorem exec_switchEvent {s : State} (hs : s.Steady) (eng ret : Bool) :
    exec (.switchEvent eng ret) s = .next (chooseTx (takeSwitchEvent eng ret s)) :=
  exec_railEvent (fun _ => rfl) (takeSwitchEvent_frame eng ret) hs

theorem takeSwitchEvent_changed {s : State} {eng ret : Bool} (h : ¬(s.rail.eng = eng ∧ s.rail.ret = ret)) :
    takeSwitchEvent eng ret s = switchLevels eng ret (s.withRail (s.rail.withRuns 0 0)) := if_neg h

theorem switchOne_judge {e : RailEnd} {on : Bool} {s : State} (h : s.rail.state = .fault ∨
    (s.rail.withSwitch e on).eng = false ∨ (s.rail.withSwitch e on).ret = false) :
    switchOne e on s = switchJudge e on (s.withRail (s.rail.withSwitch e on)) := by
  refine if_neg fun hall => ?_
  obtain ⟨heng, hret, hst⟩ := hall
  obtain h | h | h := h
  · refine hst ?_
    cases e
    · exact h
    · exact h
  · exact Bool.noConfusion (h.symm.trans heng)
  · exact Bool.noConfusion (h.symm.trans hret)

theorem switchOne_both {e : RailEnd} {on : Bool} {s : State} (hst : s.rail.state ≠ .fault)
    (heng : (s.rail.withSwitch e on).eng = true) (hret : (s.rail.withSwitch e on).ret = true) :
    switchOne e on s = railFault .switch (s.withRail (s.rail.withSwitch e on)) := by
  refine if_pos ⟨heng, hret, ?_⟩
  cases e
  · exact hst
  · exact hst

theorem switchLevels_one {e : RailEnd} {on : Bool} {s : State} (h : s.rail.switchOfEnd e ≠ on) :
    switchLevels (s.rail.withSwitch e on).eng (s.rail.withSwitch e on).ret s = switchOne e on s := by
  cases e with
  | engaged => exact (if_neg fun hand => h hand.1).trans (if_pos rfl)
  | retracted => exact (if_neg fun hand => h hand.2).trans ((if_neg h).trans (if_pos rfl))

/-- One switch changed: its end is judged with the levels as they now are. -/
theorem takeSwitchEvent_one {s : State} {e : RailEnd} {on eng ret : Bool} (h : s.rail.switchOfEnd e ≠ on)
    (heng : (s.rail.withSwitch e on).eng = eng) (hret : (s.rail.withSwitch e on).ret = ret)
    (hnot : s.rail.state = .fault ∨ eng = false ∨ ret = false) :
    takeSwitchEvent eng ret s = switchJudge e on (s.withRail (s.rail.seen eng ret)) := by
  have hchanged : ¬(s.rail.eng = eng ∧ s.rail.ret = ret) := by
    rintro ⟨he, hr⟩
    cases e with
    | engaged => exact h (he.trans heng.symm)
    | retracted => exact h (hr.trans hret.symm)
  subst heng hret
  rw [takeSwitchEvent_changed hchanged]
  cases e with
  | engaged =>
    refine (switchLevels_one (e := .engaged) (on := on) (s := s.withRail (s.rail.withRuns 0 0)) h).trans ?_
    exact switchOne_judge hnot
  | retracted =>
    refine (switchLevels_one (e := .retracted) (on := on) (s := s.withRail (s.rail.withRuns 0 0)) h).trans ?_
    exact switchOne_judge hnot

theorem switchOne_fault {e : RailEnd} {on : Bool} {s : State} (h : s.rail.state = .fault) :
    switchOne e on s = s.withRail (s.rail.withSwitch e on) := by
  rw [switchOne_judge (.inl h), switchJudge_fault]
  cases e
  · exact h
  · exact h

/-- In FAULT the levels are kept. -/
theorem switchLevels_fault {s : State} (h : s.rail.state = .fault) (eng ret : Bool) :
    switchLevels eng ret s = s.withRail { s.rail with eng := eng, ret := ret } := by
  rw [switchLevels]
  dsimp only
  split
  next hsame =>
    obtain ⟨rfl, rfl⟩ := hsame
    rfl
  split
  next hret =>
    subst hret
    exact switchOne_fault h
  split
  next heng =>
    subst heng
    exact switchOne_fault h
  split
  next hone =>
    obtain ⟨rfl, hret⟩ := hone
    obtain rfl : ret = false := by simpa using hret
    rw [switchOne_fault h]
    exact switchOne_fault h
  split
  next hone =>
    obtain ⟨rfl, heng⟩ := hone
    obtain rfl : eng = false := by simpa using heng
    rw [switchOne_fault h]
    exact switchOne_fault h
  · rw [switchOne_fault (e := .retracted) (s := s.withRail { s.rail with eng := eng, ret := ret }) h]
    exact switchOne_fault h

/-- Both switches asserted outside FAULT is the switch fault. -/
theorem switchLevels_both {s : State} (h : s.rail.state ≠ .fault) (hchanged : ¬(s.rail.eng = true ∧ s.rail.ret = true)) :
    switchLevels true true s = railFault .switch (s.withRail { s.rail with eng := true, ret := true }) := by
  rw [switchLevels]
  dsimp only
  rw [if_neg hchanged]
  by_cases hret : s.rail.ret = true
  · rw [if_pos hret, switchOne_both (e := .engaged) (on := true) h rfl hret]
    rw [← hret]
    rfl
  rw [if_neg hret]
  by_cases heng : s.rail.eng = true
  · rw [if_pos heng, switchOne_both (e := .retracted) (on := true) h heng rfl]
    rw [← heng]
    rfl
  · rw [if_neg heng]
    refine (if_neg nofun).trans ((if_neg nofun).trans ?_)
    rw [switchOne_both (e := .retracted) (on := true) (s := s.withRail { s.rail with eng := true, ret := true }) h rfl rfl]
    exact switchOne_fault rfl

theorem chooseTx_withRail {s : State} (h : s.link.Settled) (r : Rail) : chooseTx (s.withRail r) = s.withRail r :=
  chooseTx_of_settled (s := s.withRail r) h

theorem eq_nil_or_singleton {α : Type} {l : List α} (h : l.length ≤ 1) : l = [] ∨ ∃ a, l = [a] := by
  cases l with
  | nil => exact .inl rfl
  | cons a l =>
    obtain rfl := List.length_eq_zero_iff.1 (Nat.le_zero.1 (Nat.le_of_succ_le_succ h))
    exact .inr ⟨a, rfl⟩

theorem chooseTx_railChange (r shown : Rail) (cause : RailCause) (why : RailReason) (s : State) :
    chooseTx (railChange r shown cause why s) = { s with
      rail := r
      link := s.link.notify (.railState r.state shown.target shown.origin cause why (shown.runUs / 1000) r.supply)
        s.clock.ms } := rfl

/-- Judging one switch after another, the transmitter's choice between them changes nothing. -/
theorem switchJudge_between {s : State} (hs : s.link.Settled) (e e' : RailEnd) (on on' : Bool) (f : Rail → Rail) :
    chooseTx (switchJudge e' on' ((chooseTx (switchJudge e on s)).withRail (f (switchJudge e on s).rail))) =
      chooseTx (switchJudge e' on' ((switchJudge e on s).withRail (f (switchJudge e on s).rail))) := by
  obtain ⟨record, told, hrun, htold, -⟩ := plays_switchJudge e on
  obtain ⟨record', told', hrun', htold', -⟩ := plays_switchJudge e' on'
  rw [hrun', hrun', hrun]
  have hlink : ((s.link.tell (told s.rail) s.clock.ms).transmit.tell (told' (f (record s.rail))) s.clock.ms).transmit =
      ((s.link.tell (told s.rail) s.clock.ms).tell (told' (f (record s.rail))) s.clock.ms).transmit := by
    obtain ⟨hlen, hkind⟩ := htold s.rail
    obtain ⟨hlen', hkind'⟩ := htold' (f (record s.rail))
    generalize told s.rail = first at hlen hkind
    generalize told' (f (record s.rail)) = second at hlen' hkind'
    obtain rfl | ⟨b, rfl⟩ := eq_nil_or_singleton hlen
    · have hnil : s.link.tell [] s.clock.ms = s.link := rfl
      rw [hnil, Link.transmit_of_settled hs]
    obtain rfl | ⟨c, rfl⟩ := eq_nil_or_singleton hlen'
    · exact Link.transmit_transmit _
    · exact transmit_between hs
        ((hkind' c (List.mem_singleton_self c)).trans (hkind b (List.mem_singleton_self b)).symm) _
  exact congrArg (fun l => ({ s with rail := record' (f (record s.rail)), link := l } : State)) hlink

theorem switchJudge_levels (e : RailEnd) (on : Bool) (s : State) :
    (switchJudge e on s).rail.eng = s.rail.eng ∧ (switchJudge e on s).rail.ret = s.rail.ret ∧
      (switchJudge e on s).rail.withRuns s.rail.engRun s.rail.retRun = (switchJudge e on s).rail := by
  cases hst : s.rail.state with
  | retracted =>
    rw [switchJudge_retracted hst]
    split
    · exact ⟨rfl, rfl, rfl⟩
    · exact ⟨rfl, rfl, rfl⟩
  | engaged =>
    rw [switchJudge_engaged hst]
    split
    · exact ⟨rfl, rfl, rfl⟩
    · exact ⟨rfl, rfl, rfl⟩
  | unknown =>
    rw [switchJudge_unknown hst]
    split
    · exact ⟨rfl, rfl, rfl⟩
    · exact ⟨rfl, rfl, rfl⟩
  | fault =>
    rw [switchJudge_fault hst]
    exact ⟨rfl, rfl, rfl⟩
  | moving =>
    rw [switchJudge_travel (.inl hst)]
    split
    · exact ⟨rfl, rfl, rfl⟩
    · exact ⟨rfl, rfl, rfl⟩
  | paused =>
    rw [switchJudge_travel (.inr hst)]
    split
    · exact ⟨rfl, rfl, rfl⟩
    · exact ⟨rfl, rfl, rfl⟩
  | waitClear =>
    rw [switchJudge_waitClear hst]
    repeat' split
    all_goals exact ⟨rfl, rfl, rfl⟩

/-- The other end. -/
def RailEnd.other : RailEnd → RailEnd
  | .engaged => .retracted
  | .retracted => .engaged

theorem withSwitch_of_level {r : Rail} {e : RailEnd} {on : Bool} (h : r.switchOfEnd e = on) : r.withSwitch e on = r := by
  cases e with
  | engaged =>
    cases h
    rfl
  | retracted =>
    cases h
    rfl

theorem switchJudge_switchOfEnd (e : RailEnd) (on : Bool) (s : State) (e' : RailEnd) :
    (switchJudge e on s).rail.switchOfEnd e' = s.rail.switchOfEnd e' := by
  obtain ⟨heng, hret, -⟩ := switchJudge_levels e on s
  cases e'
  · exact hret
  · exact heng

/-- The state after the deassertion that begins a change of both levels, before the transmitter's choice. -/
def State.deasserted (s : State) (e : RailEnd) : State := switchJudge e false (s.withRail (s.rail.seen false false))

theorem takeSwitchEvent_swap {s : State} {e : RailEnd} (hon : s.rail.switchOfEnd e = false)
    (hoff : s.rail.switchOfEnd e.other = true) :
    takeSwitchEvent (decide (e = .engaged)) (decide (e = .retracted)) s =
      switchJudge e true ((s.deasserted e.other).withRail ((s.deasserted e.other).rail.withSwitch e true)) := by
  have hseen : (s.rail.withRuns 0 0).withSwitch e.other false = s.rail.seen false false := by
    rw [Rail.seen, ← hon]
    cases e
    · rw [hon]
      exact congrArg (fun b => { s.rail with eng := false, ret := b, engRun := 0, retRun := 0 }) hon
    · rw [hon]
      exact congrArg (fun b => { s.rail with eng := b, ret := false, engRun := 0, retRun := 0 }) hon
  have hchanged : ¬(s.rail.eng = decide (e = .engaged) ∧ s.rail.ret = decide (e = .retracted)) := by
    rintro ⟨he, hr⟩
    cases e
    · exact Bool.noConfusion (hon.symm.trans hr)
    · exact Bool.noConfusion (hon.symm.trans he)
  have hlevels : switchLevels (decide (e = .engaged)) (decide (e = .retracted)) (s.withRail (s.rail.withRuns 0 0)) =
      switchOne e true (switchOne e.other false (s.withRail (s.rail.withRuns 0 0))) := by
    rw [switchLevels]
    dsimp only
    refine (if_neg (by exact hchanged)).trans ?_
    cases e with
    | retracted =>
      refine (if_neg ?_).trans ((if_neg ?_).trans ((if_neg nofun).trans (if_pos ⟨rfl, rfl⟩)))
      · exact ne_true_of_eq_false hon
      · exact fun h => Bool.noConfusion (hoff.symm.trans h)
    | engaged =>
      refine (if_neg ?_).trans ((if_neg ?_).trans (if_pos ⟨rfl, rfl⟩))
      · exact fun h => Bool.noConfusion (hoff.symm.trans h)
      · exact ne_true_of_eq_false hon
  have hfirst : switchOne e.other false (s.withRail (s.rail.withRuns 0 0)) = s.deasserted e.other := by
    rw [switchOne_judge, State.withRail_rail, hseen]
    · rfl
    · rw [State.withRail_rail, hseen]
      exact .inr (.inl rfl)
  rw [takeSwitchEvent_changed hchanged, hlevels, hfirst, switchOne_judge]
  refine .inr ?_
  obtain ⟨heng, hret, -⟩ := switchJudge_levels e.other false (s.withRail (s.rail.seen false false))
  cases e
  · exact .inl heng
  · exact .inr hret

theorem takeSwitchEvent_released {s : State} (heng : s.rail.eng = true) (hret : s.rail.ret = true) :
    takeSwitchEvent false false s = switchJudge .engaged false (s.deasserted .retracted) := by
  have hchanged : ¬(s.rail.eng = false ∧ s.rail.ret = false) := fun h => Bool.noConfusion (heng.symm.trans h.1)
  have hlevels : switchLevels false false (s.withRail (s.rail.withRuns 0 0)) =
      switchOne .engaged false (switchOne .retracted false (s.withRail (s.rail.seen false false))) := by
    rw [switchLevels]
    dsimp only
    refine (if_neg (by exact hchanged)).trans ((if_neg ?_).trans ((if_neg ?_).trans ((if_neg nofun).trans (if_neg nofun))))
    · exact fun h => Bool.noConfusion (hret.symm.trans h)
    · exact fun h => Bool.noConfusion (heng.symm.trans h)
  have hfirst : switchOne .retracted false (s.withRail (s.rail.seen false false)) = s.deasserted .retracted :=
    switchOne_judge (.inr (.inl rfl))
  obtain ⟨hlevel, -, -⟩ := switchJudge_levels .retracted false (s.withRail (s.rail.seen false false))
  rw [takeSwitchEvent_changed hchanged, hlevels, hfirst, switchOne_judge (.inr (.inl rfl)),
    withSwitch_of_level (r := (s.deasserted .retracted).rail) (e := .engaged) (on := false) hlevel]
  rfl

/-- The whole change of both levels is the deassertion's step and then the assertion's. -/
theorem exec_switchSwap {s : State} (hs : s.Steady) {e : RailEnd} (hon : s.rail.switchOfEnd e = false)
    (hoff : s.rail.switchOfEnd e.other = true) : ∃ u, exec (.switchEvent false false) s = .next u ∧
      exec (.switchEvent (decide (e = .engaged)) (decide (e = .retracted))) s =
        exec (.switchEvent (decide (e = .engaged)) (decide (e = .retracted))) u := by
  have hdeassert : takeSwitchEvent false false s = s.deasserted e.other := by
    refine takeSwitchEvent_one ?_ ?_ ?_ (.inr (.inl rfl))
    · rw [hoff]
      decide
    · cases e
      · rfl
      · exact hon
    · cases e
      · exact hon
      · rfl
  have hexec := exec_switchEvent hs false false
  rw [hdeassert] at hexec
  have hframe : RailFrame s (s.deasserted e.other) := (withRail_railFrame s _).trans (switchJudge_frame ..)
  have hrunning : (s.deasserted e.other).running = s.running := hframe.field State.running fun _ _ _ _ => rfl
  have hsteady : (chooseTx (s.deasserted e.other)).Steady := by
    refine ⟨hrunning.trans hs.1, ?_⟩
    rw [← pump_of_steady hs hrunning hframe.core]
    exact pump_settled (hrunning.trans hs.1)
  obtain ⟨heng, hret, hruns⟩ := switchJudge_levels e.other false (s.withRail (s.rail.seen false false))
  have hseen : (s.deasserted e.other).rail.seen (decide (e = .engaged)) (decide (e = .retracted)) =
      (s.deasserted e.other).rail.withSwitch e true := by
    rw [State.deasserted, ← hruns]
    cases e
    · exact congrArg (fun b => { (switchJudge RailEnd.retracted.other false (s.withRail (s.rail.seen false false))).rail with
        eng := b, ret := true, engRun := 0, retRun := 0 }) heng.symm
    · exact congrArg (fun b => { (switchJudge RailEnd.engaged.other false (s.withRail (s.rail.seen false false))).rail with
        eng := true, ret := b, engRun := 0, retRun := 0 }) hret.symm
  have hsecond : takeSwitchEvent (decide (e = .engaged)) (decide (e = .retracted)) (chooseTx (s.deasserted e.other)) =
      switchJudge e true ((chooseTx (s.deasserted e.other)).withRail ((s.deasserted e.other).rail.withSwitch e true)) := by
    rw [← hseen]
    refine takeSwitchEvent_one (s := chooseTx (s.deasserted e.other)) ?_ ?_ ?_ (.inr ?_)
    · refine ne_true_of_eq_false ?_
      cases e
      · exact hret
      · exact heng
    · cases e
      · exact heng
      · rfl
    · cases e
      · rfl
      · exact hret
    · cases e
      · exact .inl rfl
      · exact .inr rfl
  refine ⟨_, hexec, ?_⟩
  rw [exec_switchEvent hs, exec_switchEvent hsteady, takeSwitchEvent_swap hon hoff, hsecond]
  exact congrArg _ (switchJudge_between (s := s.withRail (s.rail.seen false false)) hs.2 e.other e false true
    (fun r => r.withSwitch e true)).symm

/-- Settles O49: every change of the levels is the judging of one switch after another. -/
theorem switchEventsJudgeTheLevels : Obligations.SwitchEventsJudgeTheLevels := by
  intro s eng ret hs r seen rest told run
  have hrun : run = .next (chooseTx (takeSwitchEvent eng ret s)) := exec_switchEvent hs eng ret
  have hone {e : RailEnd} {on : Bool} (h : s.rail.switchOfEnd e ≠ on) (heng : (s.rail.withSwitch e on).eng = eng)
      (hret : (s.rail.withSwitch e on).ret = ret) (hnot : eng = false ∨ ret = false) :
      run = .next (chooseTx (switchJudge e on (s.withRail (s.rail.seen eng ret)))) := by
    rw [hrun, takeSwitchEvent_one h heng hret (.inr hnot)]
  have hkept : chooseTx (s.withRail (s.rail.seen eng ret)) = { s with rail := seen } := chooseTx_withRail hs.2 _
  clear_value run
  refine ⟨fun he hr => ?_, fun hchanged => ⟨fun h => ?_, fun h he hr => ?_, fun h hr hr' he => ?_, fun h he he' hr => ?_,
    fun e he hr heng hret => ?_, fun e heng hret he hr => ?_, fun he hr hne => ?_, fun heng hret he hr h => ?_⟩⟩
  · rw [hrun, takeSwitchEvent, if_pos ⟨he.symm, hr.symm⟩, chooseTx_of_settled hs.2]
  all_goals have hchanged : ¬(s.rail.eng = eng ∧ s.rail.ret = ret) := fun h => hchanged.elim (· h.1.symm) (· h.2.symm)
  · rw [hrun, takeSwitchEvent_changed hchanged, switchLevels_fault (by exact h)]
    exact congrArg Host.Outcome.next hkept
  · subst he hr
    have hboth := switchLevels_both (s := s.withRail (s.rail.withRuns 0 0)) h hchanged
    rw [hrun, takeSwitchEvent_changed hchanged, hboth, railFault, chooseTx_railChange]
    rfl
  · rw [hone (e := .retracted) (on := false) (by rw [Rail.switchOfEnd, hr]; decide) he.symm hr'.symm (.inr hr'),
      switchJudge_retracted (by exact h), if_pos ⟨rfl, rfl⟩]
    rfl
  · rw [hone (e := .engaged) (on := false) (by rw [Rail.switchOfEnd, he]; decide) he'.symm hr.symm (.inl he'),
      switchJudge_engaged (by exact h), if_pos ⟨rfl, rfl⟩]
    rfl
  · have hjudge : run = .next (chooseTx (switchJudge e true (s.withRail (s.rail.seen eng ret)))) := by
      refine hone (e := e) (on := true) ?_ ?_ ?_ ?_
      · cases e
        · exact ne_true_of_eq_false hret
        · exact ne_true_of_eq_false heng
      · rw [he]
        cases e
        · exact heng
        · rfl
      · rw [hr]
        cases e
        · rfl
        · exact hret
      · rw [he, hr]
        cases e
        · exact .inl rfl
        · exact .inr rfl
    have halone : (s.rail.seen eng ret).alone e = true := by
      rw [he, hr]
      cases e
      · rfl
      · rfl
    refine ⟨fun h => ?_, fun h ht => ?_, fun h ht => ?_, fun h ho ht => ?_, fun h ho => ?_⟩
    · rw [hjudge, switchJudge_unknown (by exact h), if_pos (by exact ⟨rfl, halone⟩), railRest, chooseTx_railChange]
      rfl
    · have harrive : switchJudge e true (s.withRail (s.rail.seen eng ret)) = railArrive e (s.withRail (s.rail.seen eng ret)) := by
        obtain h | h | ⟨h, ho⟩ := h
        · exact (switchJudge_travel (s := s.withRail (s.rail.seen eng ret)) (.inl h)).trans (if_pos ⟨rfl, halone, ht⟩)
        · exact (switchJudge_travel (s := s.withRail (s.rail.seen eng ret)) (.inr h)).trans (if_pos ⟨rfl, halone, ht⟩)
        · exact (switchJudge_waitClear (s := s.withRail (s.rail.seen eng ret)) h).trans
            ((if_neg nofun).trans ((if_pos ⟨halone, ho⟩).trans (if_pos ht)))
      rw [hjudge, harrive, railArrive, chooseTx_railChange]
      rfl
    · rw [hjudge, switchJudge_travel (by exact h), if_neg fun hall => ht hall.2.2, hkept]
    · have horigin := (switchJudge_waitClear (s := s.withRail (s.rail.seen eng ret)) (e := e) (on := true) h).trans
        ((if_neg nofun).trans ((if_pos ⟨halone, ho⟩).trans (if_neg ht)))
      rw [hjudge, horigin, railOrigin, chooseTx_railChange]
      rw [← h]
      rfl
    · have hkeep := (switchJudge_waitClear (s := s.withRail (s.rail.seen eng ret)) (e := e) (on := true) h).trans
        ((if_neg nofun).trans (if_neg fun hall => ho hall.2))
      rw [hjudge, hkeep, hkept]
  · have hjudge : run = .next (chooseTx (switchJudge e false (s.withRail (s.rail.seen eng ret)))) := by
      refine hone (e := e) (on := false) ?_ ?_ ?_ (.inl he)
      · cases e
        · exact (hret.trans rfl).trans_ne nofun
        · exact (heng.trans rfl).trans_ne nofun
      · rw [he]
        cases e
        · exact heng
        · rfl
      · rw [hr]
        cases e
        · rfl
        · exact hret
    refine ⟨fun h => ?_, fun h ho => ?_, fun h ho => ?_⟩
    · have hkeep : switchJudge e false (s.withRail (s.rail.seen eng ret)) = s.withRail (s.rail.seen eng ret) := by
        obtain h | h | h := h
        · exact (switchJudge_travel (s := s.withRail (s.rail.seen eng ret)) (.inl h)).trans (if_neg nofun)
        · exact (switchJudge_travel (s := s.withRail (s.rail.seen eng ret)) (.inr h)).trans (if_neg nofun)
        · exact (switchJudge_unknown (s := s.withRail (s.rail.seen eng ret)) h).trans (if_neg nofun)
      rw [hjudge, hkeep, hkept]
    · have horigin := (switchJudge_waitClear (s := s.withRail (s.rail.seen eng ret)) (e := e) (on := false) h).trans
        ((if_pos rfl).trans (if_pos ho))
      rw [hjudge, horigin, railOrigin, chooseTx_railChange]
      rw [← h]
      rfl
    · have hkeep := (switchJudge_waitClear (s := s.withRail (s.rail.seen eng ret)) (e := e) (on := false) h).trans
        ((if_pos rfl).trans (if_neg ho))
      rw [hjudge, hkeep, hkept]
  · by_cases heng : eng = true
    · obtain rfl : ret = false := by
        cases ret
        · rfl
        · exact absurd heng hne
      subst heng
      have hoff : s.rail.ret = true := eq_true_of_ne_false fun h => hr h.symm
      have hon : s.rail.eng = false := eq_false_of_ne_true fun h => he h.symm
      obtain ⟨u, hu, hru⟩ := exec_switchSwap hs (e := .engaged) hon hoff
      exact ⟨u, hu, (hrun.trans (exec_switchEvent hs true false).symm).trans hru⟩
    · obtain rfl : eng = false := eq_false_of_ne_true heng
      obtain rfl : ret = true := eq_true_of_ne_false fun h => hne h.symm
      have hoff : s.rail.eng = true := eq_true_of_ne_false fun h => he h.symm
      have hon : s.rail.ret = false := eq_false_of_ne_true fun h => hr h.symm
      obtain ⟨u, hu, hru⟩ := exec_switchSwap hs (e := .retracted) hon hoff
      exact ⟨u, hu, (hrun.trans (exec_switchEvent hs false true).symm).trans hru⟩
  · subst he hr
    rw [hrun, takeSwitchEvent_released heng hret]
    obtain ⟨u, hu⟩ : ∃ u, u = s.withRail (s.rail.seen false false) := ⟨_, rfl⟩
    have hfirst : s.deasserted .retracted = switchJudge .retracted false u := congrArg _ hu.symm
    have hstate : u.rail.state = s.rail.state := hu ▸ rfl
    have horigin : u.rail.origin = s.rail.origin := hu ▸ rfl
    have hstay : chooseTx u = { s with rail := seen } := hu ▸ hkept
    have hlost : chooseTx (railRest .unknown .switchLost u) =
        { s with rail := rest .unknown none, link := told .unknown .switchLost .none } := hu ▸ rfl
    rw [hfirst]
    refine congrArg Host.Outcome.next ?_
    cases hst : s.rail.state with
    | fault => exact absurd hst h
    | retracted =>
      have hrest : (railRest .unknown .switchLost u).rail.state = .unknown := rfl
      rw [switchJudge_retracted (hstate.trans hst), if_pos ⟨rfl, rfl⟩, switchJudge_unknown hrest, if_neg nofun, hlost]
      exact (if_pos (.inl rfl)).symm
    | engaged =>
      rw [switchJudge_engaged (e := .retracted) (hstate.trans hst), if_neg nofun, switchJudge_engaged (hstate.trans hst),
        if_pos ⟨rfl, rfl⟩, hlost]
      exact (if_pos (.inr rfl)).symm
    | unknown =>
      rw [switchJudge_unknown (e := .retracted) (hstate.trans hst), if_neg nofun, switchJudge_unknown (hstate.trans hst),
        if_neg nofun, hstay]
      exact ((if_neg fun h => h.elim nofun nofun).trans (if_neg fun h => nomatch h.1)).symm
    | moving =>
      rw [switchJudge_travel (e := .retracted) (.inl (hstate.trans hst)), if_neg nofun,
        switchJudge_travel (.inl (hstate.trans hst)), if_neg nofun, hstay]
      exact ((if_neg fun h => h.elim nofun nofun).trans (if_neg fun h => nomatch h.1)).symm
    | paused =>
      rw [switchJudge_travel (e := .retracted) (.inr (hstate.trans hst)), if_neg nofun,
        switchJudge_travel (.inr (hstate.trans hst)), if_neg nofun, hstay]
      exact ((if_neg fun h => h.elim nofun nofun).trans (if_neg fun h => nomatch h.1)).symm
    | waitClear =>
      have hwait := hstate.trans hst
      have horiginLost : chooseTx (railOrigin .unknown .switchLost u) = { s with
          rail := { seen with state := .waitClear, origin := some .unknown }
          link := s.link.notify (.railState .waitClear r.target (some .unknown) .switchLost .none (r.runUs / 1000) r.supply)
            s.clock.ms } := by
        rw [railOrigin, chooseTx_railChange, ← hwait, hu]
        rfl
      rw [if_neg fun h => h.elim nofun nofun, switchJudge_waitClear (e := .retracted) hwait, if_pos rfl]
      by_cases hret : u.rail.origin = some RailEnd.retracted.origin
      · have hwait' : (railOrigin .unknown .switchLost u).rail.state = .waitClear := hwait
        have hne : (railOrigin .unknown .switchLost u).rail.origin ≠ some RailEnd.engaged.origin := nofun
        rw [if_pos hret, switchJudge_waitClear hwait', if_pos rfl, if_neg hne, horiginLost]
        rw [if_pos (⟨rfl, .inl (horigin.symm.trans hret)⟩ :
          RailState.waitClear = .waitClear ∧ (r.origin = some .retracted ∨ r.origin = some .engaged))]
      rw [if_neg hret, switchJudge_waitClear hwait, if_pos rfl]
      by_cases heng : u.rail.origin = some RailEnd.engaged.origin
      · rw [if_pos heng, horiginLost]
        rw [if_pos (⟨rfl, .inr (horigin.symm.trans heng)⟩ :
          RailState.waitClear = .waitClear ∧ (r.origin = some .retracted ∨ r.origin = some .engaged))]
      · rw [if_neg heng, hstay]
        exact (if_neg fun h => h.2.elim (fun h => hret (horigin.trans h)) fun h => heng (horigin.trans h)).symm

end Sys2Proof.Machine
end

section
/-! PROOFS. Rail measurements (R105, R117, R120): the filters, the count of currents, and what falls due together. -/

namespace Sys2Proof.Machine

open Sys2Proof.StepRows

/-! ### The record after a measurement -/

/-- A read of the other level, the third in a row. -/
def switchChanges (level : Bool) (run : Nat) (now : Bool) : Bool := decide (now ≠ level ∧ 2 ≤ run)

/-- The filtered level after a read. -/
def levelAfter (level : Bool) (run : Nat) (now : Bool) : Bool := if switchChanges level run now then now else level

/-- The count of reads of the other level after a read. -/
def runAfter (level : Bool) (run : Nat) (now : Bool) : Nat :=
  if now = level ∨ switchChanges level run now = true then 0 else run + 1

theorem filterSwitch_eq (level : Bool) (run : Nat) (now : Bool) :
    filterSwitch level run now = (levelAfter level run now, runAfter level run now) := by
  rw [filterSwitch, levelAfter, runAfter]
  by_cases h : now = level
  · have hno : switchChanges level run now = false := decide_eq_false fun hc => hc.1 h
    rw [if_pos h, if_neg (ne_true_of_eq_false hno), if_pos (.inl h)]
  rw [if_neg h]
  by_cases hrun : 2 ≤ run
  · have hyes : switchChanges level run now = true := decide_eq_true ⟨h, hrun⟩
    rw [if_pos hrun, if_pos hyes, if_pos (.inr hyes)]
  · have hno : switchChanges level run now = false := decide_eq_false fun hc => hrun hc.2
    rw [if_neg hrun, if_neg (ne_true_of_eq_false hno), if_neg fun hc => hc.elim h (ne_true_of_eq_false hno)]

/-- The record after the reads of a measurement. -/
def Rail.counted (r : Rail) (current supply : Nat) (eng ret : Bool) : Rail :=
  { r with
    current := current, supply := supply
    engRun := runAfter r.eng r.engRun eng, retRun := runAfter r.ret r.retRun ret
    overCount := if r.state = .moving then (if r.currentLimit < current then r.overCount + 1 else 0) else r.overCount }

theorem read_eq (r : Rail) (current supply : Nat) (eng ret : Bool) : r.read current supply eng ret =
    (r.counted current supply eng ret, levelAfter r.eng r.engRun eng, levelAfter r.ret r.retRun ret) := by
  rw [Rail.read, filterSwitch_eq, filterSwitch_eq, Rail.counted]
  dsimp only
  rw [Rail.countCurrent]
  dsimp only
  by_cases h : r.state = .moving
  · rw [if_pos h, if_pos h]
  · rw [if_neg h, if_neg h]

/-- What falls due at a measurement of a state. -/
def State.dueAt (s : State) (current supply : Nat) (eng ret : Bool) : List MeasureEvent :=
  (s.rail.counted current supply eng ret).measureEvents (levelAfter s.rail.eng s.rail.engRun eng)
    (levelAfter s.rail.ret s.rail.retRun ret)

theorem takeMeasurement_eq (s : State) (current supply : Nat) (eng ret : Bool) :
    takeMeasurement current supply eng ret s = takeMeasureEvents (s.dueAt current supply eng ret).length
      (s.dueAt current supply eng ret) (s.withRail (s.rail.counted current supply eng ret)) := by
  rw [takeMeasurement, read_eq]
  rfl

theorem takeOvercurrent_eq (s : State) (current supply : Nat) (eng ret : Bool) :
    takeOvercurrent current supply eng ret s =
      if s.rail.state = .moving ∧ 20 ≤ (s.rail.counted current supply eng ret).overCount then
        takeMeasurement current supply eng ret s else s := by
  rw [takeOvercurrent, read_eq]
  rfl

/-! ### The things due, each by itself -/

theorem takeMeasureEvent_frame (s : State) (e : MeasureEvent) : RailFrame s (takeMeasureEvent s e) := by
  cases e with
  | overcurrent =>
    rw [takeMeasureEvent]
    split
    · exact railChange_frame ..
    · exact RailFrame.refl s
  | switches eng ret => exact switchLevels_frame ..
  | clearWait => exact takeClearWait_frame s
  | runLimit => exact takeRunLimit_frame s

theorem drawChoice_railFrame (n : Nat) (s : State) : RailFrame s (drawChoice n s).2 := withChoices_railFrame ..

theorem takeMeasureEvents_frame (n : Nat) (es : List MeasureEvent) (s : State) : RailFrame s (takeMeasureEvents n es s) := by
  induction n generalizing es s with
  | zero => exact RailFrame.refl s
  | succ n ih =>
    match es with
    | [] => exact RailFrame.refl s
    | [e] => exact takeMeasureEvent_frame s e
    | e :: f :: es => exact (drawChoice_railFrame (e :: f :: es).length s).trans ((takeMeasureEvent_frame ..).trans (ih ..))

theorem takeMeasurement_frame (current supply : Nat) (eng ret : Bool) (s : State) :
    RailFrame s (takeMeasurement current supply eng ret s) := by
  rw [takeMeasurement_eq]
  exact (withRail_railFrame s _).trans (takeMeasureEvents_frame ..)

theorem takeOvercurrent_frame (current supply : Nat) (eng ret : Bool) (s : State) :
    RailFrame s (takeOvercurrent current supply eng ret s) := by
  rw [takeOvercurrent_eq]
  split
  · exact takeMeasurement_frame ..
  · exact RailFrame.refl s

theorem exec_measurement {s : State} (hs : s.Steady) (current supply : Nat) (eng ret : Bool) :
    exec (.railMeasurement current supply eng ret) s = .next (chooseTx (takeMeasurement current supply eng ret s)) :=
  exec_railEvent (fun _ => rfl) (takeMeasurement_frame current supply eng ret) hs

theorem exec_overcurrent {s : State} (hs : s.Steady) (current supply : Nat) (eng ret : Bool) :
    exec (.overcurrentFault current supply eng ret) s =
      if s.rail.state = .moving ∧ 20 ≤ (s.rail.counted current supply eng ret).overCount then
        exec (.railMeasurement current supply eng ret) s else .next s := by
  rw [exec_railEvent (fun _ => rfl) (takeOvercurrent_frame current supply eng ret) hs, takeOvercurrent_eq, exec_measurement hs]
  split
  · rfl
  · rw [chooseTx_of_settled hs.2]

/-- Every thing due but the clear-wait expiry plays on the rail record alone. -/
theorem plays_takeMeasureEvent {e : MeasureEvent} (h : e ≠ .clearWait) : Plays 2 fun s => takeMeasureEvent s e := by
  cases e with
  | overcurrent =>
    exact .ite (p := fun r => r.state = .moving ∧ Config.overcurrentReads ≤ r.overCount)
      (fun _ _ _ => Iff.rfl) ((plays_railFault _).mono (Nat.le_succ 1)) (.rest _)
  | switches eng ret => exact plays_switchLevels eng ret
  | clearWait => exact absurd rfl h
  | runLimit =>
    exact .ite (p := fun r => r.runLimitDue = true) (fun _ _ _ => Iff.rfl)
      ((plays_railFault _).mono (Nat.le_succ 1)) (.rest _)

theorem Plays.withChoices {n : Nat} {f : State → State} (h : Plays n f) (s : State) (c : Nat) :
    f (s.withChoices c) = (f s).withChoices c := by
  obtain ⟨record, told, hrun, -, -⟩ := h
  rw [hrun, hrun]
  rfl

theorem Plays.choices {n : Nat} {f : State → State} (h : Plays n f) (s : State) : (f s).choices = s.choices := by
  obtain ⟨record, told, hrun, -, -⟩ := h
  rw [hrun]

/-! ### The things due, taken in an order -/

/-- The things due are taken in some order, the choices drawn first: at most two where the clear-wait limit is among
them, for of more the first choice would come before it. -/
theorem takeMeasureEvents_order (n : Nat) (es : List MeasureEvent) (s : State) (hn : es.length = n)
    (h : es.length ≤ 2 ∨ .clearWait ∉ es) : ∃ order : List MeasureEvent, order.Perm es ∧
      takeMeasureEvents n es s = order.foldl takeMeasureEvent (s.withChoices (s.choices + (es.length - 1))) := by
  induction n generalizing es s with
  | zero =>
    obtain rfl := List.length_eq_zero_iff.1 hn
    exact ⟨[], .nil, rfl⟩
  | succ n ih =>
    match es with
    | [e] => exact ⟨[e], .refl _, rfl⟩
    | e :: f :: es =>
      obtain ⟨c, hc⟩ : ∃ c, c = Config.pick s.choices % (e :: f :: es).length := ⟨_, rfl⟩
      have hlt : c < (e :: f :: es).length := hc ▸ Nat.mod_lt _ (Nat.succ_pos _)
      have hrun : takeMeasureEvents (n + 1) (e :: f :: es) s = takeMeasureEvents n ((e :: f :: es).eraseIdx c)
          (takeMeasureEvent (s.withChoices (s.choices + 1)) (e :: f :: es)[c]) := by
        rw [← List.getD_eq_getElem (e :: f :: es) .overcurrent hlt, hc]
        rfl
      have hlen : ((e :: f :: es).eraseIdx c).length = n := by
        rw [List.length_eraseIdx_of_lt hlt, hn, Nat.add_sub_cancel]
      have hperm := List.getElem_cons_eraseIdx_perm hlt
      obtain ⟨order, horder, heq⟩ := ih ((e :: f :: es).eraseIdx c)
        (takeMeasureEvent (s.withChoices (s.choices + 1)) (e :: f :: es)[c]) hlen
        (h.imp (fun h => by omega) fun h hmem => h (List.mem_of_mem_eraseIdx hmem))
      refine ⟨(e :: f :: es)[c] :: order, (horder.cons _).trans hperm, ?_⟩
      rw [hrun, heq, List.foldl_cons, hlen, hn, Nat.add_sub_cancel]
      refine congrArg (order.foldl takeMeasureEvent) ?_
      obtain hshort | hno := h
      · obtain rfl : n = 1 := by
          rw [List.length_cons, List.length_cons] at hn hshort
          omega
        rfl
      · have hplays := plays_takeMeasureEvent fun heq => hno (heq ▸ List.getElem_mem hlt)
        rw [hplays.choices, ← hplays.withChoices]
        have hcount : s.choices + 1 + (n - 1) = s.choices + n := by
          rw [List.length_cons, List.length_cons] at hn
          omega
        exact congrArg (fun c => takeMeasureEvent (s.withChoices c) _) hcount

/-! ### The things due with CTS held deasserted -/

/-- The state with the CTS level held. -/
def State.withCts (s : State) (b : Bool) : State := s.withLink { s.link with cts := b }

theorem tell_withCts (l : Link) (told : List NoticeBody) (ms : W32) (b : Bool) :
    Link.tell { l with cts := b } told ms = { l.tell told ms with cts := b } := by
  induction told generalizing l with
  | nil => rfl
  | cons t told ih =>
    rw [Link.tell, List.foldl_cons, note_withCts]
    exact ih _

theorem Plays.withCts {n : Nat} {f : State → State} (h : Plays n f) (s : State) (b : Bool) :
    f (s.withCts b) = (f s).withCts b := by
  obtain ⟨record, told, hrun, -, -⟩ := h
  rw [hrun, hrun]
  exact congrArg (fun l => ({ s with rail := record s.rail, link := l } : State)) (tell_withCts ..)

theorem railChange_withCts (r shown : Rail) (cause : RailCause) (why : RailReason) (s : State) (b : Bool) :
    railChange r shown cause why (s.withCts b) = (railChange r shown cause why s).withCts b :=
  congrArg ((s.withRail r).withLink ·) (note_withCts ..)

theorem railMovesOn_withCts (st : RailState) (cause : RailCause) (was : Rail) (s : State) (b : Bool) :
    railMovesOn st cause was (s.withCts b) = (railMovesOn st cause was s).withCts b :=
  railChange_withCts _ _ _ _ (s.withChoices (s.choices + 1)) b

theorem railReturned_withCts (og : RailOrigin) (was : Rail) (s : State) (b : Bool) :
    railReturned og was (s.withCts b) = (railReturned og was s).withCts b := by
  have hmoves st cause := railMovesOn_withCts st cause was s b
  cases og with
  | retracted =>
    refine Eq.trans ?_ (apply_ite (State.withCts · b) _ _ _).symm
    rw [← hmoves]
    rfl
  | engaged =>
    refine Eq.trans ?_ (apply_ite (State.withCts · b) _ _ _).symm
    rw [← hmoves]
    rfl
  | unknown =>
    refine Eq.trans ?_ (apply_ite (State.withCts · b) _ _ _).symm
    rw [apply_ite (State.withCts · b), ← hmoves, ← hmoves]
    rfl

theorem takeMeasureEvent_withCts (s : State) (e : MeasureEvent) (b : Bool) :
    takeMeasureEvent (s.withCts b) e = (takeMeasureEvent s e).withCts b := by
  by_cases h : e = .clearWait
  · subst h
    refine Eq.trans ?_ (apply_ite (State.withCts · b) _ _ _).symm
    rw [railReturn, ← railReturned_withCts, ← railChange_withCts]
    rfl
  · exact (plays_takeMeasureEvent h).withCts s b

theorem foldl_withCts (order : List MeasureEvent) (s : State) (b : Bool) :
    order.foldl takeMeasureEvent (s.withCts b) = (order.foldl takeMeasureEvent s).withCts b := by
  induction order generalizing s with
  | nil => rfl
  | cons e order ih =>
    rw [List.foldl_cons, takeMeasureEvent_withCts, ih]
    rfl

/-! ### What falls due -/

theorem dueAt_eq (s : State) (current supply : Nat) (eng ret : Bool) : s.dueAt current supply eng ret =
    (if s.rail.state = .moving ∧ 20 ≤ (s.rail.counted current supply eng ret).overCount then [.overcurrent] else []) ++
    (if levelAfter s.rail.eng s.rail.engRun eng ≠ s.rail.eng ∨ levelAfter s.rail.ret s.rail.retRun ret ≠ s.rail.ret then
      [.switches (levelAfter s.rail.eng s.rail.engRun eng) (levelAfter s.rail.ret s.rail.retRun ret)] else []) ++
    (if s.rail.state = .waitClear ∧ s.rail.waitLimit * 1000 ≤ s.rail.waitUs then [.clearWait] else []) ++
    (if s.rail.state = .moving ∧ s.rail.runLimit * 1000 ≤ s.rail.runUs then [.runLimit] else []) := by
  rw [State.dueAt, Rail.measureEvents]
  have heng : ((s.rail.counted current supply eng ret).eng ≠ levelAfter s.rail.eng s.rail.engRun eng) =
      (levelAfter s.rail.eng s.rail.engRun eng ≠ s.rail.eng) := propext ne_comm
  have hret : ((s.rail.counted current supply eng ret).ret ≠ levelAfter s.rail.ret s.rail.retRun ret) =
      (levelAfter s.rail.ret s.rail.retRun ret ≠ s.rail.ret) := propext ne_comm
  simp only [clearWaitDue_iff, runLimitDue_iff, heng, hret]
  rfl

theorem mem_ite_singleton {α : Type} {p : Prop} [Decidable p] {a x : α} : (x ∈ if p then [a] else []) ↔ p ∧ x = a := by
  by_cases h : p
  · rw [if_pos h, List.mem_singleton]
    exact (and_iff_right h).symm
  · rw [if_neg h]
    exact ⟨fun hx => absurd hx List.not_mem_nil, fun hand => absurd hand.1 h⟩

theorem length_ite_singleton {α : Type} {p : Prop} [Decidable p] (a : α) : (if p then [a] else []).length ≤ 1 := by
  by_cases h : p
  · rw [if_pos h]
    exact Nat.le_refl 1
  · rw [if_neg h]
    exact Nat.zero_le 1

/-- In MOVING no clear-wait expiry is due, and elsewhere at most two things are. -/
theorem dueAt_few (s : State) (current supply : Nat) (eng ret : Bool) :
    (s.dueAt current supply eng ret).length ≤ 2 ∨ .clearWait ∉ s.dueAt current supply eng ret := by
  rw [dueAt_eq]
  by_cases h : s.rail.state = .moving
  · refine .inr fun hmem => ?_
    simp only [List.mem_append, mem_ite_singleton] at hmem
    obtain ((⟨-, hx⟩ | ⟨-, hx⟩) | ⟨⟨hw, -⟩, -⟩) | ⟨-, hx⟩ := hmem
    · cases hx
    · cases hx
    · cases h.symm.trans hw
    · cases hx
  · left
    rw [if_neg (c := s.rail.state = .moving ∧ _) fun hand => h hand.1,
      if_neg (c := s.rail.state = .moving ∧ _) fun hand => h hand.1, List.nil_append, List.append_nil, List.length_append]
    exact Nat.add_le_add (length_ite_singleton _) (length_ite_singleton _)

/-- A measurement is the things due taken in some order with CTS held deasserted, and the transmitter's choice. -/
theorem exec_measurement_order {s : State} (hs : s.Steady) (current supply : Nat) (eng ret : Bool) :
    ∃ (order : List MeasureEvent) (v : State), order.Perm (s.dueAt current supply eng ret) ∧
      v = order.foldl takeMeasureEvent (((s.withRail (s.rail.counted current supply eng ret)).withChoices
        (s.choices + ((s.dueAt current supply eng ret).length - 1))).withCts false) ∧
      exec (.railMeasurement current supply eng ret) s =
        .next (v.withLink (Link.transmit { v.link with cts := s.link.cts })) := by
  obtain ⟨order, hperm, heq⟩ := takeMeasureEvents_order _ (s.dueAt current supply eng ret)
    (s.withRail (s.rail.counted current supply eng ret)) rfl (dueAt_few ..)
  refine ⟨order, _, hperm, rfl, ?_⟩
  have hframe := takeMeasurement_frame current supply eng ret s
  rw [exec_measurement hs]
  rw [takeMeasurement_eq, heq] at hframe ⊢
  rw [foldl_withCts]
  have hcts : (order.foldl takeMeasureEvent ((s.withRail (s.rail.counted current supply eng ret)).withChoices
      ((s.withRail (s.rail.counted current supply eng ret)).choices +
        ((s.dueAt current supply eng ret).length - 1)))).link.cts = s.link.cts := (congrArg Link.cts hframe.core :)
  rw [← hcts]
  rfl

/-! ### Switch changes and the counts of reads -/

theorem switchLevels_withRuns (eng ret : Bool) (s : State) (a b : Nat) :
    switchLevels eng ret (s.withRail (s.rail.withRuns a b)) =
      (switchLevels eng ret s).withRail ((switchLevels eng ret s).rail.withRuns a b) := by
  obtain ⟨record, told, hrun, -, hruns⟩ := plays_switchLevels eng ret
  obtain ⟨hrecord, htold⟩ := hruns s.rail a b
  rw [hrun, hrun, State.withRail_rail, hrecord, htold]
  rfl

theorem switchLevels_runs (eng ret : Bool) (s : State) :
    (switchLevels eng ret s).rail.withRuns s.rail.engRun s.rail.retRun = (switchLevels eng ret s).rail := by
  have h := switchLevels_withRuns eng ret s s.rail.engRun s.rail.retRun
  exact (congrArg State.rail h :).symm

/-- A switch change at a measurement is the row of the switch event, but for the counts of reads. -/
theorem switchLevels_row (eng ret : Bool) (s : State) : switchLevels eng ret s =
    (takeSwitchEvent eng ret s).withRail ((takeSwitchEvent eng ret s).rail.withRuns s.rail.engRun s.rail.retRun) := by
  by_cases h : s.rail.eng = eng ∧ s.rail.ret = ret
  · have hlevels : switchLevels eng ret s = s := if_pos h
    have hrow : takeSwitchEvent eng ret s = s := if_pos h
    rw [hlevels, hrow]
    rfl
  · rw [takeSwitchEvent_changed h, switchLevels_withRuns]
    have hruns := switchLevels_runs eng ret s
    exact congrArg (switchLevels eng ret s).withRail hruns.symm

/-! ### The obligation -/

/-- A choice by the thing due. -/
def MeasureEvent.by {α : Type} (overcurrent switches clearWait runLimit : α) : MeasureEvent → α
  | .overcurrent => overcurrent
  | .switches _ _ => switches
  | .clearWait => clearWait
  | .runLimit => runLimit

theorem dueAt_map {α : Type} (s : State) (current supply : Nat) (eng ret : Bool) (a b c d : α) :
    (s.dueAt current supply eng ret).map (MeasureEvent.by a b c d) =
      (if s.rail.state = .moving ∧ 20 ≤ (s.rail.counted current supply eng ret).overCount then [a] else []) ++
      (if levelAfter s.rail.eng s.rail.engRun eng ≠ s.rail.eng ∨ levelAfter s.rail.ret s.rail.retRun ret ≠ s.rail.ret then
        [b] else []) ++
      (if s.rail.state = .waitClear ∧ s.rail.waitLimit * 1000 ≤ s.rail.waitUs then [c] else []) ++
      (if s.rail.state = .moving ∧ s.rail.runLimit * 1000 ≤ s.rail.runUs then [d] else []) := by
  rw [dueAt_eq, List.map_append, List.map_append, List.map_append]
  simp only [apply_ite (List.map _), List.map_nil, List.map_cons, MeasureEvent.by]

theorem exec_measurement_none {s : State} (hs : s.Steady) {current supply : Nat} {eng ret : Bool}
    (h : s.dueAt current supply eng ret = []) :
    exec (.railMeasurement current supply eng ret) s = .next (s.withRail (s.rail.counted current supply eng ret)) := by
  rw [exec_measurement hs, takeMeasurement_eq, h]
  exact congrArg Host.Outcome.next (chooseTx_withRail hs.2 _)

theorem exec_measurement_single {s : State} (hs : s.Steady) {current supply : Nat} {eng ret : Bool} {e : MeasureEvent}
    (h : s.dueAt current supply eng ret = [e]) : exec (.railMeasurement current supply eng ret) s =
      .next (chooseTx (takeMeasureEvent (s.withRail (s.rail.counted current supply eng ret)) e)) := by
  rw [exec_measurement hs, takeMeasurement_eq, h]
  rfl

theorem switchChanges_false {level : Bool} {run : Nat} {now : Bool} (h : now = level ∨ run < 2) :
    switchChanges level run now = false :=
  decide_eq_false fun hc => h.elim (fun h => hc.1 h) fun h => Nat.not_le.2 h hc.2

theorem levelAfter_same {level : Bool} {run : Nat} {now : Bool} (h : now = level ∨ run < 2) :
    levelAfter level run now = level := if_neg (ne_true_of_eq_false (switchChanges_false h))

theorem runAfter_same {level : Bool} {run : Nat} {now : Bool} (h : now = level ∨ run < 2) :
    runAfter level run now = if now = level then 0 else run + 1 := by
  simp only [runAfter, switchChanges_false h, Bool.false_eq_true, or_false]

/-- A state on which the things due at one measurement are taken: CTS is held deasserted. -/
def State.Held (u : State) : Prop :=
  u.running = true ∧ (u.link.intake = [] ∨ u.link.slot.isSome = true ∨ u.link.resetAwait = true) ∧ u.link.cts = false

theorem State.Held.steady {u : State} (h : u.Held) : u.Steady := by
  obtain ⟨hr, hi, hc⟩ := h
  exact ⟨hr, hi, .inr (.inl hc)⟩

theorem State.Held.of_frame {u v : State} (h : u.Held) (hf : RailFrame u v) : v.Held := by
  obtain ⟨hr, hi, hc⟩ := h
  have hrunning : v.running = u.running := hf.field State.running fun _ _ _ _ => rfl
  have hintake : v.link.intake = u.link.intake := (congrArg Link.intake hf.core :)
  have hslot : v.link.slot = u.link.slot := (congrArg Link.slot hf.core :)
  have hawait : v.link.resetAwait = u.link.resetAwait := (congrArg Link.resetAwait hf.core :)
  have hcts : v.link.cts = u.link.cts := (congrArg Link.cts hf.core :)
  refine ⟨hrunning.trans hr, ?_, hcts.trans hc⟩
  rwa [hintake, hslot, hawait]

theorem State.Held.chooseTx {u : State} (h : u.Held) : chooseTx u = u := chooseTx_of_settled h.steady.2

/-- Things taken one after another, each by a relation that what it does meets. -/
theorem inTurn_foldl {rel : MeasureEvent → State → State → Prop} (order : List MeasureEvent)
    (hrel : ∀ e ∈ order, ∀ u : State, u.Held → rel e u (takeMeasureEvent u e)) (u : State) (hu : u.Held) :
    (order.map rel).foldr (fun first others u v => ∃ x, first u x ∧ others x v) (fun u v => v = u) u
      (order.foldl takeMeasureEvent u) := by
  induction order generalizing u with
  | nil => rfl
  | cons e order ih =>
    refine ⟨takeMeasureEvent u e, hrel e List.mem_cons_self u hu, ?_⟩
    exact ih (fun e he => hrel e (List.mem_cons_of_mem _ he)) _ (hu.of_frame (takeMeasureEvent_frame u e))

/-- Settles O48: a measurement is the record it leaves and what falls due, in some order. -/
theorem railMeasurementsCountReads : Obligations.RailMeasurementsCountReads := by
  intro s current supply eng ret hs r read
  have hover := exec_overcurrent hs current supply eng ret
  have hdue := dueAt_eq s current supply eng ret
  refine ⟨fun heng hret => ?_, fun hr hr0 hr2 he he0 hst => ?_, ?_, ?_⟩
  · have hlevels : ¬(levelAfter s.rail.eng s.rail.engRun eng ≠ s.rail.eng ∨
        levelAfter s.rail.ret s.rail.retRun ret ≠ s.rail.ret) :=
      fun h => h.elim (· (levelAfter_same heng)) (· (levelAfter_same hret))
    have hcounted : s.rail.counted current supply eng ret = { read with
        overCount := if r.state = .moving then (if r.currentLimit < current then r.overCount + 1 else 0) else r.overCount } := by
      rw [Rail.counted, runAfter_same heng, runAfter_same hret]
    refine ⟨fun hst hwait => ?_, fun hst hrun => ?_⟩
    · have hnot (x y : Nat) : ¬(s.rail.state = .moving ∧ x ≤ y) := fun h => hst h.1
      have hnone : s.dueAt current supply eng ret = [] := by
        rw [hdue, if_neg (hnot _ _), if_neg hlevels, if_neg fun h => Nat.not_le.2 (hwait h.1) h.2, if_neg (hnot _ _)]
        rfl
      rw [if_neg hst] at hcounted
      refine ⟨?_, hover.trans (if_neg (hnot _ _))⟩
      rw [exec_measurement_none hs hnone, hcounted]
      rfl
    · have hwait (x y : Nat) : ¬(s.rail.state = .waitClear ∧ x ≤ y) := fun h => by cases hst.symm.trans h.1
      have hrun' : ¬(s.rail.state = .moving ∧ s.rail.runLimit * 1000 ≤ s.rail.runUs) := fun h => Nat.not_le.2 hrun h.2
      rw [if_pos hst] at hcounted
      rw [hcounted] at hdue hover
      have hbelow (hfew : ¬20 ≤ if r.currentLimit < current then r.overCount + 1 else 0) :
          exec (.railMeasurement current supply eng ret) s = .next { s with
            rail := { read with overCount := if r.currentLimit < current then r.overCount + 1 else 0 } } ∧
          exec (.overcurrentFault current supply eng ret) s = .next s := by
        have hnone : s.dueAt current supply eng ret = [] := by
          rw [hdue, if_neg fun h => hfew h.2, if_neg hlevels, if_neg (hwait _ _), if_neg hrun']
          rfl
        refine ⟨?_, hover.trans (if_neg fun h => hfew h.2)⟩
        rw [exec_measurement_none hs hnone, hcounted]
        rfl
      refine ⟨fun hle => ?_, fun hlt hn => ?_, fun hlt hn => ?_⟩
      · rw [if_neg (Nat.not_lt.2 hle)] at hbelow
        exact hbelow (by decide)
      · rw [if_pos hlt] at hbelow
        exact hbelow (Nat.not_le.2 (Nat.succ_lt_succ hn))
      · rw [if_pos hlt] at hdue hover hcounted
        have htwenty : s.rail.state = .moving ∧ 20 ≤ s.rail.overCount + 1 := ⟨hst, hn.symm ▸ Nat.le_refl 20⟩
        have hone : s.dueAt current supply eng ret = [.overcurrent] := by
          rw [hdue, if_pos htwenty, if_neg hlevels, if_neg (hwait _ _), if_neg hrun']
          rfl
        have hexec := hover.trans (if_pos htwenty)
        refine ⟨hexec.symm, ?_⟩
        have hfault : takeMeasureEvent (s.withRail { read with overCount := r.overCount + 1 }) .overcurrent =
            railFault .overcurrent (s.withRail { read with overCount := r.overCount + 1 }) := if_pos htwenty
        rw [hexec, exec_measurement_single hs hone, hcounted, hfault, railFault, chooseTx_railChange]
        rfl
  · have he1 : levelAfter s.rail.eng s.rail.engRun eng = false := by
      rw [levelAfter_same (.inl (he.trans he0.symm))]
      exact he0
    have hchange : switchChanges s.rail.ret s.rail.retRun ret = true := by
      refine decide_eq_true ⟨fun h => ?_, hr2.ge⟩
      exact Bool.noConfusion (hr.symm.trans (h.trans hr0))
    have hr1 : levelAfter s.rail.ret s.rail.retRun ret = true := (if_pos hchange).trans hr
    have hone : s.dueAt current supply eng ret = [.switches false true] := by
      have hst' (st : RailState) (hne : st ≠ .unknown) (p : Prop) : ¬(s.rail.state = st ∧ p) :=
        fun h => hne (h.1.symm.trans hst)
      rw [hdue, he1, hr1, if_neg (hst' .moving nofun _), if_neg (hst' .waitClear nofun _), if_neg (hst' .moving nofun _),
        if_pos]
      · rfl
      · exact .inr fun h => Bool.noConfusion (h.trans hr0)
    have hcounted : s.rail.counted current supply eng ret = { read with retRun := 0 } := by
      have hrun : runAfter s.rail.ret s.rail.retRun ret = 0 := if_pos (.inr hchange)
      have hmove : ¬s.rail.state = .moving := fun h => by cases hst.symm.trans h
      rw [Rail.counted, hrun, runAfter_same (.inl (he.trans he0.symm)), if_neg hmove]
    obtain ⟨u, hu⟩ : ∃ u, u = s.withRail { read with retRun := 0 } := ⟨_, rfl⟩
    have hur : u.rail.ret = false := hu ▸ hr0
    have hue : u.rail.eng = false := hu ▸ he0
    have hlevel : switchLevels false true u = switchOne .retracted true u := by
      refine (if_neg fun h => ?_).trans ((if_neg fun h => ?_).trans (if_pos ?_))
      · exact Bool.noConfusion (h.2.symm.trans hur)
      · exact Bool.noConfusion (h.symm.trans hur)
      · exact hue
    have hjudge : switchOne .retracted true u = railRest .retracted .found (u.withRail (u.rail.withSwitch .retracted true)) := by
      have hoff : (u.rail.withSwitch .retracted true).eng = false := hue
      rw [switchOne_judge (.inr (.inl hoff)), switchJudge_unknown (hu ▸ hst)]
      refine if_pos ⟨rfl, ?_⟩
      rw [Rail.alone, State.withRail_rail, hoff]
      rfl
    rw [exec_measurement_single hs hone, hcounted, ← hu]
    show Host.Outcome.next (chooseTx (switchLevels false true u)) = _
    rw [hlevel, hjudge, railRest, chooseTx_railChange, hu]
    rfl
  · intro changes engOut retOut counted hcount
    have hcounted : counted = s.rail.counted current supply eng ret := rfl
    have heng : engOut = levelAfter s.rail.eng s.rail.engRun eng := rfl
    have hret : retOut = levelAfter s.rail.ret s.rail.retRun ret := rfl
    clear_value changes engOut retOut counted
    rw [← hcounted, ← heng, ← hret] at hdue
    have hfew : ¬(s.rail.state = .moving ∧ 20 ≤ counted.overCount) := fun h => Nat.not_le.2 (hcount h.1) h.2
    rw [if_neg hfew] at hdue
    refine ⟨fun hlevels hwait hrun => ?_, fun he hr => ⟨fun hst hle => ?_, fun hst hle => ?_⟩⟩
    · have hone : s.dueAt current supply eng ret = [.switches engOut retOut] := by
        rw [hdue, if_pos hlevels, if_neg fun h => Nat.not_le.2 (hwait h.1) h.2, if_neg fun h => Nat.not_le.2 (hrun h.1) h.2]
        rfl
      refine ⟨_, exec_switchEvent (s := { s with rail := counted }) hs engOut retOut, ?_⟩
      rw [exec_measurement_single hs hone, ← hcounted]
      show Host.Outcome.next (chooseTx (switchLevels engOut retOut (s.withRail counted))) = _
      rw [switchLevels_row]
      rfl
    · have hone : s.dueAt current supply eng ret = [.clearWait] := by
        rw [hdue, if_neg (not_or.2 ⟨not_not_intro he, not_not_intro hr⟩), if_pos ⟨hst, hle⟩, if_neg fun h => by
          cases hst.symm.trans h.1]
        rfl
      rw [exec_measurement_single hs hone, ← hcounted]
      exact (exec_railEvent (i := .clearWaitExpiry) (s := { s with rail := counted }) (fun _ => rfl) takeClearWait_frame hs).symm
    · have hone : s.dueAt current supply eng ret = [.runLimit] := by
        have hwait : ¬(s.rail.state = .waitClear ∧ s.rail.waitLimit * 1000 ≤ s.rail.waitUs) := fun h => by
          cases hst.symm.trans h.1
        rw [hdue, if_neg (not_or.2 ⟨not_not_intro he, not_not_intro hr⟩), if_neg hwait, if_pos ⟨hst, hle⟩]
        rfl
      rw [exec_measurement_single hs hone, ← hcounted]
      exact (exec_railEvent (i := .runLimitExpiry) (s := { s with rail := counted }) (fun _ => rfl) takeRunLimit_frame hs).symm
  · intro changes engOut retOut counted overcurrent switches clearWait runLimit due inTurn
    have hmap : due = (s.dueAt current supply eng ret).map (MeasureEvent.by overcurrent switches clearWait runLimit) :=
      (dueAt_map ..).symm
    have hcounted : counted = s.rail.counted current supply eng ret := rfl
    have hlevels : ∀ e' r', MeasureEvent.switches e' r' ∈ s.dueAt current supply eng ret → e' = engOut ∧ r' = retOut := by
      intro e' r' hmem
      rw [hdue] at hmem
      simp only [List.mem_append, mem_ite_singleton] at hmem
      obtain ((⟨-, hx⟩ | ⟨-, hx⟩) | ⟨-, hx⟩) | ⟨-, hx⟩ := hmem
      · cases hx
      · cases hx
        exact ⟨rfl, rfl⟩
      · cases hx
      · cases hx
    have hrel : ∀ e ∈ s.dueAt current supply eng ret, ∀ u : State, u.Held →
        MeasureEvent.by overcurrent switches clearWait runLimit e u (takeMeasureEvent u e) := by
      intro e he u hu
      cases e with
      | overcurrent => exact rfl
      | switches e' r' =>
        obtain ⟨rfl, rfl⟩ := hlevels _ _ he
        have hexec := exec_switchEvent hu.steady engOut retOut
        rw [(hu.of_frame (takeSwitchEvent_frame ..)).chooseTx] at hexec
        exact ⟨_, hexec, switchLevels_row engOut retOut u⟩
      | clearWait =>
        have hexec := exec_railEvent (i := .clearWaitExpiry) (fun _ => rfl) takeClearWait_frame hu.steady
        rw [(hu.of_frame (takeClearWait_frame _)).chooseTx] at hexec
        exact hexec
      | runLimit =>
        have hexec := exec_railEvent (i := .runLimitExpiry) (fun _ => rfl) takeRunLimit_frame hu.steady
        rw [(hu.of_frame (takeRunLimit_frame _)).chooseTx] at hexec
        exact hexec
    obtain ⟨order, v, hperm, hv, hexec⟩ := exec_measurement_order hs current supply eng ret
    refine ⟨⟨_, v, hmap ▸ hperm.map _, ?_, hexec⟩, hover⟩
    have hlen : due.length = (s.dueAt current supply eng ret).length := by rw [hmap, List.length_map]
    rw [hv, ← hlen]
    exact inTurn_foldl order (fun e he => hrel e (hperm.mem_iff.1 he)) _ ⟨hs.1, hs.2.1, rfl⟩

end Sys2Proof.Machine
end

section
/-! PROOFS. The Take Store (sections 8.1 to 8.3): chains of blocks, the law of blocks, appending a record. -/

namespace Sys2Proof.Machine

open Sys2Proof.StepRows

/-! ### The directory -/

theorem entry_withEntry (st : Store) (t u : TakeId) (e : TakeEntry) :
    (st.withEntry t e).entry u = if u = t then e else st.entry u := set_get ..

theorem entry_withEntry_same (st : Store) (t : TakeId) (e : TakeEntry) : (st.withEntry t e).entry t = e := by
  rw [entry_withEntry, if_pos rfl]

theorem entry_withEntry_ne (st : Store) {t u : TakeId} (h : u ≠ t) (e : TakeEntry) :
    (st.withEntry t e).entry u = st.entry u := by
  rw [entry_withEntry, if_neg h]

theorem withEntry_withEntry (st : Store) (t : TakeId) (e f : TakeEntry) :
    (st.withEntry t e).withEntry t f = st.withEntry t f := by
  simp [Store.withEntry]

theorem withEntry_slots_withEntry (st : Store) (t : TakeId) (e f : TakeEntry) (slots : List (Nat × Record)) :
    Store.withEntry { st.withEntry t e with slots := slots } t f = Store.withEntry { st with slots := slots } t f := by
  simp [Store.withEntry]

theorem withEntry_entry (st : Store) (t : TakeId) : st.withEntry t (st.entry t) = st := by
  have h : st.takes.set t.val (st.takes.get t) t.isLt = st.takes := by
    simp [Vector.get_eq_getElem]
  rw [Store.withEntry, Store.entry, h]

/-! ### Following links -/

/-- From a start, following links passes these blocks and arrives at `next`. -/
def Path (links : Vector (Option Nat) 512) : Option Nat → List Nat → Option Nat → Prop
  | start, [], next => start = next
  | start, b :: bs, next => start = some b ∧ Path links (vgetD links b none) bs next

theorem path_append {links : Vector (Option Nat) 512} {start next : Option Nat} {xs ys : List Nat} :
    Path links start (xs ++ ys) next ↔ ∃ mid, Path links start xs mid ∧ Path links mid ys next := by
  induction xs generalizing start with
  | nil => exact ⟨fun h => ⟨start, rfl, h⟩, fun ⟨_, h, h'⟩ => h ▸ h'⟩
  | cons x xs ih =>
    refine (and_congr_right fun _ => ih).trans ?_
    exact ⟨fun ⟨h, mid, h1, h2⟩ => ⟨mid, ⟨h, h1⟩, h2⟩, fun ⟨mid, ⟨h, h1⟩, h2⟩ => ⟨h, mid, h1, h2⟩⟩

theorem Path.congr {links links' : Vector (Option Nat) 512} {start next : Option Nat} {bs : List Nat}
    (h : Path links start bs next) (heq : ∀ b ∈ bs, vgetD links' b none = vgetD links b none) : Path links' start bs next := by
  induction bs generalizing start with
  | nil => exact h
  | cons b bs ih =>
    refine ⟨h.1, ?_⟩
    rw [heq b List.mem_cons_self]
    exact ih h.2 fun c hc => heq c (List.mem_cons_of_mem _ hc)

/-- What `chainFrom` returns is a path, and one that ends where it stops before its fuel. -/
theorem chainFrom_path (links : Vector (Option Nat) 512) (n : Nat) (start : Option Nat) :
    ∃ next, Path links start (chainFrom links n start) next ∧ ((chainFrom links n start).length < n → next = none) := by
  induction n generalizing start with
  | zero => exact ⟨start, rfl, nofun⟩
  | succ n ih =>
    cases start with
    | none => exact ⟨none, rfl, fun _ => rfl⟩
    | some b =>
      obtain ⟨next, hpath, hend⟩ := ih (vgetD links b none)
      exact ⟨next, ⟨rfl, hpath⟩, fun h => hend (Nat.lt_of_succ_lt_succ h)⟩

theorem chainFrom_length_le (links : Vector (Option Nat) 512) (n : Nat) (start : Option Nat) :
    (chainFrom links n start).length ≤ n := by
  induction n generalizing start with
  | zero => exact Nat.le_refl 0
  | succ n ih =>
    cases start with
    | none => exact Nat.zero_le _
    | some b => exact Nat.succ_le_succ (ih _)

/-- A path that ends, no longer than the fuel, is what `chainFrom` returns. -/
theorem chainFrom_of_path {links : Vector (Option Nat) 512} {n : Nat} {start : Option Nat} {bs : List Nat}
    (h : Path links start bs none) (hn : bs.length ≤ n) : chainFrom links n start = bs := by
  induction n generalizing start bs with
  | zero =>
    obtain rfl := List.length_eq_zero_iff.1 (Nat.le_zero.1 hn)
    rfl
  | succ n ih =>
    cases bs with
    | nil =>
      obtain rfl : start = none := h
      rfl
    | cons b bs =>
      obtain ⟨rfl, hrest⟩ := h
      rw [chainFrom, ih hrest (Nat.le_of_succ_le_succ hn)]

theorem path_getLast_link {links : Vector (Option Nat) 512} {start next : Option Nat} {bs : List Nat} {b : Nat}
    (h : Path links start (bs ++ [b]) next) : vgetD links b none = next := by
  obtain ⟨mid, -, -, h⟩ := path_append.1 h
  exact h

/-! ### Links replaced -/

theorem vgetD_vset {α : Type} {n : Nat} (v : Vector α n) (i j : Nat) (x d : α) (hi : i < n) :
    vgetD (vset v i x) j d = if j = i then x else vgetD v j d := by
  rw [vgetD, vgetD, vset_toList, List.getD_eq_getElem?_getD, List.getD_eq_getElem?_getD, List.getElem?_set]
  by_cases h : i = j
  · subst h
    rw [if_pos rfl, if_pos rfl, if_pos (by simpa using hi)]
    rfl
  · rw [if_neg h, if_neg (Ne.symm h)]

theorem clearLinks_nil (links : Vector (Option Nat) 512) : clearLinks links [] = links := rfl

theorem clearLinks_cons (links : Vector (Option Nat) 512) (b : Nat) (bs : List Nat) :
    clearLinks links (b :: bs) = clearLinks (vset links b none) bs := rfl

theorem vgetD_clearLinks (links : Vector (Option Nat) 512) (bs : List Nat) (j : Nat) (h : ∀ b ∈ bs, b < 512) :
    vgetD (clearLinks links bs) j none = if j ∈ bs then none else vgetD links j none := by
  induction bs generalizing links with
  | nil => rfl
  | cons b bs ih =>
    rw [clearLinks_cons, ih _ fun c hc => h c (List.mem_cons_of_mem _ hc), vgetD_vset _ _ _ _ _ (h b List.mem_cons_self)]
    by_cases hj : j ∈ bs
    · rw [if_pos hj, if_pos (List.mem_cons_of_mem _ hj)]
    · rw [if_neg hj]
      by_cases hb : j = b
      · rw [if_pos hb, if_pos (hb ▸ List.mem_cons_self)]
      · rw [if_neg hb, if_neg fun h => (List.mem_cons.1 h).elim hb hj]

/-! ### What the law of blocks says -/

theorem chain_eq (st : Store) (t : TakeId) : st.chain t = chainFrom st.links 512 (st.entry t).head := rfl

/-- The blocks of all takes. -/
def Store.used (st : Store) : List Nat := (List.finRange 16).flatMap st.chain

theorem mem_used {st : Store} {b : Nat} : b ∈ st.used ↔ ∃ t, b ∈ st.chain t := by
  rw [Store.used, List.mem_flatMap]
  exact ⟨fun ⟨t, _, h⟩ => ⟨t, h⟩, fun ⟨t, h⟩ => ⟨t, List.mem_finRange t, h⟩⟩

section
variable {st : Store}

theorem Store.BlockLaw.nodup (h : st.BlockLaw) : (st.used ++ st.free).Nodup := h.2.1.nodup_iff.2 List.nodup_range

theorem Store.BlockLaw.mem_lt (h : st.BlockLaw) {b : Nat} (hb : b ∈ st.used ++ st.free) : b < 512 :=
  List.mem_range.1 (h.2.1.mem_iff.1 hb)

theorem Store.BlockLaw.chain_lt (h : st.BlockLaw) {t : TakeId} {b : Nat} (hb : b ∈ st.chain t) : b < 512 :=
  h.mem_lt (List.mem_append_left _ (mem_used.2 ⟨t, hb⟩))

theorem Store.BlockLaw.free_lt (h : st.BlockLaw) {b : Nat} (hb : b ∈ st.free) : b < 512 :=
  h.mem_lt (List.mem_append_right _ hb)

theorem Store.BlockLaw.free_nodup (h : st.BlockLaw) : st.free.Nodup := (List.nodup_append.1 h.nodup).2.1

theorem Store.BlockLaw.not_free (h : st.BlockLaw) {t : TakeId} {b : Nat} (hb : b ∈ st.chain t) : b ∉ st.free :=
  fun hf => (List.nodup_append.1 h.nodup).2.2 b (mem_used.2 ⟨t, hb⟩) b hf rfl

theorem Store.BlockLaw.chain_nodup (h : st.BlockLaw) (t : TakeId) : (st.chain t).Nodup :=
  (List.nodup_flatMap.1 (List.nodup_append.1 h.nodup).1).1 t (List.mem_finRange t)

theorem Store.BlockLaw.chain_disjoint (h : st.BlockLaw) {t u : TakeId} (hne : t ≠ u) {b : Nat} (ht : b ∈ st.chain t) :
    b ∉ st.chain u := by
  have hpair := (List.nodup_flatMap.1 (List.nodup_append.1 h.nodup).1).2
  have hsymm : Std.Symm (fun t u => (st.chain t).Disjoint (st.chain u)) := ⟨fun _ _ h => h.symm⟩
  exact fun hu => (hpair.forall (List.mem_finRange t) (List.mem_finRange u) hne) ht hu

/-- The blocks of a take, and those of the others. -/
theorem used_perm (st : Store) (t : TakeId) :
    st.used.Perm (st.chain t ++ ((List.finRange 16).erase t).flatMap st.chain) :=
  (List.perm_cons_erase (List.mem_finRange t)).flatMap_right _

theorem mem_erase_take {t u : TakeId} (h : u ∈ (List.finRange 16).erase t) : u ≠ t :=
  ((List.nodup_finRange 16).mem_erase_iff.1 h).1

/-- The law of blocks holds where the take's chain and the free list trade blocks and the other takes stay. -/
theorem BlockLaw.perm_of {u : Store} (h : st.BlockLaw) {t : TakeId} (hother : ∀ o, o ≠ t → u.chain o = st.chain o)
    (hperm : (u.chain t ++ u.free).Perm (st.chain t ++ st.free)) : (u.used ++ u.free).Perm (List.range 512) := by
  have hrest : ((List.finRange 16).erase t).flatMap u.chain = ((List.finRange 16).erase t).flatMap st.chain :=
    List.flatMap_congr fun o ho => hother o (mem_erase_take ho)
  have hswap (x y z : List Nat) : (x ++ y ++ z).Perm (y ++ (x ++ z)) := by
    rw [List.append_assoc]
    exact List.perm_append_comm_assoc x y z
  calc (u.used ++ u.free).Perm _ := (used_perm u t).append_right _
    _ |>.Perm _ := hswap _ _ _
    _ |>.Perm _ := hrest ▸ hperm.append_left _
    _ |>.Perm _ := (hswap _ _ _).symm
    _ |>.Perm _ := ((used_perm st t).append_right _).symm
    _ |>.Perm _ := h.2.1

end

/-! ### Chains that a change leaves as they were -/

theorem chainFrom_congr {links links' : Vector (Option Nat) 512} {n : Nat} {start : Option Nat}
    (h : ∀ b ∈ chainFrom links n start, vgetD links' b none = vgetD links b none) :
    chainFrom links' n start = chainFrom links n start := by
  induction n generalizing start with
  | zero => rfl
  | succ n ih =>
    cases start with
    | none => rfl
    | some b =>
      have hb : vgetD links' b none = vgetD links b none := h b List.mem_cons_self
      have hrest : chainFrom links' n (vgetD links b none) = chainFrom links n (vgetD links b none) :=
        ih fun c hc => h c (List.mem_cons_of_mem _ hc)
      rw [chainFrom, chainFrom, hb, hrest]

theorem chain_congr {st u : Store} {t : TakeId} (hhead : (u.entry t).head = (st.entry t).head)
    (h : ∀ b ∈ st.chain t, vgetD u.links b none = vgetD st.links b none) : u.chain t = st.chain t := by
  rw [chain_eq, hhead]
  exact chainFrom_congr h

theorem chain_eq_nil {st : Store} {t : TakeId} : st.chain t = [] ↔ (st.entry t).head = none := by
  rw [chain_eq]
  cases (st.entry t).head with
  | none => exact ⟨fun _ => rfl, fun _ => rfl⟩
  | some b => exact ⟨nofun, nofun⟩

theorem chain_head (st : Store) (t : TakeId) : (st.chain t).head? = (st.entry t).head := by
  rw [chain_eq]
  cases (st.entry t).head with
  | none => rfl
  | some b => rfl

section
variable {st : Store}

/-- With a block free, every chain ends. -/
theorem Store.BlockLaw.chain_path (h : st.BlockLaw) (hfree : st.free ≠ []) (t : TakeId) :
    (st.chain t).length < 512 ∧ Path st.links (st.entry t).head (st.chain t) none := by
  have hlen : (st.chain t).length + st.free.length ≤ 512 := by
    have hall := h.2.1.length_eq
    have hused := (used_perm st t).length_eq
    rw [List.length_append, List.length_range] at hall
    rw [List.length_append] at hused
    have : st.used.length + st.free.length = 512 := hall
    omega
  have hpos : 0 < st.free.length := List.length_pos_iff.2 hfree
  obtain ⟨next, hpath, hend⟩ := chainFrom_path st.links 512 (st.entry t).head
  have hlt : (st.chain t).length < 512 := by omega
  exact ⟨hlt, hend hlt ▸ hpath⟩

theorem Store.BlockLaw.tail_mem (h : st.BlockLaw) {t : TakeId} {b : Nat} (hb : (st.entry t).tail = some b) :
    b ∈ st.chain t := List.mem_of_getLast? ((h.2.2 t).1.symm.trans hb)

theorem Store.BlockLaw.chain_tail (h : st.BlockLaw) {t : TakeId} {b : Nat} (hb : (st.entry t).tail = some b) :
    ∃ bs, st.chain t = bs ++ [b] := List.getLast?_eq_some_iff.1 ((h.2.2 t).1.symm.trans hb)

theorem Store.BlockLaw.chain_of_no_tail (h : st.BlockLaw) {t : TakeId} (hb : (st.entry t).tail = none) :
    st.chain t = [] := List.getLast?_eq_none_iff.1 ((h.2.2 t).1.symm.trans hb)

end

/-! ### Slots -/

theorem slotNo_inj {b c p q : Nat} (hp : p < 64) (hq : q < 64) (h : slotNo b p = slotNo c q) : b = c ∧ p = q := by
  have h : 64 * b + p = 64 * c + q := h
  omega

theorem slotNo_lt {b p : Nat} (hb : b < 512) (hp : p < 64) : slotNo b p < 32768 := by
  show 64 * b + p < 32768
  omega

theorem record_eq (st : Store) (t : TakeId) (i : Nat) : st.record t i =
    ((st.chain t)[i / 64]?.bind fun b => slotGet st.slots (slotNo b (i % 64))).getD ⟨0, .gap⟩ := by
  rw [Store.record]
  cases h : (st.chain t)[i / Config.blockSlots]? with
  | none =>
    have h : (st.chain t)[i / 64]? = none := h
    rw [h]
    rfl
  | some b =>
    have h : (st.chain t)[i / 64]? = some b := h
    rw [h]
    rfl

/-- The record of a take at an index stays where the block at its place does and the slot is not written. -/
theorem record_congr {st u : Store} {t : TakeId} {i : Nat} (hchain : (u.chain t)[i / 64]? = (st.chain t)[i / 64]?)
    (hslot : ∀ b, (st.chain t)[i / 64]? = some b →
      slotGet u.slots (slotNo b (i % 64)) = slotGet st.slots (slotNo b (i % 64))) : u.record t i = st.record t i := by
  rw [record_eq, record_eq, hchain]
  cases h : (st.chain t)[i / 64]? with
  | none => rfl
  | some b => exact congrArg (Option.getD · ⟨0, .gap⟩) (hslot b h)

/-- The place of the record that follows a take's last. -/
theorem next_place {len fill count : Nat} (hfill : fill < 64) (hcount : count = 64 * (len - 1) + fill) :
    count / 64 = len - 1 ∧ count % 64 = fill := by
  omega

/-! ### Appending a record (R123, R124) -/

/-- The links with a block taken from the free list put behind a tail. -/
def grownLinks (links : Vector (Option Nat) 512) (tail : Option Nat) (b : Nat) : Vector (Option Nat) 512 :=
  match tail with
  | some tl => vset (vset links b none) tl (some b)
  | none => vset links b none

theorem vgetD_grownLinks {links : Vector (Option Nat) 512} {tail : Option Nat} {b : Nat} (hb : b < 512)
    (htail : ∀ tl, tail = some tl → tl < 512) (j : Nat) : vgetD (grownLinks links tail b) j none =
      if tail = some j then some b else if j = b then none else vgetD links j none := by
  cases tail with
  | none =>
    rw [if_neg nofun]
    exact vgetD_vset _ _ _ _ _ hb
  | some tl =>
    rw [grownLinks, vgetD_vset _ _ _ _ _ (htail tl rfl), vgetD_vset _ _ _ _ _ hb]
    by_cases h : j = tl
    · rw [if_pos h, if_pos (congrArg some h.symm)]
    · rw [if_neg h, if_neg fun heq => h (Option.some.inj heq).symm]

/-- The entry with one record more. -/
def TakeEntry.oneMore (e : TakeEntry) (r : Record) : TakeEntry :=
  { e with count := e.count + 1, duration := e.duration + r.delta, fill := e.fill + 1 }

/-- The entry with one record more in a new tail block. -/
def TakeEntry.oneMoreIn (e : TakeEntry) (r : Record) (b : Nat) : TakeEntry :=
  { e with
    count := e.count + 1, duration := e.duration + r.delta, head := some (e.head.getD b), tail := some b, fill := 1 }

theorem writeTail_eq {st : Store} {t : TakeId} {b : Nat} (hb : (st.entry t).tail = some b) (hfill : (st.entry t).fill < 64)
    (r : Record) : st.writeTail t r =
      { st with slots := slotSet st.slots (slotNo b (st.entry t).fill) r }.withEntry t ((st.entry t).oneMore r) := by
  rw [Store.writeTail, TakeEntry.oneMore, hb]
  dsimp only
  exact if_pos hfill

theorem append_room {st : Store} {t : TakeId} {b : Nat} (hb : (st.entry t).tail = some b) (hfill : (st.entry t).fill < 64)
    (r : Record) : st.append t r =
      { st with slots := slotSet st.slots (slotNo b (st.entry t).fill) r }.withEntry t ((st.entry t).oneMore r) := by
  refine (if_neg fun h => ?_).trans (writeTail_eq hb hfill r)
  obtain h | h := h
  · cases hb.symm.trans h
  · exact Nat.ne_of_lt hfill h

theorem append_grows {st : Store} {t : TakeId} (h : (st.entry t).tail = none ∨ (st.entry t).fill = 64) {b : Nat}
    {free : List Nat} (hfree : st.free = b :: free) (r : Record) : st.append t r =
      { st with
        free := free, links := grownLinks st.links (st.entry t).tail b, slots := slotSet st.slots (slotNo b 0) r }.withEntry t
          ((st.entry t).oneMoreIn r b) := by
  have hgrow : st.growTake t = { st with free := free, links := grownLinks st.links (st.entry t).tail b }.withEntry t
      { st.entry t with head := some ((st.entry t).head.getD b), tail := some b, fill := 0 } := by
    rw [Store.growTake, hfree]
    dsimp only
    cases (st.entry t).tail with
    | none => rfl
    | some tl => rfl
  refine (if_pos h).trans ?_
  rw [hgrow, writeTail_eq (b := b) (by rw [entry_withEntry_same]) (by rw [entry_withEntry_same]; exact Nat.succ_pos 63),
    entry_withEntry_same]
  exact withEntry_slots_withEntry ..

/-- Without a free slot nothing is appended (notes/assumptions/22.md). -/
theorem append_full {st : Store} {t : TakeId} (h : (st.entry t).tail = none ∨ (st.entry t).fill = 64) (hfree : st.free = [])
    (r : Record) : st.append t r = st := by
  refine (if_pos h).trans ?_
  rw [Store.growTake, hfree]
  show st.writeTail t r = st
  rw [Store.writeTail]
  obtain h | h := h
  · rw [h]
  · rw [h]
    cases (st.entry t).tail with
    | none => rfl
    | some b => rfl

theorem takeFree_eq (st : Store) (t : TakeId) : st.takeFree t =
    (if (st.entry t).tail = none then 0 else 64 - (st.entry t).fill) + 64 * st.free.length := by
  rw [Store.takeFree, TakeEntry.tailRoom]
  cases (st.entry t).tail with
  | none => rfl
  | some b => rfl

theorem free_of_grows {st : Store} {t : TakeId} (h : (st.entry t).tail = none ∨ (st.entry t).fill = 64)
    (hroom : 1 ≤ st.takeFree t) : ∃ b free, st.free = b :: free := by
  rw [takeFree_eq] at hroom
  cases hfree : st.free with
  | cons b free => exact ⟨b, free, rfl⟩
  | nil =>
    rw [hfree] at hroom
    obtain h | h := h
    · rw [if_pos h] at hroom
      cases hroom
    · rw [h] at hroom
      simp at hroom

/-! ### A store after an append -/

section
variable {st : Store} {t : TakeId}

theorem Store.BlockLaw.next_in_tail (h : st.BlockLaw) {b : Nat} (hb : (st.entry t).tail = some b)
    (hfill : (st.entry t).fill < 64) : (st.chain t)[(st.entry t).count / 64]? = some b ∧
      (st.entry t).count % 64 = (st.entry t).fill := by
  obtain ⟨bs, hbs⟩ := h.chain_tail hb
  obtain ⟨-, -, -, hcount⟩ := h.2.2 t
  obtain ⟨hdiv, hmod⟩ := next_place hfill hcount
  refine ⟨?_, hmod⟩
  rw [hdiv, hbs, List.length_append, List.length_singleton, Nat.add_sub_cancel, List.getElem?_concat_length]

/-- Two places of one chain hold the same block only if they are the same place. -/
theorem Store.BlockLaw.same_place (h : st.BlockLaw) {i j b : Nat} (hi : (st.chain t)[i]? = some b)
    (hj : (st.chain t)[j]? = some b) : i = j := by
  obtain ⟨hi, rfl⟩ := List.getElem?_eq_some_iff.1 hi
  obtain ⟨hj, heq⟩ := List.getElem?_eq_some_iff.1 hj
  exact (List.Nodup.getElem_inj_iff (h.chain_nodup t)).1 heq.symm

/-- What an append that finds room in the tail block leaves. -/
theorem append_room_spec (h : st.BlockLaw) {b : Nat} (hb : (st.entry t).tail = some b) (hfill : (st.entry t).fill < 64)
    (r : Record) :
    (st.append t r).links = st.links ∧ (st.append t r).free = st.free ∧
      (st.append t r).entry t = (st.entry t).oneMore r ∧ (∀ o, o ≠ t → (st.append t r).entry o = st.entry o) ∧
      (∀ o, (st.append t r).chain o = st.chain o) ∧ (st.append t r).record t (st.entry t).count = r ∧
      (∀ i, i < (st.entry t).count → (st.append t r).record t i = st.record t i) ∧
      (∀ o, o ≠ t → ∀ i, (st.append t r).record o i = st.record o i) := by
  have hslots : (st.append t r).slots = slotSet st.slots (slotNo b (st.entry t).fill) r := by
    rw [append_room hb hfill]
    rfl
  have hread (c p : Nat) : slotGet (st.append t r).slots (slotNo c p) =
      if slotNo c p = slotNo b (st.entry t).fill then some r else slotGet st.slots (slotNo c p) := by
    rw [hslots]
    exact slotGet_slotSet h.1 ..
  have hentry (o : TakeId) : (st.append t r).entry o = if o = t then (st.entry t).oneMore r else st.entry o := by
    rw [append_room hb hfill]
    exact entry_withEntry ..
  have hlinks : (st.append t r).links = st.links := by
    rw [append_room hb hfill]
    rfl
  have hfree : (st.append t r).free = st.free := by
    rw [append_room hb hfill]
    rfl
  generalize st.append t r = u at *
  have hchain (o : TakeId) : u.chain o = st.chain o := by
    refine chain_congr ?_ fun c _ => by rw [hlinks]
    rw [hentry]
    split
    next ho => rw [ho, TakeEntry.oneMore]
    next => rfl
  obtain ⟨hnext, hplace⟩ := h.next_in_tail hb hfill
  refine ⟨hlinks, hfree, (hentry t).trans (if_pos rfl), fun o ho => (hentry o).trans (if_neg ho), hchain, ?_, ?_, ?_⟩
  · rw [record_eq, hchain, hnext, hplace]
    show (slotGet u.slots (slotNo b _)).getD _ = r
    rw [hread, if_pos rfl]
    rfl
  · intro i hi
    refine record_congr (by rw [hchain]) fun c hc => ?_
    rw [hread, if_neg]
    intro heq
    obtain ⟨rfl, hp⟩ := slotNo_inj (Nat.mod_lt _ (by decide)) hfill heq
    have := h.same_place hc hnext
    omega
  · intro o ho i
    refine record_congr (by rw [hchain]) fun c hc => ?_
    rw [hread, if_neg]
    intro heq
    obtain ⟨rfl, -⟩ := slotNo_inj (Nat.mod_lt _ (by decide)) hfill heq
    exact h.chain_disjoint ho (List.mem_of_getElem? hc) (h.tail_mem hb)

/-- What an append that takes a new block leaves. -/
theorem append_grows_spec (h : st.BlockLaw) (hgrow : (st.entry t).tail = none ∨ (st.entry t).fill = 64) {b : Nat}
    {free : List Nat} (hfree : st.free = b :: free) (r : Record) :
    (st.append t r).links = grownLinks st.links (st.entry t).tail b ∧ (st.append t r).free = free ∧
      (st.append t r).entry t = (st.entry t).oneMoreIn r b ∧ (∀ o, o ≠ t → (st.append t r).entry o = st.entry o) ∧
      (st.append t r).chain t = st.chain t ++ [b] ∧ (∀ o, o ≠ t → (st.append t r).chain o = st.chain o) ∧
      (st.append t r).record t (st.entry t).count = r ∧
      (∀ i, i < (st.entry t).count → (st.append t r).record t i = st.record t i) ∧
      (∀ o, o ≠ t → ∀ i, (st.append t r).record o i = st.record o i) := by
  have hbfree : b ∈ st.free := hfree ▸ List.mem_cons_self
  have hb := h.free_lt hbfree
  have hbnot (o : TakeId) : b ∉ st.chain o := fun hmem => h.not_free hmem hbfree
  have htail (tl : Nat) (htl : (st.entry t).tail = some tl) : tl < 512 := h.chain_lt (h.tail_mem htl)
  have hread (c p : Nat) : slotGet (st.append t r).slots (slotNo c p) =
      if slotNo c p = slotNo b 0 then some r else slotGet st.slots (slotNo c p) := by
    rw [append_grows hgrow hfree]
    exact slotGet_slotSet h.1 ..
  have hentry (o : TakeId) : (st.append t r).entry o = if o = t then (st.entry t).oneMoreIn r b else st.entry o := by
    rw [append_grows hgrow hfree]
    exact entry_withEntry ..
  have hlinks : (st.append t r).links = grownLinks st.links (st.entry t).tail b := by
    rw [append_grows hgrow hfree]
    rfl
  have hfree' : (st.append t r).free = free := by
    rw [append_grows hgrow hfree]
    rfl
  generalize st.append t r = u at *
  have hlink (j : Nat) : vgetD u.links j none =
      if (st.entry t).tail = some j then some b else if j = b then none else vgetD st.links j none := by
    rw [hlinks]
    exact vgetD_grownLinks hb htail j
  have hother (o : TakeId) (ho : o ≠ t) : u.chain o = st.chain o := by
    refine chain_congr (by rw [hentry, if_neg ho]) fun c hc => ?_
    rw [hlink, if_neg fun htl => h.chain_disjoint ho hc (h.tail_mem htl), if_neg (fun hcb : c = b => hbnot o (hcb ▸ hc))]
  have hchain : u.chain t = st.chain t ++ [b] := by
    obtain ⟨hlt, hpath⟩ := h.chain_path (hfree ▸ List.cons_ne_nil b free) t
    rw [chain_eq, hentry, if_pos rfl]
    refine chainFrom_of_path ?_ (by rw [List.length_append, List.length_singleton]; omega)
    have hend : vgetD u.links b none = none := by
      rw [hlink, if_neg fun htl => hbnot t (h.tail_mem htl), if_pos rfl]
    cases htl : (st.entry t).tail with
    | none =>
      have hnil := h.chain_of_no_tail htl
      rw [hnil]
      refine ⟨?_, hend⟩
      rw [TakeEntry.oneMoreIn, chain_eq_nil.1 hnil]
      rfl
    | some tl =>
      obtain ⟨bs, hbs⟩ := h.chain_tail htl
      have hnodup := h.chain_nodup t
      rw [hbs] at hpath hnodup
      obtain ⟨mid, hfirst, rfl, -⟩ := path_append.1 hpath
      rw [hbs, List.append_assoc]
      refine path_append.2 ⟨some tl, ?_, rfl, ?_, hend⟩
      · have hhead : ((st.entry t).oneMoreIn r b).head = (st.entry t).head := by
          have hsome := chain_head st t
          rw [hbs] at hsome
          rw [TakeEntry.oneMoreIn]
          cases hhd : (st.entry t).head with
          | some c => rfl
          | none =>
            rw [hhd, List.head?_eq_none_iff] at hsome
            simp at hsome
        rw [hhead]
        refine hfirst.congr fun c hc => ?_
        have hmem : c ∈ st.chain t := hbs ▸ List.mem_append_left _ hc
        have hne : tl ≠ c := fun heq =>
          (List.nodup_append.1 hnodup).2.2 c hc tl (List.mem_singleton_self tl) heq.symm
        rw [hlink, htl, if_neg fun heq => hne (Option.some.inj heq), if_neg (fun hcb : c = b => hbnot t (hcb ▸ hmem))]
      · show vgetD u.links tl none = some b
        rw [hlink, if_pos htl]
  have hnext : (u.chain t)[(st.entry t).count / 64]? = some b ∧ (st.entry t).count % 64 = 0 := by
    obtain ⟨htl, -, hzero, hcount⟩ := h.2.2 t
    have hlen : (st.entry t).count = 64 * (st.chain t).length := by
      obtain hgrow | hgrow := hgrow
      · rw [h.chain_of_no_tail hgrow, hzero hgrow] at hcount
        rw [h.chain_of_no_tail hgrow, hcount]
        rfl
      · have hpos : 0 < (st.chain t).length := by
          refine List.length_pos_iff.2 fun hnil => ?_
          rw [hnil] at htl
          rw [hzero htl] at hgrow
          cases hgrow
        rw [hcount, hgrow]
        omega
    rw [hlen, Nat.mul_div_cancel_left _ (by decide), Nat.mul_mod_right, hchain, List.getElem?_concat_length]
    exact ⟨rfl, rfl⟩
  refine ⟨hlinks, hfree', (hentry t).trans (if_pos rfl), fun o ho => (hentry o).trans (if_neg ho), hchain, hother, ?_, ?_, ?_⟩
  · rw [record_eq, hnext.1, hnext.2]
    show (slotGet u.slots (slotNo b 0)).getD _ = r
    rw [hread, if_pos rfl]
    rfl
  · intro i hi
    have hlt : i / 64 < (st.chain t).length := by
      obtain ⟨htl, -, hzero, hcount⟩ := h.2.2 t
      have hle := (h.2.2 t).2.1
      cases hlen : (st.chain t).length with
      | zero =>
        rw [List.length_eq_zero_iff.1 hlen] at htl hcount
        rw [hzero htl] at hcount
        rw [hcount] at hi
        cases hi
      | succ n => omega
    refine record_congr (by rw [hchain, List.getElem?_append_left hlt]) fun c hc => ?_
    rw [hread, if_neg]
    intro heq
    obtain ⟨rfl, -⟩ := slotNo_inj (Nat.mod_lt _ (by decide)) (by decide) heq
    exact hbnot t (List.mem_of_getElem? hc)
  · intro o ho i
    refine record_congr (by rw [hother o ho]) fun c hc => ?_
    rw [hread, if_neg]
    intro heq
    obtain ⟨rfl, -⟩ := slotNo_inj (Nat.mod_lt _ (by decide)) (by decide) heq
    exact hbnot o (List.mem_of_getElem? hc)

end

/-- The three ways an append goes. -/
theorem Store.BlockLaw.append_cases {st : Store} (h : st.BlockLaw) (t : TakeId) :
    (∃ b, (st.entry t).tail = some b ∧ (st.entry t).fill < 64) ∨
    (((st.entry t).tail = none ∨ (st.entry t).fill = 64) ∧ ∃ b free, st.free = b :: free) ∨
    (((st.entry t).tail = none ∨ (st.entry t).fill = 64) ∧ st.free = []) := by
  by_cases hgrow : (st.entry t).tail = none ∨ (st.entry t).fill = 64
  · cases hfree : st.free with
    | nil => exact .inr (.inr ⟨hgrow, rfl⟩)
    | cons b free => exact .inr (.inl ⟨hgrow, b, free, rfl⟩)
  · obtain ⟨htail, hfill⟩ := not_or.1 hgrow
    obtain ⟨b, hb⟩ := Option.ne_none_iff_exists'.1 htail
    exact .inl ⟨b, hb, Nat.lt_of_le_of_ne (h.2.2 t).2.1 hfill⟩

/-- The law of blocks is kept by an append (R123, R124). -/
theorem Store.BlockLaw.append {st : Store} (h : st.BlockLaw) (t : TakeId) (r : Record) : (st.append t r).BlockLaw := by
  obtain ⟨b, hb, hfill⟩ | ⟨hgrow, b, free, hfree⟩ | ⟨hgrow, hfree⟩ := h.append_cases t
  · obtain ⟨-, hfree, hentry, hother, hchain, -, -, -⟩ := append_room_spec h hb hfill r
    refine ⟨?_, BlockLaw.perm_of h (t := t) (fun o _ => hchain o) (by rw [hchain, hfree]), fun o => ?_⟩
    · rw [append_room hb hfill]
      exact slotSet_wf h.1 (slotNo_lt (h.chain_lt (h.tail_mem hb)) hfill)
    · by_cases ho : o = t
      · subst ho
        obtain ⟨htail, -, -, hcount⟩ := h.2.2 o
        rw [hentry, hchain, TakeEntry.oneMore]
        refine ⟨htail, hfill, fun hnone => ?_, ?_⟩
        · cases hb.symm.trans hnone
        · dsimp only
          omega
      · rw [hother o ho, hchain]
        exact h.2.2 o
  · obtain ⟨-, hfree', hentry, hother, hchain, hchains, -, -, -⟩ := append_grows_spec h hgrow hfree r
    refine ⟨?_, BlockLaw.perm_of h hchains ?_, fun o => ?_⟩
    · rw [append_grows hgrow hfree]
      exact slotSet_wf h.1 (slotNo_lt (h.free_lt (hfree ▸ List.mem_cons_self)) (by decide))
    · rw [hchain, hfree', hfree, List.append_assoc]
      exact List.Perm.refl _
    · by_cases ho : o = t
      · subst ho
        obtain ⟨htail, -, hzero, hcount⟩ := h.2.2 o
        rw [hentry, hchain, TakeEntry.oneMoreIn]
        refine ⟨List.getLast?_concat.symm, Nat.succ_le_succ (Nat.zero_le 63), nofun, ?_⟩
        dsimp only
        rw [List.length_append, List.length_singleton, Nat.add_sub_cancel, hcount]
        obtain hgrow | hgrow := hgrow
        · rw [h.chain_of_no_tail hgrow, hzero hgrow]
          rfl
        · have hpos : 0 < (st.chain o).length := by
            refine List.length_pos_iff.2 fun hnil => ?_
            rw [hnil] at htail
            rw [hzero htail] at hgrow
            cases hgrow
          omega
      · rw [hother o ho, hchains o ho]
        exact h.2.2 o
  · rw [append_full hgrow hfree]
    exact h

theorem takeFree_of {st u : Store} {t : TakeId} (htail : (u.entry t).tail = (st.entry t).tail)
    (hfill : (u.entry t).fill = (st.entry t).fill) (hfree : u.free = st.free) : u.takeFree t = st.takeFree t := by
  rw [takeFree_eq, takeFree_eq, htail, hfill, hfree]

/-- An append with room adds one record at the end of the take, and uses up one of its free slots. -/
theorem append_spec {st : Store} (h : st.BlockLaw) {t : TakeId} (hroom : 1 ≤ st.takeFree t) (r : Record) :
    (st.append t r).record t (st.entry t).count = r ∧
    (∀ i, i < (st.entry t).count → (st.append t r).record t i = st.record t i) ∧
    ((st.append t r).entry t).count = (st.entry t).count + 1 ∧
    ((st.append t r).entry t).duration = (st.entry t).duration + r.delta ∧
    (st.append t r).takeFree t + 1 = st.takeFree t ∧
    (∀ o, o ≠ t → (st.append t r).entry o = st.entry o ∧ (st.append t r).chain o = st.chain o ∧
      ∀ i, (st.append t r).record o i = st.record o i) := by
  obtain ⟨b, hb, hfill⟩ | ⟨hgrow, b, free, hfree⟩ | ⟨hgrow, hfree⟩ := h.append_cases t
  · obtain ⟨-, hfree, hentry, hother, hchain, hlast, hbefore, hothers⟩ := append_room_spec h hb hfill r
    refine ⟨hlast, hbefore, by rw [hentry]; rfl, by rw [hentry]; rfl, ?_, fun o ho => ⟨hother o ho, hchain o, hothers o ho⟩⟩
    rw [takeFree_eq, takeFree_eq, hentry, hfree, TakeEntry.oneMore]
    dsimp only
    rw [hb, if_neg nofun, if_neg nofun]
    omega
  · obtain ⟨-, hfree', hentry, hother, -, hchains, hlast, hbefore, hothers⟩ := append_grows_spec h hgrow hfree r
    refine ⟨hlast, hbefore, by rw [hentry]; rfl, by rw [hentry]; rfl, ?_, fun o ho => ⟨hother o ho, hchains o ho, hothers o ho⟩⟩
    rw [takeFree_eq, takeFree_eq, hentry, hfree', hfree, TakeEntry.oneMoreIn, List.length_cons]
    dsimp only
    rw [if_neg nofun]
    have hno : (if (st.entry t).tail = none then 0 else 64 - (st.entry t).fill) = 0 := by
      obtain hgrow | hgrow := hgrow
      · exact if_pos hgrow
      · rw [hgrow]
        exact ite_self _
    omega
  · obtain ⟨b, free, hcons⟩ := free_of_grows hgrow hroom
    cases hfree.symm.trans hcons

/-- An append leaves the state and the marks of every take. -/
theorem append_marks (st : Store) (t : TakeId) (r : Record) (o : TakeId) :
    ((st.append t r).entry o).state = (st.entry o).state ∧ ((st.append t r).entry o).played = (st.entry o).played ∧
      ((st.append t r).entry o).read = (st.entry o).read := by
  have hwrite (u : Store) : ((u.writeTail t r).entry o).state = (u.entry o).state ∧
      ((u.writeTail t r).entry o).played = (u.entry o).played ∧ ((u.writeTail t r).entry o).read = (u.entry o).read := by
    by_cases ho : o = t
    · subst ho
      rw [Store.writeTail]
      split
      · exact ⟨rfl, rfl, rfl⟩
      · split
        · rw [entry_withEntry_same]
          exact ⟨rfl, rfl, rfl⟩
        · exact ⟨rfl, rfl, rfl⟩
    · rw [Store.writeTail]
      split
      · exact ⟨rfl, rfl, rfl⟩
      · split
        · rw [entry_withEntry_ne _ ho]
          exact ⟨rfl, rfl, rfl⟩
        · exact ⟨rfl, rfl, rfl⟩
  have hgrow : ((st.growTake t).entry o).state = (st.entry o).state ∧
      ((st.growTake t).entry o).played = (st.entry o).played ∧ ((st.growTake t).entry o).read = (st.entry o).read := by
    rw [Store.growTake]
    split
    · exact ⟨rfl, rfl, rfl⟩
    · rw [entry_withEntry]
      split
      next ho => exact ho ▸ ⟨rfl, rfl, rfl⟩
      next => exact ⟨rfl, rfl, rfl⟩
  rw [Store.append]
  split
  · obtain ⟨h1, h2, h3⟩ := hwrite (st.growTake t)
    exact ⟨h1.trans hgrow.1, h2.trans hgrow.2.1, h3.trans hgrow.2.2⟩
  · exact hwrite st

end Sys2Proof.Machine
end

section
/-! PROOFS. Take commands (section 8.6): reading records with their times, what a take reports, erasing a take. -/

namespace Sys2Proof.Machine

open Sys2Proof.StepRows

/-! ### Bytes -/

theorem b16_bytes (n : Nat) : b16 n = [BitVec.ofNat 8 n, BitVec.ofNat 8 (n / 256)] := by
  rw [b16, le16, extractLsb'_ofNat 16 n 0 (by decide), extractLsb'_ofNat 16 n 8 (by decide), Nat.pow_zero, Nat.div_one]
  rfl

theorem blockCode_eq (o : Option Nat) : blockCode o = o.getD 0xFFFF := by
  cases o with
  | none => rfl
  | some b => rfl

/-! ### Records with their times (R126) -/

theorem withTimes_getElem? (a : Nat) (rs : List Record) (i : Nat) : (withTimes a rs)[i]? =
    rs[i]?.map fun r => (a + ((rs.take (i + 1)).map Record.delta).sum, r) := by
  induction rs generalizing a i with
  | nil => rfl
  | cons r rs ih =>
    cases i with
    | zero => simp [withTimes]
    | succ i =>
      rw [withTimes, List.getElem?_cons_succ, List.getElem?_cons_succ, ih]
      simp [Nat.add_assoc]

theorem withTimes_snd (a : Nat) (rs : List Record) : (withTimes a rs).map Prod.snd = rs := by
  induction rs generalizing a with
  | nil => rfl
  | cons r rs ih => rw [withTimes, List.map_cons, ih]

theorem withTimes_length (a : Nat) (rs : List Record) : (withTimes a rs).length = rs.length := by
  rw [← List.length_map Prod.snd, withTimes_snd]

theorem records_length (st : Store) (t : TakeId) : (st.records t).length = (st.entry t).count := by
  rw [Store.records, List.length_map, List.length_range]

theorem records_take (st : Store) (t : TakeId) {n : Nat} (h : n ≤ (st.entry t).count) :
    (st.records t).take n = (List.range n).map (st.record t) := by
  rw [Store.records, ← List.map_take, List.take_range, Nat.min_eq_left h]

theorem records_getElem? (st : Store) (t : TakeId) {i : Nat} (h : i < (st.entry t).count) :
    (st.records t)[i]? = some (st.record t i) := by
  rw [Store.records, List.getElem?_map, List.getElem?_range h]
  rfl

/-- The record of a take at an index with its take time: the sum of its delta and those before it. -/
theorem timed_getElem? (st : Store) (t : TakeId) {i : Nat} (h : i < (st.entry t).count) : (st.timed t)[i]? =
    some (((List.range (i + 1)).map fun j => (st.record t j).delta).sum, st.record t i) := by
  rw [Store.timed, withTimes_getElem?, records_getElem? st t h, records_take st t h, List.map_map, Nat.zero_add]
  rfl

theorem drop_take_range {α : Type} (f : Nat → α) (count start n : Nat) :
    (((List.range count).map f).drop start).take n =
      (List.range (min n (count - start))).map fun j => f (start + j) := by
  refine List.ext_getElem? fun i => ?_
  rw [List.getElem?_take, List.getElem?_drop, List.getElem?_map, List.getElem?_map]
  by_cases hn : i < n
  · rw [if_pos hn]
    by_cases hc : start + i < count
    · rw [List.getElem?_range hc, List.getElem?_range (by omega)]
      rfl
    · rw [List.getElem?_eq_none (by rw [List.length_range]; omega),
        List.getElem?_eq_none (by rw [List.length_range]; omega)]
      rfl
  · rw [if_neg hn, List.getElem?_eq_none (by rw [List.length_range]; omega)]
    rfl

/-- The records TAKE_READ carries. -/
theorem timed_slice (st : Store) (t : TakeId) (start n : Nat) :
    (((st.timed t).drop start).take n).map Prod.snd =
      (List.range (min n ((st.entry t).count - start))).map fun j => st.record t (start + j) := by
  rw [List.map_take, List.map_drop, Store.timed, withTimes_snd, Store.records, drop_take_range]

/-! ### Links of freed blocks -/

theorem vset_get_fin {α : Type} {n : Nat} (v : Vector α n) (j : Nat) (i : Fin n) (x : α) :
    (vset v j x).get i = if i.val = j then x else v.get i := by
  by_cases hj : j < n
  · rw [vset_get v ⟨j, hj⟩ i x]
    simp only [Fin.ext_iff]
  · rw [vset_of_le v (Nat.not_lt.1 hj), if_neg (fun h : i.val = j => hj (h ▸ i.isLt))]

theorem clearLinks_get (links : Vector (Option Nat) 512) (bs : List Nat) (i : Fin 512) :
    (clearLinks links bs).get i = if i.val ∈ bs then none else links.get i := by
  induction bs generalizing links with
  | nil => rfl
  | cons b bs ih =>
    rw [clearLinks_cons, ih, vset_get_fin]
    by_cases hb : i.val = b
    · rw [if_pos hb, ite_self, if_pos (hb ▸ List.mem_cons_self)]
    · rw [if_neg hb]
      simp only [List.mem_cons, hb, false_or]

/-! ### TAKE_INFO and TAKE_ERASE -/

theorem underWriting_iff (e : TakeEntry) :
    e.underWriting = true ↔ e.state = .recording ∨ e.state = .writing ∨ e.state = .editing := by
  rw [TakeEntry.underWriting]
  cases e.state <;> simp

/-- Settles O53: the records TAKE_READ carries by index, the report of TAKE_INFO, and the erased take's blocks. -/
theorem takeCommandsReadReportAndErase : Obligations.TakeCommandsReadReportAndErase := by
  refine ⟨fun r => ?_, fun s b start n hs => ⟨fun h => ?_, fun t ht h1 h10 => ?_⟩, fun s b hs => ⟨fun h => ⟨?_, ?_⟩, ?_⟩⟩
  · obtain ⟨delta, body⟩ := r
    rw [Record.bytes]
    simp only [b16_bytes]
    cases body with
    | noteOn k v rep => cases rep <;> rfl
    | _ => rfl
  · have hc : runCommand (.takeRead b start n) s = answer 0x37#8 .badValue s := by
      show cmdTakeRead b start n s = _
      rw [cmdTakeRead]
      by_cases hb : 15 < b.toNat
      · rw [takeOf_eq_none hb]
      · rw [takeOf_eq_some (t := ⟨b.toNat, by omega⟩) rfl]
        refine if_pos ?_
        obtain h | rfl | h := h
        · exact absurd h hb
        · exact .inl (by decide)
        · exact .inr h
    exact exec_answer hs rfl rfl hc rfl
  · have hread : runCommand (.takeRead b start n) s =
        if (s.store.entry t).state ≠ .ready then answer 0x37#8 .badState s
        else if (s.store.entry t).count ≤ start.toNat then answer 0x37#8 .badValue s
        else answerData 0x37#8 (b8 (((s.store.timed t).drop start.toNat).take n.toNat).length ::
          (b32 (((((s.store.timed t).drop start.toNat).take n.toNat).head?.map Prod.fst).getD 0) ++
            (((s.store.timed t).drop start.toNat).take n.toNat).flatMap fun x => x.2.bytes)) s := by
      show cmdTakeRead b start n s = _
      rw [cmdTakeRead, takeOf_eq_some ht]
      exact if_neg (by omega)
    by_cases hready : (s.store.entry t).state = .ready
    · rw [if_neg (not_not_intro hready)] at hread
      by_cases hcount : (s.store.entry t).count ≤ start.toNat
      · rw [if_pos hcount] at hread
        refine exec_answer hs rfl rfl hread ?_
        rw [if_neg (not_not_intro hready), if_pos hcount]
        rfl
      · rw [if_neg hcount] at hread
        have hslice := timed_slice s.store t start.toNat n.toNat
        have hlen := congrArg List.length hslice
        rw [List.length_map, List.length_map, List.length_range] at hlen
        have hhead : (((s.store.timed t).drop start.toNat).take n.toNat).head? =
            some (((List.range (start.toNat + 1)).map fun j => (s.store.record t j).delta).sum,
              s.store.record t start.toNat) := by
          rw [List.head?_take, if_neg (by omega), List.head?_drop, timed_getElem? _ _ (Nat.not_le.1 hcount)]
        have hbytes : ((((s.store.timed t).drop start.toNat).take n.toNat).flatMap fun x => x.2.bytes) =
            (List.range (min n.toNat ((s.store.entry t).count - start.toNat))).flatMap fun j =>
              (s.store.record t (start.toNat + j)).bytes := by
          have h := congrArg (List.flatMap Record.bytes) hslice
          rw [List.flatMap_map, List.flatMap_map] at h
          exact h
        rw [hlen, hhead, hbytes] at hread
        refine exec_answerData hs rfl rfl hread ?_
        rw [if_neg (not_not_intro hready), if_neg hcount]
        rfl
    · rw [if_pos hready] at hread
      refine exec_answer hs rfl rfl hread ?_
      rw [if_pos hready]
      rfl
  · have hc : runCommand (.takeInfo b) s = answer 0x32#8 .badValue s := by
      show cmdTakeInfo b s = _
      rw [cmdTakeInfo, takeOf_eq_none h]
    exact exec_answer hs rfl rfl hc rfl
  · have hc : runCommand (.takeErase b) s = answer 0x33#8 .badValue s := by
      show cmdTakeErase b s = _
      rw [cmdTakeErase, takeOf_eq_none h]
    exact exec_answer hs rfl rfl hc rfl
  · intro t ht e reserve block
    have hblock : ∀ o, b16 (blockCode o) = block o := fun o => by rw [blockCode_eq, b16]
    have hreserve : reportedReserve t s = reserve := by
      simp only [reportedReserve, reserve, e]
      cases (s.store.entry t).state with
      | recording =>
        cases s.recorder with
        | none => rfl
        | some r => by_cases hr : r.take = t <;> simp [Option.filter, hr]
      | writing =>
        cases s.bulk with
        | none => rfl
        | some w => by_cases hw : w.take = t <;> simp [Option.filter, hw]
      | _ => rfl
    have herase : runCommand (.takeErase b) s =
        if (e.played || e.read || e.underWriting) = true then answer 0x33#8 .takeBusy s
        else if e.state = .empty then answer 0x33#8 .ok s
        else answer 0x33#8 .ok (s.withStore (s.store.eraseTake t)) := by
      show cmdTakeErase b s = _
      rw [cmdTakeErase, takeOf_eq_some ht]
    have hwriting := underWriting_iff e
    refine ⟨?_, fun h => ?_, fun hp hr hst => ?_, fun hp hr hst => ?_⟩
    · have hc : cmdTakeInfo b s = answerData 0x32#8
          (b8 e.state.code :: (b16 e.count ++ b32 e.duration ++ b16 (blockCode e.head) ++ b16 (blockCode e.tail) ++
            [b8 e.fill, b8 ((if e.played then 1 else 0) + (if e.read then 2 else 0))] ++
            b16 (s.store.chain t).length ++ b16 (s.store.takeFree t) ++ [b8 (reportedReserve t s)])) s := by
        rw [cmdTakeInfo, takeOf_eq_some ht]
      have hfree : s.store.takeFree t = (if e.tail.isSome then 64 - e.fill else 0) + 64 * s.store.free.length := by
        rw [takeFree_eq]
        simp only [e]
        cases (s.store.entry t).tail with
        | none => rfl
        | some b => rfl
      rw [hblock, hblock, hreserve, hfree] at hc
      exact exec_answerData (i := .takeInfo b) hs rfl rfl hc rfl
    · have hbusy : (e.played || e.read || e.underWriting) = true := by
        rw [Bool.or_eq_true, Bool.or_eq_true, hwriting]
        obtain h | h | h := h
        · exact .inl (.inl h)
        · exact .inl (.inr h)
        · exact .inr h
      rw [if_pos hbusy] at herase
      exact exec_answer hs rfl rfl herase rfl
    · have hfree : ¬(e.played || e.read || e.underWriting) = true := by
        rw [Bool.or_eq_true, Bool.or_eq_true, hwriting, hp, hr, hst]
        decide
      rw [if_neg hfree, if_pos hst] at herase
      exact exec_answer hs rfl rfl herase rfl
    · have hfree : ¬(e.played || e.read || e.underWriting) = true := by
        rw [Bool.or_eq_true, Bool.or_eq_true, hwriting, hp, hr, hst]
        decide
      rw [if_neg hfree, if_neg (by rw [hst]; decide)] at herase
      refine ⟨_, exec_answer hs rfl rfl herase rfl, ?_, fun o ho => ?_, rfl, fun i => clearLinks_get .., rfl⟩
      · exact entry_withEntry_same ..
      · exact entry_withEntry_ne _ ho _

end Sys2Proof.Machine
end

section
/-! PROOFS. The writing context (R127 to R129) and bulk transfer (section 8.6). -/

namespace Sys2Proof.Machine

open Sys2Proof.StepRows

/-! ### Appends that find room, counted -/

/-- An append with room, counted, on any store whose tail fill is in its range. -/
theorem append_counts {st : Store} {t : TakeId} (hfill : (st.entry t).fill ≤ 64) (hroom : 1 ≤ st.takeFree t) (r : Record) :
    ((st.append t r).entry t).count = (st.entry t).count + 1 ∧
      ((st.append t r).entry t).duration = (st.entry t).duration + r.delta ∧
      ((st.append t r).entry t).fill ≤ 64 ∧ (st.append t r).takeFree t + 1 = st.takeFree t ∧
      ∀ u, u ≠ t → (st.append t r).entry u = st.entry u := by
  by_cases hgrow : (st.entry t).tail = none ∨ (st.entry t).fill = 64
  · obtain ⟨b, free, hfree⟩ := free_of_grows hgrow hroom
    have hno : (if (st.entry t).tail = none then 0 else 64 - (st.entry t).fill) = 0 := by
      obtain hgrow | hgrow := hgrow
      · exact if_pos hgrow
      · rw [hgrow]
        exact ite_self _
    rw [takeFree_eq, takeFree_eq, hno, append_grows hgrow hfree, hfree, List.length_cons, entry_withEntry_same]
    refine ⟨rfl, rfl, Nat.succ_le_succ (Nat.zero_le 63), ?_, fun u hu => entry_withEntry_ne _ hu _⟩
    rw [TakeEntry.oneMoreIn, if_neg nofun]
    show 64 - 1 + 64 * free.length + 1 = _
    omega
  · obtain ⟨htail, hne⟩ := not_or.1 hgrow
    obtain ⟨b, hb⟩ := Option.ne_none_iff_exists'.1 htail
    have hlt := Nat.lt_of_le_of_ne hfill hne
    rw [takeFree_eq, takeFree_eq, append_room hb hlt, entry_withEntry_same, if_neg htail]
    refine ⟨rfl, rfl, hlt, ?_, fun u hu => entry_withEntry_ne _ hu _⟩
    rw [TakeEntry.oneMore, if_neg htail]
    show 64 - ((st.entry t).fill + 1) + 64 * st.free.length + 1 = _
    omega

/-- Records appended one after another. -/
def Store.appendAll (st : Store) (t : TakeId) (rs : List Record) : Store := rs.foldl (fun st r => st.append t r) st

theorem appendAll_counts {st : Store} {t : TakeId} (hfill : (st.entry t).fill ≤ 64) {rs : List Record}
    (hroom : rs.length ≤ st.takeFree t) :
    ((st.appendAll t rs).entry t).count = (st.entry t).count + rs.length ∧
      ((st.appendAll t rs).entry t).duration = (st.entry t).duration + (rs.map Record.delta).sum ∧
      (st.appendAll t rs).takeFree t + rs.length = st.takeFree t ∧
      ∀ u, u ≠ t → (st.appendAll t rs).entry u = st.entry u := by
  induction rs generalizing st with
  | nil => exact ⟨rfl, rfl, rfl, fun _ _ => rfl⟩
  | cons r rs ih =>
    rw [List.length_cons] at hroom
    obtain ⟨hcount, hduration, hfill', hfree, hother⟩ := append_counts hfill (by omega) r
    obtain ⟨h1, h2, h3, h4⟩ := ih (st := st.append t r) hfill' (by omega)
    refine ⟨h1.trans ?_, h2.trans ?_, ?_, fun u hu => (h4 u hu).trans (hother u hu)⟩
    · rw [hcount, List.length_cons]
      omega
    · rw [hduration, List.map_cons, List.sum_cons, Nat.add_assoc]
    · have h3' : (st.appendAll t (r :: rs)).takeFree t + rs.length = (st.append t r).takeFree t := h3
      rw [List.length_cons]
      omega

/-! ### The closing sequence (R129) -/

theorem write_last (c : WriteCtx) (time : Nat) (b : Body) : (c.write time b).last = time := by
  cases b <;> rfl

theorem writeAll_nil (t : TakeId) (time : Nat) (x : Store × WriteCtx) : writeAll t time [] x = x := rfl

theorem writeAll_cons (t : TakeId) (time : Nat) (b : Body) (bs : List Body) (x : Store × WriteCtx) :
    writeAll t time (b :: bs) x = writeAll t time bs (writeAt t time b x) := rfl

/-- Records written at the context's own time carry delta 0. -/
theorem writeAll_now {t : TakeId} {time : Nat} (bs : List Body) (st : Store) (c : WriteCtx) (h : c.last = time) :
    (writeAll t time bs (st, c)).1 = st.appendAll t (bs.map fun b => ⟨0, b⟩) := by
  induction bs generalizing st c with
  | nil => rfl
  | cons b bs ih =>
    have hat : writeAt t time b (st, c) = (st.append t ⟨0, b⟩, c.write time b) := by
      rw [writeAt, h, Nat.sub_self]
    rw [writeAll_cons, hat, ih _ _ (write_last ..)]
    rfl

/-- The records of a closing sequence at a closing time. -/
def closingRecords (time last : Nat) : List Body → List Record
  | [] => []
  | b :: bs => ⟨time - last, b⟩ :: bs.map fun b => ⟨0, b⟩

theorem closeTake_eq (t : TakeId) (time : Nat) (st : Store) (c : WriteCtx) :
    closeTake t time st c = st.appendAll t (closingRecords time c.last c.closing) := by
  rw [closeTake]
  cases c.closing with
  | nil => rfl
  | cons b bs =>
    rw [writeAll_cons, writeAt, writeAll_now _ _ _ (write_last ..)]
    rfl

theorem closing_length (c : WriteCtx) : c.closing.length = c.reserve := by
  rw [WriteCtx.closing, WriteCtx.reserve, List.length_append, List.length_append, List.length_append, List.length_map]
  simp only [apply_ite List.length, List.length_nil, List.length_singleton]
  rfl

theorem closingRecords_length (time last : Nat) (bs : List Body) : (closingRecords time last bs).length = bs.length := by
  cases bs with
  | nil => rfl
  | cons b bs => rw [closingRecords, List.length_cons, List.length_cons, List.length_map]

theorem closingRecords_delta (time last : Nat) (bs : List Body) :
    ((closingRecords time last bs).map Record.delta).sum = if bs.length = 0 then 0 else time - last := by
  cases bs with
  | nil => rfl
  | cons b bs =>
    rw [List.length_cons, if_neg (Nat.succ_ne_zero _), closingRecords, List.map_cons, List.sum_cons, List.map_map]
    have hzero : (bs.map (Record.delta ∘ fun b => ⟨0, b⟩)).sum = 0 := by
      rw [List.sum_eq_zero_iff]
      intro x hx
      obtain ⟨b, -, rfl⟩ := List.mem_map.1 hx
      rfl
    rw [hzero, Nat.add_zero]

/-! ### Records on the link (R137, R192) -/

theorem head_bits (b : Byte) : (b.extractLsb' 4 3 ≠ 0#3) ↔ b.toNat / 16 % 8 ≠ 0 := by
  refine not_congr ?_
  rw [← BitVec.toNat_inj, BitVec.extractLsb'_toNat, Nat.shiftRight_eq_div_pow]
  rfl

theorem head_top (b : Byte) : b.getLsbD 7 = decide (128 ≤ b.toNat) := by
  have h := b.isLt
  rw [BitVec.getLsbD, Nat.testBit_eq_decide_div_mod_eq]
  refine decide_eq_decide.2 ?_
  omega

theorem parse_none_of_bits {r : RawRecord} (h : r.head.toNat / 16 % 8 ≠ 0) : parseRecord r = none :=
  if_pos ((head_bits _).2 h)

theorem parse_none_of_repeat {r : RawRecord} (h0 : r.head.toNat % 16 ≠ 0) (h : 128 ≤ r.head.toNat) :
    parseRecord r = none := by
  rw [parseRecord]
  split
  · rfl
  · refine if_pos ?_
    rw [head_top, decide_eq_true h, beq_false_of_ne h0]
    rfl

/-- A record's kind and fields by the code of its head byte. -/
theorem parse_of_head {r : RawRecord} (hbits : r.head.toNat / 16 % 8 = 0)
    (hrep : ¬(r.head.toNat % 16 ≠ 0 ∧ 128 ≤ r.head.toNat)) : parseRecord r =
    (match r.head.toNat % 16 with
    | 0 =>
      match keyOf r.third with
      | some k =>
        if 1 ≤ r.fourth.toNat ∧ r.fourth.toNat ≤ 127 then
          some ⟨r.delta.toNat, .noteOn k r.fourth.toNat (decide (128 ≤ r.head.toNat))⟩
        else none
      | none => none
    | 1 => (keyOf r.third).map fun k => ⟨r.delta.toNat, .noteOff k⟩
    | 2 => (keyOf r.third).map fun k => ⟨r.delta.toNat, .silentPress k⟩
    | 3 => some ⟨r.delta.toNat, .damper r.third.toNat⟩
    | 4 => some ⟨r.delta.toNat, .soft r.third.toNat⟩
    | 5 => some ⟨r.delta.toNat, .sostOn⟩
    | 6 => some ⟨r.delta.toNat, .sostOff⟩
    | 7 => if r.delta.toNat = 65535 then some ⟨r.delta.toNat, .gap⟩ else none
    | _ => none) := by
  have hno : ¬(r.head.getLsbD 7 && !(r.head.toNat % 16 == 0)) = true := by
    rw [head_top, Bool.and_eq_true, decide_eq_true_iff, Bool.not_eq_true', beq_eq_false_iff_ne]
    exact fun h => hrep ⟨h.2, h.1⟩
  rw [parseRecord, head_top]
  rw [head_top] at hno
  exact (if_neg ((head_bits _).not.2 (not_not_intro hbits))).trans (if_neg hno)

theorem checkRecords_cons_none {c : WriteCtx} {r : RawRecord} (h : parseRecord r = none) (rs : List RawRecord) :
    checkRecords c (r :: rs) = none := by
  rw [checkRecords, h]

theorem checkRecords_cons_refused {c : WriteCtx} {r : RawRecord} {rec : Record} (h : parseRecord r = some rec)
    (hno : c.admits rec.body = false) (rs : List RawRecord) : checkRecords c (r :: rs) = none := by
  rw [checkRecords, h]
  exact if_neg (ne_true_of_eq_false hno)

theorem checkRecords_cons_some {c : WriteCtx} {r : RawRecord} {rec : Record} (h : parseRecord r = some rec)
    (hyes : c.admits rec.body = true) (rs : List RawRecord) : checkRecords c (r :: rs) =
      (checkRecords (c.write (c.last + rec.delta) rec.body) rs).map fun x => (rec :: x.1, x.2) := by
  rw [checkRecords, h]
  refine (if_pos hyes).trans ?_
  cases checkRecords (c.write (c.last + rec.delta) rec.body) rs with
  | none => rfl
  | some x => rfl

/-- The body of a record that the context admits next. -/
def WriteCtx.takes (c : WriteCtx) (r : RawRecord) : Option Body :=
  (parseRecord r).bind fun rec => if c.admits rec.body then some rec.body else none

theorem parse_delta {r : RawRecord} {rec : Record} (h : parseRecord r = some rec) : rec.delta = r.delta.toNat := by
  by_cases hbits : r.head.toNat / 16 % 8 = 0
  · by_cases hrep : r.head.toNat % 16 ≠ 0 ∧ 128 ≤ r.head.toNat
    · cases (parse_none_of_repeat hrep.1 hrep.2).symm.trans h
    · rw [parse_of_head hbits hrep] at h
      split at h
      · split at h
        · split at h
          · cases h
            rfl
          · cases h
        · cases h
      · obtain ⟨k, -, rfl⟩ := Option.map_eq_some_iff.1 h
        rfl
      · obtain ⟨k, -, rfl⟩ := Option.map_eq_some_iff.1 h
        rfl
      · cases h
        rfl
      · cases h
        rfl
      · cases h
        rfl
      · cases h
        rfl
      · split at h
        · cases h
          rfl
        · cases h
      · cases h
  · cases (parse_none_of_bits hbits).symm.trans h

theorem checkRecords_of_takes_none {c : WriteCtx} {r : RawRecord} (h : c.takes r = none) (rs : List RawRecord) :
    checkRecords c (r :: rs) = none := by
  cases hparse : parseRecord r with
  | none => exact checkRecords_cons_none hparse rs
  | some rec =>
    rw [WriteCtx.takes, hparse] at h
    cases hadmits : c.admits rec.body with
    | false => exact checkRecords_cons_refused hparse hadmits rs
    | true => cases (if_pos hadmits).symm.trans h

theorem checkRecords_of_takes_some {c : WriteCtx} {r : RawRecord} {b : Body} (h : c.takes r = some b) (rs : List RawRecord) :
    checkRecords c (r :: rs) = (checkRecords (c.write (c.last + r.delta.toNat) b) rs).map fun x =>
      (⟨r.delta.toNat, b⟩ :: x.1, x.2) := by
  obtain ⟨rec, hparse, hrec⟩ := Option.bind_eq_some_iff.1 h
  cases hadmits : c.admits rec.body with
  | false => cases (if_neg (ne_true_of_eq_false hadmits)).symm.trans hrec
  | true =>
    obtain rfl : rec.body = b := Option.some.inj ((if_pos hadmits).symm.trans hrec)
    rw [checkRecords_cons_some hparse hadmits, ← parse_delta hparse]

/-- A record as the host sends it. -/
def rawOf (head delta third fourth : Nat) : RawRecord := ⟨b8 head, BitVec.ofNat 16 delta, b8 third, b8 fourth⟩

theorem rawOf_bytes (head delta third fourth : Nat) :
    (rawOf head delta third fourth).bytes = b8 head :: (b16 delta ++ [b8 third, b8 fourth]) := rfl

theorem b8_toNat {n : Nat} (h : n < 256) : (b8 n).toNat = n := by
  rw [b8, BitVec.toNat_ofNat, Nat.mod_eq_of_lt h]

theorem rawOf_plain {head : Nat} (h : head < 8 ∨ head = 128) (delta third fourth : Nat) :
    (rawOf head delta third fourth).head.toNat / 16 % 8 = 0 ∧
      ¬((rawOf head delta third fourth).head.toNat % 16 ≠ 0 ∧ 128 ≤ (rawOf head delta third fourth).head.toNat) := by
  show (b8 head).toNat / 16 % 8 = 0 ∧ ¬((b8 head).toNat % 16 ≠ 0 ∧ 128 ≤ (b8 head).toNat)
  rw [b8_toNat (by omega)]
  omega

theorem keyOf_b8 (k : Key) : keyOf (b8 k.val) = some k :=
  keyOf_eq_some (b8_toNat (k.isLt.trans (by decide))).symm

theorem record_roundTrip (r : Record) (hdelta : r.delta ≤ 65535)
    (hbody : ∀ k v rep, r.body = .noteOn k v rep → 1 ≤ v ∧ v ≤ 127)
    (hvalue : ∀ v, r.body = .damper v ∨ r.body = .soft v → v ≤ 255) (hgap : r.body = .gap → r.delta = 65535) :
    ∃ raw : RawRecord, raw.bytes = r.bytes ∧ parseRecord raw = some r := by
  obtain ⟨delta, body⟩ := r
  have hd : (BitVec.ofNat 16 delta).toNat = delta := by
    have hdelta : delta ≤ 65535 := hdelta
    rw [BitVec.toNat_ofNat, Nat.mod_eq_of_lt (by omega)]
  cases body with
  | noteOn k v rep =>
    obtain ⟨h1, h127⟩ := hbody k v rep rfl
    have hv : (b8 v).toNat = v := b8_toNat (by omega)
    cases rep with
    | false =>
      refine ⟨rawOf 0 delta k.val v, rfl, ?_⟩
      rw [parse_of_head (rawOf_plain (by decide) ..).1 (rawOf_plain (by decide) ..).2]
      show (match keyOf (b8 k.val) with
        | some k => if 1 ≤ (b8 v).toNat ∧ (b8 v).toNat ≤ 127 then
            some (⟨(BitVec.ofNat 16 delta).toNat, .noteOn k (b8 v).toNat false⟩ : Record) else none
        | none => none) = _
      rw [keyOf_b8, hv, hd]
      exact if_pos (⟨h1, h127⟩ : 1 ≤ v ∧ v ≤ 127)
    | true =>
      refine ⟨rawOf 128 delta k.val v, rfl, ?_⟩
      have hhead : (rawOf 128 delta k.val v).head.toNat = 128 := b8_toNat (by decide)
      rw [parse_of_head (rawOf_plain (by decide) ..).1 (rawOf_plain (by decide) ..).2, hhead]
      show (match keyOf (b8 k.val) with
        | some k => if 1 ≤ (b8 v).toNat ∧ (b8 v).toNat ≤ 127 then
            some (⟨(BitVec.ofNat 16 delta).toNat, .noteOn k (b8 v).toNat true⟩ : Record) else none
        | none => none) = _
      rw [keyOf_b8, hv, hd]
      exact if_pos (⟨h1, h127⟩ : 1 ≤ v ∧ v ≤ 127)
  | noteOff k =>
    refine ⟨rawOf 1 delta k.val 0, rfl, ?_⟩
    rw [parse_of_head (rawOf_plain (by decide) ..).1 (rawOf_plain (by decide) ..).2]
    show (keyOf (b8 k.val)).map (fun k => (⟨(BitVec.ofNat 16 delta).toNat, .noteOff k⟩ : Record)) = _
    rw [keyOf_b8, hd]
    rfl
  | silentPress k =>
    refine ⟨rawOf 2 delta k.val 0, rfl, ?_⟩
    rw [parse_of_head (rawOf_plain (by decide) ..).1 (rawOf_plain (by decide) ..).2]
    show (keyOf (b8 k.val)).map (fun k => (⟨(BitVec.ofNat 16 delta).toNat, .silentPress k⟩ : Record)) = _
    rw [keyOf_b8, hd]
    rfl
  | damper v =>
    refine ⟨rawOf 3 delta v 0, rfl, ?_⟩
    rw [parse_of_head (rawOf_plain (by decide) ..).1 (rawOf_plain (by decide) ..).2]
    show some (⟨(BitVec.ofNat 16 delta).toNat, .damper (b8 v).toNat⟩ : Record) = _
    rw [b8_toNat (Nat.lt_succ_of_le (hvalue v (.inl rfl))), hd]
  | soft v =>
    refine ⟨rawOf 4 delta v 0, rfl, ?_⟩
    rw [parse_of_head (rawOf_plain (by decide) ..).1 (rawOf_plain (by decide) ..).2]
    show some (⟨(BitVec.ofNat 16 delta).toNat, .soft (b8 v).toNat⟩ : Record) = _
    rw [b8_toNat (Nat.lt_succ_of_le (hvalue v (.inr rfl))), hd]
  | sostOn =>
    refine ⟨rawOf 5 delta 0 0, rfl, ?_⟩
    rw [parse_of_head (rawOf_plain (by decide) ..).1 (rawOf_plain (by decide) ..).2]
    show some (⟨(BitVec.ofNat 16 delta).toNat, .sostOn⟩ : Record) = _
    rw [hd]
  | sostOff =>
    refine ⟨rawOf 6 delta 0 0, rfl, ?_⟩
    rw [parse_of_head (rawOf_plain (by decide) ..).1 (rawOf_plain (by decide) ..).2]
    show some (⟨(BitVec.ofNat 16 delta).toNat, .sostOff⟩ : Record) = _
    rw [hd]
  | gap =>
    refine ⟨rawOf 7 delta 0 0, rfl, ?_⟩
    rw [parse_of_head (rawOf_plain (by decide) ..).1 (rawOf_plain (by decide) ..).2]
    show (if (BitVec.ofNat 16 delta).toNat = 65535 then some (⟨(BitVec.ofNat 16 delta).toNat, .gap⟩ : Record) else none) = _
    rw [hd]
    exact if_pos (hgap rfl)

/-- What the context takes next, by the fields of the record. -/
theorem takes_of_head {c : WriteCtx} {r : RawRecord} (hbits : r.head.toNat / 16 % 8 = 0)
    (hrep : ¬(r.head.toNat % 16 ≠ 0 ∧ 128 ≤ r.head.toNat)) : c.takes r =
    (match r.head.toNat % 16 with
    | 0 => if 1 ≤ r.fourth.toNat ∧ r.fourth.toNat ≤ 127 then
        (keyOf r.third).map fun k => .noteOn k r.fourth.toNat (decide (128 ≤ r.head.toNat)) else none
    | 1 => (keyOf r.third).bind fun k => if c.openKeys.get k then some (.noteOff k) else none
    | 2 => (keyOf r.third).map fun k => .silentPress k
    | 3 => some (.damper r.third.toNat)
    | 4 => some (.soft r.third.toNat)
    | 5 => if c.sost = true then none else some .sostOn
    | 6 => if c.sost = true then some .sostOff else none
    | 7 => if r.delta.toNat = 65535 then some .gap else none
    | _ => none) := by
  rw [WriteCtx.takes, parse_of_head hbits hrep]
  split
  · cases keyOf r.third with
    | none => exact (ite_self _).symm
    | some k =>
      by_cases hv : 1 ≤ r.fourth.toNat ∧ r.fourth.toNat ≤ 127
      · simp only [if_pos hv]
        rfl
      · simp only [if_neg hv]
        rfl
  · cases keyOf r.third <;> rfl
  · cases keyOf r.third <;> rfl
  · rfl
  · rfl
  · cases hsost : c.sost <;> simp only [hsost, Option.bind_some, WriteCtx.admits] <;> rfl
  · cases hsost : c.sost <;> simp only [hsost, Option.bind_some, WriteCtx.admits]
  · by_cases hd : r.delta.toNat = 65535 <;> simp only [hd] <;> rfl
  · rfl

theorem takes_none_of_bits {c : WriteCtx} {r : RawRecord} (h : r.head.toNat / 16 % 8 ≠ 0) : c.takes r = none := by
  rw [WriteCtx.takes, parse_none_of_bits h]
  rfl

theorem takes_none_of_repeat {c : WriteCtx} {r : RawRecord} (h0 : r.head.toNat % 16 ≠ 0) (h : 128 ≤ r.head.toNat) :
    c.takes r = none := by
  rw [WriteCtx.takes, parse_none_of_repeat h0 h]
  rfl

theorem checkRecords_length {c : WriteCtx} {rs : List RawRecord} {recs : List Record} {ctx : WriteCtx}
    (h : checkRecords c rs = some (recs, ctx)) : recs.length = rs.length := by
  induction rs generalizing c recs with
  | nil => cases h; rfl
  | cons r rs ih =>
    cases htakes : c.takes r with
    | none => cases (checkRecords_of_takes_none htakes rs).symm.trans h
    | some b =>
      obtain ⟨⟨recs', ctx'⟩, hrest, heq⟩ := Option.map_eq_some_iff.1 ((checkRecords_of_takes_some htakes rs).symm.trans h)
      cases heq
      exact congrArg Nat.succ (ih hrest)

/-! ### The commands of bulk transfer -/

theorem takeOpen_some {b : Byte} {t : TakeId} (ht : t.val = b.toNat) (s : State) : runCommand (.takeOpen b) s =
    if s.recorder.isSome = true ∨ s.bulk.isSome = true then answer 0x34#8 .takeBusy s
    else if (s.store.entry t).state = .empty then
      answer 0x34#8 .ok ((s.withStore (s.store.setState t .writing)).withBulk (some ⟨t, 0, {}⟩))
    else answer 0x34#8 .badState s := by
  show cmdTakeOpen b s = _
  rw [cmdTakeOpen, takeOf_eq_some ht]
  simp only [writerActive, Bool.or_eq_true, ne_eq, ite_not]

theorem takeWrite_other {b n : Byte} {rs : List RawRecord} (hlen : writeLengthOk n rs.length = true) {s : State}
    (h : ∀ w, s.bulk = some w → w.take.val ≠ b.toNat) : runCommand (.takeWrite b n rs) s = answer 0x35#8 .badState s := by
  show cmdTakeWrite b n rs s = _
  rw [cmdTakeWrite, hlen]
  cases hw : s.bulk with
  | none => rfl
  | some w => exact if_pos (h w hw).symm

theorem takeWrite_own {b n : Byte} {rs : List RawRecord} (hlen : writeLengthOk n rs.length = true) {s : State} {w : BulkWriting}
    (hw : s.bulk = some w) (ht : w.take.val = b.toNat) : runCommand (.takeWrite b n rs) s =
      match checkRecords w.ctx rs with
      | none => answer 0x35#8 .badValue s
      | some (recs, ctx) =>
        if roomOk s.store w.take recs.length ctx then
          answer 0x35#8 .ok ((s.withStore (s.store.appendAll w.take recs)).withBulk
            (some { w with cursor := w.cursor + recs.length, ctx := ctx }))
        else answer 0x35#8 .noRoom s := by
  show cmdTakeWrite b n rs s = _
  rw [cmdTakeWrite, hlen, hw]
  exact if_neg (not_not_intro ht.symm)

theorem takeClose_other {b : Byte} {s : State} (h : ∀ w, s.bulk = some w → w.take.val ≠ b.toNat) :
    runCommand (.takeClose b) s = answer 0x36#8 .badState s := by
  show cmdTakeClose b s = _
  rw [cmdTakeClose]
  cases hw : s.bulk with
  | none => rfl
  | some w => exact if_pos (h w hw).symm

theorem takeClose_own {b : Byte} {s : State} {w : BulkWriting} (hw : s.bulk = some w) (ht : w.take.val = b.toNat) :
    runCommand (.takeClose b) s = answer 0x36#8 .ok
      ((s.withStore ((closeTake w.take w.ctx.last s.store w.ctx).setState w.take .ready)).withBulk none) := by
  show cmdTakeClose b s = _
  rw [cmdTakeClose, hw]
  exact if_neg (not_not_intro ht.symm)

theorem get_grownLinks (links : Vector (Option Nat) 512) (tail : Option Nat) (b : Nat) (j : Fin 512) :
    (grownLinks links tail b).get j = if tail = some j.val then some b else if j.val = b then none else links.get j := by
  cases tail with
  | none =>
    rw [if_neg nofun]
    exact vset_get_fin ..
  | some tl =>
    rw [grownLinks, vset_get_fin, vset_get_fin]
    simp only [Option.some.injEq, eq_comm]

/-- Settles O52: the records of a TAKE_WRITE are judged one by one, and each append is one record more. -/
theorem bulkWriterFillsATake : Obligations.BulkWriterFillsATake := by
  refine ⟨fun c => rfl, ?_, fun t st c => ?_, ?_, fun s b hs hb => ?_, fun s b t hs ht => ?_, fun s b n rs hs hlen h1 h10 => ?_,
    fun s b hs => ⟨fun h => ?_, fun w hw ht => ?_⟩, fun r hd hr => ?_⟩
  · intro c raw rs head key held velocity delta valid
    have hvalid : valid = c.takes raw := by
      by_cases hbits : raw.head.toNat / 16 % 8 = 0
      · refine (if_neg (not_not_intro hbits)).trans ?_
        by_cases hrep : raw.head.toNat % 16 ≠ 0 ∧ 128 ≤ raw.head.toNat
        · exact (if_pos hrep).trans (takes_none_of_repeat hrep.1 hrep.2).symm
        · refine (if_neg hrep).trans ?_
          rw [takes_of_head hbits hrep]
          have hkey : keyOf raw.third = key := rfl
          rw [hkey]
          clear_value key
          rw [show raw.head.toNat = head from rfl]
          generalize head % 16 = code
          match code with
          | 1 =>
            cases key with
            | none => exact ite_self _
            | some k => rfl
          | 0 | 2 | 3 | 4 | 5 | 6 | 7 | _ + 8 => rfl
      · exact (if_pos hbits).trans (takes_none_of_bits hbits).symm
    exact ⟨fun h => checkRecords_of_takes_none (hvalid ▸ h) rs, fun b h => checkRecords_of_takes_some (hvalid ▸ h) rs⟩
  · intro closing
    show (writeAll t c.last closing (st, c)).1 = _
    rw [writeAll_now _ _ _ rfl, Store.appendAll, List.foldl_map]
  · intro st t r hlaw hroom e u grows
    obtain ⟨b, hb, hfill⟩ | ⟨hgrow, b, free, hfree⟩ | ⟨hgrow, hfree⟩ := hlaw.append_cases t
    · obtain ⟨hlinks, hfree, hentry, hother, hchain, hlast, hbefore, hothers⟩ := append_room_spec hlaw hb hfill r
      have hno : ¬grows := not_or.2 ⟨fun h : e.tail = none => (by cases h.symm.trans hb), Nat.ne_of_lt hfill⟩
      exact ⟨hlast, hbefore, fun o ho => ⟨hother o ho, hchain o, hothers o ho⟩, fun _ => ⟨hchain t, hfree, hlinks, hentry⟩,
        fun h => absurd h hno⟩
    · obtain ⟨hlinks, hfree', hentry, hother, hchain, hchains, hlast, hbefore, hothers⟩ :=
        append_grows_spec hlaw hgrow hfree r
      refine ⟨hlast, hbefore, fun o ho => ⟨hother o ho, hchains o ho, hothers o ho⟩, fun h => absurd hgrow h,
        fun _ => ⟨b, hfree.trans (congrArg _ hfree'.symm), hchain, fun j => ?_, hentry⟩⟩
      have hjoin : u.links.get j = (grownLinks st.links e.tail b).get j := congrArg (fun l => Vector.get l j) hlinks
      rw [hjoin, get_grownLinks]
    · obtain ⟨b, free, hcons⟩ := free_of_grows hgrow hroom
      cases hfree.symm.trans hcons
  · have hc : runCommand (.takeOpen b) s = answer 0x34#8 .badValue s := by
      show cmdTakeOpen b s = _
      rw [cmdTakeOpen, takeOf_eq_none hb]
    exact exec_answer hs rfl rfl hc rfl
  · have hc := takeOpen_some ht s
    by_cases hactive : s.recorder.isSome = true ∨ s.bulk.isSome = true
    · rw [if_pos hactive] at hc
      rw [if_pos hactive]
      exact exec_answer hs rfl rfl hc rfl
    · rw [if_neg hactive] at hc
      rw [if_neg hactive]
      by_cases hempty : (s.store.entry t).state = .empty
      · rw [if_pos hempty] at hc
        rw [if_pos hempty]
        exact exec_answer hs rfl rfl hc rfl
      · rw [if_neg hempty] at hc
        rw [if_neg hempty]
        exact exec_answer hs rfl rfl hc rfl
  · have hok : writeLengthOk n rs.length = true := by
      rw [writeLengthOk, hlen, beq_self_eq_true, decide_eq_true ⟨h1, h10⟩]
      rfl
    have hwf : (Instr.takeWrite b n rs).wf = true := decide_eq_true (by omega)
    refine ⟨fun h => exec_answer hs rfl hwf (takeWrite_other hok h) rfl, fun w hw ht => ⟨fun h => ?_, fun recs ctx h => ?_⟩⟩
    · have hc := takeWrite_own hok hw ht
      rw [h] at hc
      exact exec_answer hs rfl hwf hc rfl
    · have hc := takeWrite_own hok hw ht
      have hcount : recs.length = n.toNat := (checkRecords_length h).trans hlen
      simp only [h, roomOk, hcount, decide_eq_true_eq] at hc
      by_cases hroom : n.toNat + ctx.reserve ≤ s.store.takeFree w.take
      · rw [if_pos hroom] at hc
        rw [if_pos hroom]
        exact exec_answer hs rfl hwf hc rfl
      · rw [if_neg hroom] at hc
        rw [if_neg hroom]
        exact exec_answer hs rfl hwf hc rfl
  · exact exec_answer hs rfl rfl (takeClose_other h) rfl
  · exact exec_answer hs rfl rfl (takeClose_own hw ht) rfl
  · obtain ⟨delta, body⟩ := r
    refine record_roundTrip ⟨delta, body⟩ hd (fun k v rep hb => ?_) (fun v hb => ?_) fun hb => ?_
    · cases hb
      exact hr
    · obtain rfl | rfl := hb
      · exact hr
      · exact hr
    · cases hb
      exact hr

end Sys2Proof.Machine
end

section
/-! PROOFS. The Recorder (section 8.5). -/

namespace Sys2Proof.Machine

open Sys2Proof.StepRows

/-! ### The gap timer's expiries (R133) -/

/-- The part after a GAP record of the recording. -/
def State.gapTaken (s : State) (r : Recording) : State :=
  { s with
    store := s.store.append r.take ⟨65535, .gap⟩
    recorder := some { r with ctx := { r.ctx with last := r.ctx.last + 65535 } } }

/-- The part after the end of a recording. -/
def State.recordEnded (s : State) (r : Recording) (cause : RecordEndCause) (time : Nat) : State :=
  let st := (closeTake r.take time s.store r.ctx).setState r.take .ready
  { s with
    store := st, recorder := none
    link := s.link.note (.recordEnd r.take cause (st.entry r.take).count (st.entry r.take).duration) s.clock.ms }

theorem endRecording_eq (r : Recording) (cause : RecordEndCause) (time : Nat) (s : State) :
    endRecording r cause time s = s.recordEnded r cause time := rfl

theorem recordBody_room {s : State} {r : Recording} {time : Nat} {b : Body}
    (h : 1 + (r.ctx.write time b).reserve ≤ s.store.takeFree r.take) : recordBody r time b s =
      { s with
        store := s.store.append r.take ⟨time - r.ctx.last, b⟩
        recorder := some { r with ctx := r.ctx.write time b } } := if_pos (decide_eq_true h)

theorem recordBody_full {s : State} {r : Recording} {time : Nat} {b : Body}
    (h : s.store.takeFree r.take < 1 + (r.ctx.write time b).reserve) :
    recordBody r time b s = s.recordEnded r .full time := if_neg fun hyes => by
  have := of_decide_eq_true hyes
  omega

section
variable {s : State} {r : Recording}

theorem reserve_write_gap (c : WriteCtx) (time : Nat) : (c.write time .gap).reserve = c.reserve := rfl

theorem recordGap_room (hr : s.recorder = some r) (h : 1 + r.ctx.reserve ≤ s.store.takeFree r.take) :
    recordGap s = s.gapTaken r := by
  rw [recordGap, hr]
  refine (recordBody_room (by rwa [reserve_write_gap])).trans ?_
  rw [Nat.add_sub_cancel_left]
  rfl

theorem recordGap_full (hr : s.recorder = some r) (h : s.store.takeFree r.take < 1 + r.ctx.reserve) :
    recordGap s = s.recordEnded r .full (r.ctx.last + 65535) := by
  rw [recordGap, hr]
  exact recordBody_full (by rwa [reserve_write_gap])

theorem recordGaps_idle (h : s.recorder = none) (n : Nat) : recordGaps n s = s := by
  have hgap : recordGap s = s := by rw [recordGap, h]
  induction n with
  | zero => rfl
  | succ n ih => rw [recordGaps, hgap, ih]

theorem overdueGaps_none (hr : s.recorder = some r) {time : Nat} (h : time ≤ r.ctx.last + 65535) :
    recordOverdueGaps time s = s := by
  have hzero : (time - r.ctx.last - 1) / 65535 = 0 := by omega
  rw [recordOverdueGaps, hr]
  show recordGaps ((time - r.ctx.last - 1) / 65535) s = s
  rw [hzero]
  rfl

theorem overdueGaps_room (hr : s.recorder = some r) {time : Nat} (h : r.ctx.last + 65535 < time)
    (hroom : 1 + r.ctx.reserve ≤ s.store.takeFree r.take) :
    recordOverdueGaps time s = recordOverdueGaps time (s.gapTaken r) := by
  have hsucc : (time - r.ctx.last - 1) / 65535 = (time - (r.ctx.last + 65535) - 1) / 65535 + 1 := by omega
  rw [recordOverdueGaps, hr]
  show recordGaps ((time - r.ctx.last - 1) / 65535) s = _
  rw [hsucc, recordGaps, recordGap_room hr hroom]
  rfl

theorem overdueGaps_full (hr : s.recorder = some r) {time : Nat} (h : r.ctx.last + 65535 < time)
    (hroom : s.store.takeFree r.take < 1 + r.ctx.reserve) :
    recordOverdueGaps time s = s.recordEnded r .full (r.ctx.last + 65535) := by
  have hsucc : (time - r.ctx.last - 1) / 65535 = (time - (r.ctx.last + 65535) - 1) / 65535 + 1 := by omega
  rw [recordOverdueGaps, hr]
  show recordGaps ((time - r.ctx.last - 1) / 65535) s = _
  rw [hsucc, recordGaps, recordGap_full hr hroom]
  exact recordGaps_idle rfl _

/-! ### An event delivered to the Recorder (R131, R132) -/

/-- What the Recorder does with an event once the overdue gaps are written. -/
def recordAt (kind : EventKind) (time : Nat) (s : State) : State :=
  match s.recorder with
  | none => s
  | some r =>
    match r.ctx.bodyOf kind with
    | none => s
    | some b => recordBody r time b s

theorem recorderEvent_discarded (hr : s.recorder = some r) {ev : Event} (h : r.ctx.bodyOf ev.kind = none) :
    recorderEvent ev s = s := by
  rw [recorderEvent, hr]
  simp only [h]

theorem recorderEvent_taken (hr : s.recorder = some r) {ev : Event} {b : Body} (h : r.ctx.bodyOf ev.kind = some b) :
    recorderEvent ev s =
      recordAt ev.kind (r.eventTime s.clock.us ev.stamp) (recordOverdueGaps (r.eventTime s.clock.us ev.stamp) s) := by
  rw [recorderEvent, hr]
  simp only [h]
  rfl

theorem recordAt_of_body (hr : s.recorder = some r) {kind : EventKind} {b : Body} (h : r.ctx.bodyOf kind = some b)
    (time : Nat) : recordAt kind time s = recordBody r time b s := by
  rw [recordAt, hr]
  simp only [h]

theorem recorderEvent_overdue_room (hr : s.recorder = some r) {ev : Event} {b : Body}
    (h : r.ctx.bodyOf ev.kind = some b) (hlate : r.ctx.last + 65535 < r.eventTime s.clock.us ev.stamp)
    (hroom : 1 + r.ctx.reserve ≤ s.store.takeFree r.take) : recorderEvent ev s = recorderEvent ev (s.gapTaken r) := by
  have htime : Recording.eventTime { r with ctx := { r.ctx with last := r.ctx.last + 65535 } } s.clock.us ev.stamp =
      r.eventTime s.clock.us ev.stamp := by
    simp only [Recording.eventTime] at hlate ⊢
    omega
  rw [recorderEvent_taken hr h, overdueGaps_room hr hlate hroom,
    recorderEvent_taken (s := s.gapTaken r) (r := { r with ctx := { r.ctx with last := r.ctx.last + 65535 } }) rfl
      (b := b) (by cases hk : ev.kind <;> rw [hk] at h <;> exact h)]
  show _ = recordAt ev.kind (Recording.eventTime _ s.clock.us ev.stamp)
    (recordOverdueGaps (Recording.eventTime _ s.clock.us ev.stamp) _)
  rw [htime]

/-! ### The commands -/

theorem recordStop_none (hr : s.recorder = none) : runCommand .recordStop s = answer 0x31#8 .badState s := by
  show cmdRecordStop s = _
  rw [cmdRecordStop, hr]

/-- RECORD_STOP once the overdue gaps are written. -/
def stopNow (s : State) : State :=
  match s.recorder with
  | none => answer 0x31#8 .badState s
  | some r => endRecording r .stopped r.time (answer 0x31#8 .ok s)

theorem recordStop_some (hr : s.recorder = some r) :
    runCommand .recordStop s = stopNow (recordOverdueGaps r.time s) := by
  show cmdRecordStop s = _
  rw [cmdRecordStop, hr]
  rfl

theorem stopNow_none (hr : s.recorder = none) : stopNow s = answer 0x31#8 .badState s := by
  rw [stopNow, hr]

theorem stopNow_some (hr : s.recorder = some r) :
    stopNow s = endRecording r .stopped r.time (answer 0x31#8 .ok s) := by
  rw [stopNow, hr]

theorem chooseTx_ended_answer {cause : RecordEndCause} {time : Nat} {st : Status} :
    chooseTx (endRecording r cause time (answer 0x31#8 st s)) =
      { s.recordEnded r cause time with link := (s.recordEnded r cause time).link.reply 0x31#8 st [] } := by
  show chooseTx { s.recordEnded r cause time with
    link := Link.note { s.link with slot := some ⟨replyType 0x31#8, st, [], false⟩ }
      (.recordEnd r.take cause (((closeTake r.take time s.store r.ctx).setState r.take .ready).entry r.take).count
        (((closeTake r.take time s.store r.ctx).setState r.take .ready).entry r.take).duration) s.clock.ms } = _
  rw [Link.note_withSlot]
  rfl

theorem recordStart_bad {b mode : Byte} (h : 15 < b.toNat ∨ 1 < mode.toNat) (s : State) :
    runCommand (.recordStart b mode) s = answer 0x30#8 .badValue s := by
  show cmdRecordStart b mode s = _
  rw [cmdRecordStart]
  obtain h | h := h
  · rw [takeOf_eq_none h]
  · rw [show appendOf mode = none from switchOf_eq_none h]
    cases takeOf b <;> rfl

/-- A recording can start on a take that nobody uses while nobody writes (R130). -/
theorem takeFreeToRecord_iff (s : State) (t : TakeId) :
    (s.recorder = none ∧ s.bulk = none ∧ (s.store.entry t).played = false ∧ (s.store.entry t).read = false ∧
      (s.store.entry t).state ≠ .recording ∧ (s.store.entry t).state ≠ .writing ∧ (s.store.entry t).state ≠ .editing) ↔
    ¬writerActive s = true ∧
      ¬((s.store.entry t).played || (s.store.entry t).read || (s.store.entry t).underWriting) = true := by
  simp only [writerActive, Bool.or_eq_true, underWriting_iff, not_or, Option.isSome_iff_ne_none, not_not, Bool.not_eq_true,
    ne_eq, and_assoc]

theorem recordStart_good {b mode : Byte} {t : TakeId} (ht : t.val = b.toNat) (hmode : mode.toNat ≤ 1) (s : State) :
    runCommand (.recordStart b mode) s =
      if ¬(s.recorder = none ∧ s.bulk = none ∧ (s.store.entry t).played = false ∧ (s.store.entry t).read = false ∧
        (s.store.entry t).state ≠ .recording ∧ (s.store.entry t).state ≠ .writing ∧ (s.store.entry t).state ≠ .editing)
      then answer 0x30#8 .takeBusy s
      else if (s.store.entry t).state ≠ (if mode = 0#8 then .empty else .ready) then answer 0x30#8 .badState s
      else answer 0x30#8 .ok ((s.withStore (s.store.setState t .recording)).withRecorder
        (some ⟨t, 0, if mode = 0#8 then 0 else (s.store.entry t).duration,
          { last := if mode = 0#8 then 0 else (s.store.entry t).duration }⟩)) := by
  have happend : appendOf mode = some (!decide (mode = 0#8)) := by
    obtain rfl | rfl : mode = 0#8 ∨ mode = 1#8 := by bv_omega
    · rfl
    · rfl
  show cmdRecordStart b mode s = _
  rw [cmdRecordStart, takeOf_eq_some ht, happend]
  have hfree := takeFreeToRecord_iff s t
  by_cases hactive : writerActive s = true
  · refine (if_pos hactive).trans (if_pos fun h => ?_).symm
    exact (hfree.1 h).1 hactive
  · refine (if_neg hactive).trans ?_
    by_cases hmarks : ((s.store.entry t).played || (s.store.entry t).read || (s.store.entry t).underWriting) = true
    · refine (if_pos hmarks).trans (if_pos fun h => ?_).symm
      exact (hfree.1 h).2 hmarks
    · refine (if_neg hmarks).trans (Eq.trans ?_ (if_neg (not_not_intro (hfree.2 ⟨hactive, hmarks⟩))).symm)
      simp only [Bool.not_eq_true', decide_eq_false_iff_not, ite_not]

theorem recorderEvent_due (hr : s.recorder = some r) {ev : Event} {b : Body} (h : r.ctx.bodyOf ev.kind = some b)
    (hnow : r.eventTime s.clock.us ev.stamp ≤ r.ctx.last + 65535) :
    recorderEvent ev s = recordBody r (r.eventTime s.clock.us ev.stamp) b s := by
  rw [recorderEvent_taken hr h, overdueGaps_none hr hnow, recordAt_of_body hr h]

theorem recorderEvent_overdue_full (hr : s.recorder = some r) {ev : Event} {b : Body}
    (h : r.ctx.bodyOf ev.kind = some b) (hlate : r.ctx.last + 65535 < r.eventTime s.clock.us ev.stamp)
    (hroom : s.store.takeFree r.take < 1 + r.ctx.reserve) :
    recorderEvent ev s = s.recordEnded r .full (r.ctx.last + 65535) := by
  rw [recorderEvent_taken hr h, overdueGaps_full hr hlate hroom]
  rfl

/-- The gap timer's row when it is due. -/
theorem exec_gapTimer {u : State} (hs : s.Steady) (hr : s.recorder = some r)
    (hdue : r.ctx.last + 65535 ≤ r.clock / 1000 + r.offset) (hgap : recordGap s = u) (hrun : u.running = s.running)
    (hcore : u.link.core = s.link.core) : exec .gapTimerExpiry s = .next (chooseTx u) := by
  have htake : takeGapExpiry s = u := by
    rw [takeGapExpiry, hr]
    exact (if_pos hdue).trans hgap
  rw [← htake] at hrun hcore ⊢
  exact exec_event (fun _ => rfl) hs hrun hcore

end

/-- Settles O51: an event or a stop takes the overdue gap expiries one by one, each a record or the end. -/
theorem recordingStartsWritesAndStops : Obligations.RecordingStartsWritesAndStops := by
  refine ⟨?_, ?_, ?_, takeFree_eq, ?_, fun s b mode hs h => ?_, ?_, ?_, fun s hr ev => ?_, fun s hs h => ?_, ?_, fun s hs hr => ?_, ?_,
    ?_, ?_⟩
  · intro c kind
    cases kind <;> rfl
  · intro c time b
    cases b <;> rfl
  · intro c
    rw [WriteCtx.reserve]
    simp only [ne_eq, ite_not]
    rfl
  · intro t time st c closing
    rw [closeTake_eq]
    show st.appendAll t (closingRecords time c.last closing) = _
    cases closing with
    | nil => rfl
    | cons b bs =>
      show (bs.map fun b => (⟨0, b⟩ : Record)).foldl (fun u r => Store.append u t r) (st.append t ⟨time - c.last, b⟩) = _
      rw [List.foldl_map]
  · exact exec_answer hs rfl rfl (recordStart_bad h s) rfl
  · intro s b mode t hs ht hmode e free off
    have hc := recordStart_good ht hmode s
    refine ⟨fun hbusy => ?_, fun hfree hstate => ?_, fun hfree hstate => ?_⟩
    · rw [if_pos hbusy] at hc
      exact exec_answer hs rfl rfl hc rfl
    · rw [if_neg (not_not_intro hfree), if_pos hstate] at hc
      exact exec_answer hs rfl rfl hc rfl
    · rw [if_neg (not_not_intro hfree), if_neg (not_not_intro hstate)] at hc
      exact exec_answer hs rfl rfl hc rfl
  · intro s ev r hr time
    refine ⟨recorderEvent_discarded hr, fun b hb hnow hroom => ?_, fun b hb hnow hroom => ?_,
      fun b hb hlate => ⟨recorderEvent_overdue_room hr hb hlate, recorderEvent_overdue_full hr hb hlate⟩⟩
    · exact (recorderEvent_due hr hb hnow).trans (recordBody_room hroom)
    · exact (recorderEvent_due hr hb hnow).trans (recordBody_full hroom)
  · rw [recorderEvent, hr]
  · have hidle : takeGapExpiry s = s := by
      rw [takeGapExpiry]
      cases hr : s.recorder with
      | none => rfl
      | some r => exact if_neg (Nat.not_le.2 (h r hr))
    have hrow := exec_quiet_event (i := .gapTimerExpiry) (f := takeGapExpiry) (fun _ => rfl) hs
      (congrArg State.running hidle) (congrArg State.link hidle)
    rw [hrow, hidle]
  · intro s r hs hr hdue
    refine ⟨fun hroom => ?_, fun hroom => ?_⟩
    · have hrow := exec_gapTimer hs hr hdue (recordGap_room hr hroom) rfl rfl
      have hset : chooseTx (s.gapTaken r) = s.gapTaken r := chooseTx_of_settled hs.2
      rw [hrow, hset]
      rfl
    · intro st
      exact exec_gapTimer hs hr hdue (recordGap_full hr hroom) rfl (Link.note_core ..)
  · exact exec_answer hs rfl rfl (recordStop_none hr) rfl
  · intro s r hs hr hnow st
    have hc := recordStop_some hr
    rw [overdueGaps_none (time := r.time) hr hnow, stopNow_some hr] at hc
    rw [exec_of_ready hs rfl rfl, hc, chooseTx_ended_answer]
    rfl
  · intro s r hs hr hlate
    have hc := recordStop_some hr
    refine ⟨fun hroom => ?_, fun hroom => ?_⟩
    · rw [overdueGaps_room (time := r.time) hr hlate hroom] at hc
      rw [exec_of_ready hs rfl rfl, hc, ← State.gapTaken, exec_of_ready (s := s.gapTaken r) hs rfl rfl,
        recordStop_some (s := s.gapTaken r) rfl]
      rfl
    · intro st
      rw [overdueGaps_full (time := r.time) hr hlate hroom, stopNow_none rfl] at hc
      exact exec_answer hs rfl rfl hc rfl
  · intro t time st c hfill hroom st'
    have hlen := closingRecords_length time c.last c.closing
    have hdelta := closingRecords_delta time c.last c.closing
    obtain ⟨hcount, hduration, hfree, hother⟩ := appendAll_counts hfill (hlen.trans (closing_length c) ▸ hroom)
    rw [hlen, closing_length] at hcount hfree
    rw [hdelta, closing_length] at hduration
    show _ ∧ _ ∧ _ ∧ _
    rw [show st' = _ from closeTake_eq t time st c]
    exact ⟨hcount, hduration, hfree, hother⟩

end Sys2Proof.Machine
end

section
/-! PROOFS. The Edit Unit's commands (chapter 10). -/

namespace Sys2Proof.Machine

open Sys2Proof.StepRows

/-! ### The rollback of a copy (R171) -/

/-- The store after a copy's rollback and the release of its source. -/
def CopyJob.rolledBack (j : CopyJob) (st : Store) : Store := (st.rollback j.dst j.saved).setRead j.src false

/-- The part after the rollback of a copy. -/
def State.copyUndone (s : State) (j : CopyJob) (result : EditResult) : State :=
  { s with
    store := j.rolledBack s.store, edit := .idle
    link := s.link.note (.editDone .copy result j.src (some j.dst) 0 j.saved.count j.saved.duration) s.clock.ms }

theorem blocksAfter_eq (saved : TakeEntry) (chain : List Nat) : blocksAfter saved chain =
    match saved.tail with
    | none => chain
    | some b => (chain.dropWhile fun x => x ≠ b).tail := by
  rw [blocksAfter]
  cases saved.tail with
  | none => rfl
  | some b => exact List.drop_one

/-- The store of a rollback, before the destination's entry is restored. -/
theorem rollback_eq (st : Store) (dst : TakeId) (saved : TakeEntry) : st.rollback dst saved =
    Store.withEntry { st with
      free := st.free ++ blocksAfter saved (st.chain dst)
      links := (saved.tail.map fun b => vset (clearLinks st.links (blocksAfter saved (st.chain dst))) b none).getD
        (clearLinks st.links (blocksAfter saved (st.chain dst))) } dst
      { saved with played := (st.entry dst).played, read := (st.entry dst).read } := by
  rw [Store.rollback]
  cases saved.tail <;> rfl

theorem rollback_entry_dst (st : Store) (dst : TakeId) (saved : TakeEntry) : (st.rollback dst saved).entry dst =
    { saved with played := (st.entry dst).played, read := (st.entry dst).read } := by
  rw [rollback_eq, entry_withEntry_same]

theorem rollback_entry_ne (st : Store) {dst o : TakeId} (h : o ≠ dst) (saved : TakeEntry) :
    (st.rollback dst saved).entry o = st.entry o := by
  rw [rollback_eq, entry_withEntry_ne _ h]
  rfl

theorem rollback_links (st : Store) (dst : TakeId) (saved : TakeEntry) (i : Fin 512) :
    (st.rollback dst saved).links.get i =
      if i.val ∈ blocksAfter saved (st.chain dst) ∨ saved.tail = some i.val then none else st.links.get i := by
  rw [rollback_eq]
  show ((saved.tail.map fun b => vset (clearLinks st.links (blocksAfter saved (st.chain dst))) b none).getD
    (clearLinks st.links (blocksAfter saved (st.chain dst)))).get i = _
  cases htail : saved.tail with
  | none =>
    simp only [reduceCtorEq, or_false]
    exact clearLinks_get ..
  | some b =>
    show (vset (clearLinks st.links (blocksAfter saved (st.chain dst))) b none).get i = _
    rw [vset_get_fin, clearLinks_get]
    by_cases hb : i.val = b
    · rw [if_pos hb, if_pos (.inr (congrArg some hb.symm))]
    · rw [if_neg hb]
      simp only [Option.some.injEq, (Ne.symm hb : ¬b = i.val), or_false]

/-- What a rollback leaves, the source and the destination being two takes. -/
theorem rolledBack_spec {j : CopyJob} (h : j.src ≠ j.dst) (st : Store) :
    (j.rolledBack st).entry j.dst = { j.saved with played := (st.entry j.dst).played, read := (st.entry j.dst).read } ∧
      (j.rolledBack st).entry j.src = { st.entry j.src with read := false } ∧
      (∀ o, o ≠ j.dst → o ≠ j.src → (j.rolledBack st).entry o = st.entry o) ∧
      (j.rolledBack st).free = st.free ++ blocksAfter j.saved (st.chain j.dst) ∧
      (∀ i : Fin 512, (j.rolledBack st).links.get i =
        if i.val ∈ blocksAfter j.saved (st.chain j.dst) ∨ j.saved.tail = some i.val then none else st.links.get i) ∧
      j.rolledBack st = { st with
        free := (j.rolledBack st).free, links := (j.rolledBack st).links, takes := (j.rolledBack st).takes } := by
  refine ⟨?_, ?_, fun o hd hs => ?_, ?_, fun i => rollback_links .., ?_⟩
  · rw [CopyJob.rolledBack, Store.setRead, entry_withEntry_ne _ h.symm, rollback_entry_dst]
  · rw [CopyJob.rolledBack, Store.setRead, entry_withEntry_same, rollback_entry_ne _ h]
  · rw [CopyJob.rolledBack, Store.setRead, entry_withEntry_ne _ hs, rollback_entry_ne _ hd]
  · show (st.rollback j.dst j.saved).free = _
    rw [rollback_eq]
    rfl
  · rw [CopyJob.rolledBack, rollback_eq]
    rfl

theorem copyRollback_eq (j : CopyJob) (result : EditResult) (s : State) :
    copyRollback j result s = s.copyUndone j result := by
  rw [copyRollback, copyDone]
  show raise (.editDone .copy result j.src (some j.dst) 0 ((s.store.rollback j.dst j.saved).entry j.dst).count
    ((s.store.rollback j.dst j.saved).entry j.dst).duration) _ = _
  rw [rollback_entry_dst]
  rfl

/-- The part after the end of a search. -/
def State.searchEnded (s : State) (j : SearchJob) (result : EditResult) (number time : Nat) : State :=
  { s with
    store := s.store.withEntry j.take { s.store.entry j.take with read := false }, edit := .idle
    link := s.link.note (.editDone .search result j.take none number 0 time) s.clock.ms }

theorem searchDone_eq (j : SearchJob) (result : EditResult) (number time : Nat) (s : State) :
    searchDone j result number time s = s.searchEnded j result number time := rfl

/-- The part after the end of a scaling. -/
def State.scaleEnded (s : State) (j : ScaleJob) (result : EditResult) : State :=
  { s with
    store := s.store.withEntry j.take { s.store.entry j.take with state := .ready }, edit := .idle
    link := s.link.note (.editDone .scale result j.take none j.changes 0 0) s.clock.ms }

theorem scaleDone_eq (j : ScaleJob) (result : EditResult) (s : State) : scaleDone j result s = s.scaleEnded j result := rfl

/-! ### The checks of the commands (R166, R167, R172, R173) -/

/-- The status TAKE_COPY is refused with, once its arguments are in their ranges. -/
def copyRefusal (s : State) (src dst : TakeId) (mode : Byte) (f u : Nat) : Option Status :=
  if s.edit ≠ .idle then some .busy
  else if (s.store.entry src).state = .recording ∨ (s.store.entry src).state = .writing ∨
      (s.store.entry src).state = .editing then some .takeBusy
  else if (s.store.entry src).state = .empty then some .badState
  else if min u (s.store.entry src).duration ≤ f then some .badValue
  else if (s.store.entry dst).played = true ∨ (s.store.entry dst).state = .recording ∨
      (s.store.entry dst).state = .writing ∨ (s.store.entry dst).state = .editing then some .takeBusy
  else if (s.store.entry dst).state ≠ (if mode = 0#8 then .empty else .ready) then some .badState
  else none

theorem appendOf_some {mode : Byte} (h : mode.toNat ≤ 1) : appendOf mode = some (decide (mode = 1#8)) := by
  obtain rfl | rfl : mode = 0#8 ∨ mode = 1#8 := by bv_omega
  · rfl
  · rfl

theorem takeCopy_bad {a b mode : Byte} {f u : W32}
    (h : 15 < a.toNat ∨ 15 < b.toNat ∨ a = b ∨ 1 < mode.toNat ∨ u.toNat ≤ f.toNat) (s : State) :
    runCommand (.takeCopy a f u b mode) s = answer 0x50#8 .badValue s := by
  show cmdTakeCopy a f u b mode s = _
  rw [cmdTakeCopy]
  by_cases ha : 15 < a.toNat
  · rw [takeOf_eq_none ha]
  by_cases hb : 15 < b.toNat
  · rw [takeOf_eq_none hb]
    cases takeOf a <;> rfl
  by_cases hmode : 1 < mode.toNat
  · rw [show appendOf mode = none from switchOf_eq_none hmode]
    cases takeOf a with
    | none => rfl
    | some _ => cases takeOf b <;> rfl
  rw [takeOf_eq_some (t := ⟨a.toNat, by omega⟩) rfl, takeOf_eq_some (t := ⟨b.toNat, by omega⟩) rfl,
    appendOf_some (Nat.not_lt.1 hmode)]
  refine if_pos ?_
  obtain h | h | rfl | h | h := h
  · exact absurd h ha
  · exact absurd h hb
  · exact .inl rfl
  · exact absurd h hmode
  · exact .inr h

theorem not_ready_iff {x : TakeState} (h : ¬(x = .recording ∨ x = .writing ∨ x = .editing)) : x ≠ .ready ↔ x = .empty := by
  cases x <;> simp_all

theorem startCopy_eq {src dst : TakeId} (h : src ≠ dst) (f u : Nat) (app : Bool) (s : State) :
    startCopy src dst f u app s = { s with
      store := (s.store.withEntry src { s.store.entry src with read := true }).withEntry dst
        { s.store.entry dst with state := .editing }
      edit := .copy
        { src := src, dst := dst, fromMs := f, toArg := u, toMs := min u (s.store.entry src).duration
          append := app, base := if app then (s.store.entry dst).duration else 0, started := false, index := 0
          time := (s.store.record src 0).delta
          ctx := { last := if app then (s.store.entry dst).duration else 0 }, saved := s.store.entry dst, written := 0 } } := by
  rw [startCopy, Store.setState, Store.setRead, entry_withEntry_ne _ h.symm]
  rfl

theorem takeCopy_good {a b mode : Byte} {f u : W32} {src dst : TakeId} (ha : src.val = a.toNat) (hb : dst.val = b.toNat)
    (hne : src ≠ dst) (hmode : mode.toNat ≤ 1) (hfu : f.toNat < u.toNat) (s : State) :
    runCommand (.takeCopy a f u b mode) s =
      (copyRefusal s src dst mode f.toNat u.toNat).elim
        (answer 0x50#8 .accepted (startCopy src dst f.toNat u.toNat (decide (mode = 1#8)) s)) fun st => answer 0x50#8 st s := by
  have hempty : (if decide (mode = 1#8) then TakeState.ready else .empty) = if mode = 0#8 then .empty else .ready := by
    obtain rfl | rfl : mode = 0#8 ∨ mode = 1#8 := by bv_omega
    · rfl
    · rfl
  show cmdTakeCopy a f u b mode s = _
  rw [cmdTakeCopy, takeOf_eq_some ha, takeOf_eq_some hb, appendOf_some hmode, copyRefusal]
  simp only [underWriting_iff, Bool.or_eq_true, hempty]
  rw [if_neg (not_or.2 ⟨hne, Nat.not_le.2 hfu⟩)]
  by_cases hbusy : s.edit ≠ .idle
  · rw [if_pos hbusy, if_pos hbusy]
    rfl
  rw [if_neg hbusy, if_neg hbusy]
  by_cases hsrc : (s.store.entry src).state = .recording ∨ (s.store.entry src).state = .writing ∨
      (s.store.entry src).state = .editing
  · rw [if_pos hsrc, if_pos hsrc]
    rfl
  rw [if_neg hsrc, if_neg hsrc, if_congr (not_ready_iff hsrc) rfl rfl]
  by_cases hnone : (s.store.entry src).state = .empty
  · rw [if_pos hnone, if_pos hnone]
    rfl
  rw [if_neg hnone, if_neg hnone]
  by_cases hrange : min u.toNat (s.store.entry src).duration ≤ f.toNat
  · rw [if_pos hrange, if_pos hrange]
    rfl
  rw [if_neg hrange, if_neg hrange]
  by_cases hdst : (s.store.entry dst).played = true ∨ (s.store.entry dst).state = .recording ∨
      (s.store.entry dst).state = .writing ∨ (s.store.entry dst).state = .editing
  · rw [if_pos hdst, if_pos hdst]
    rfl
  rw [if_neg hdst, if_neg hdst]
  by_cases hstate : (s.store.entry dst).state ≠ (if mode = 0#8 then .empty else .ready)
  · rw [if_pos hstate, if_pos hstate]
    rfl
  · rw [if_neg hstate, if_neg hstate]
    rfl

theorem takeSearch_bad {a k lo hi vl vh : Byte} {start : W16}
    (h : 15 < a.toNat ∨ 127 < k.toNat ∨ 87 < hi.toNat ∨ hi.toNat < lo.toNat ∨ vh.toNat < vl.toNat) (s : State) :
    runCommand (.takeSearch a start k lo hi vl vh) s = answer 0x51#8 .badValue s := by
  show cmdTakeSearch a start k lo hi vl vh s = _
  rw [cmdTakeSearch]
  by_cases ha : 15 < a.toNat
  · rw [takeOf_eq_none ha]
  rw [takeOf_eq_some (t := ⟨a.toNat, by omega⟩) rfl]
  refine if_pos ?_
  simp only [kindSetOk, rangeOk, Bool.or_eq_true, Bool.not_eq_true', decide_eq_false_iff_not, decide_eq_true_eq]
  omega

theorem takeSearch_good {a k lo hi vl vh : Byte} {start : W16} {t : TakeId} (ht : t.val = a.toNat) (hk : k.toNat ≤ 127)
    (hhi : hi.toNat ≤ 87) (hlo : lo.toNat ≤ hi.toNat) (hv : vl.toNat ≤ vh.toNat) (s : State) :
    runCommand (.takeSearch a start k lo hi vl vh) s =
      if s.edit ≠ .idle then answer 0x51#8 .busy s
      else if (s.store.entry t).state = .recording ∨ (s.store.entry t).state = .writing ∨
          (s.store.entry t).state = .editing then answer 0x51#8 .takeBusy s
      else if (s.store.entry t).state = .empty then answer 0x51#8 .badState s
      else answer 0x51#8 .accepted
        (startSearch t start.toNat (k.extractLsb' 0 7) lo.toNat hi.toNat vl.toNat vh.toNat s) := by
  show cmdTakeSearch a start k lo hi vl vh s = _
  rw [cmdTakeSearch, takeOf_eq_some ht]
  simp only [underWriting_iff]
  refine if_neg ?_
  simp only [kindSetOk, rangeOk, Bool.or_eq_true, Bool.not_eq_true', decide_eq_false_iff_not, decide_eq_true_eq]
  omega

theorem takeScale_bad {a lo hi o : Byte} {f u : W32} {q : W16}
    (h : 15 < a.toNat ∨ u.toNat ≤ f.toNat ∨ 87 < hi.toNat ∨ hi.toNat < lo.toNat ∨ 512 < q.toNat ∨ o = 0x80#8) (s : State) :
    runCommand (.takeScale a f u lo hi q o) s = answer 0x52#8 .badValue s := by
  show cmdTakeScale a f u lo hi q o s = _
  rw [cmdTakeScale]
  by_cases ha : 15 < a.toNat
  · rw [takeOf_eq_none ha]
  rw [takeOf_eq_some (t := ⟨a.toNat, by omega⟩) rfl]
  refine if_pos ?_
  simp only [rangeOk, decide_eq_false_iff_not]
  obtain h | h | h | h | h | rfl := h
  · exact absurd h ha
  · exact .inl h
  · exact .inr (.inl (by omega))
  · exact .inr (.inl (by omega))
  · exact .inr (.inr (.inl h))
  · exact .inr (.inr (.inr (by decide)))

theorem takeScale_good {a lo hi o : Byte} {f u : W32} {q : W16} {t : TakeId} (ht : t.val = a.toNat)
    (hfu : f.toNat < u.toNat) (hhi : hi.toNat ≤ 87) (hlo : lo.toNat ≤ hi.toNat) (hq : q.toNat ≤ 512) (ho : o ≠ 0x80#8)
    (s : State) : runCommand (.takeScale a f u lo hi q o) s =
      if s.edit ≠ .idle then answer 0x52#8 .busy s
      else if (s.store.entry t).played = true ∨ (s.store.entry t).state = .recording ∨
          (s.store.entry t).state = .writing ∨ (s.store.entry t).state = .editing then answer 0x52#8 .takeBusy s
      else if (s.store.entry t).state = .empty then answer 0x52#8 .badState s
      else answer 0x52#8 .accepted
        (startScale t f.toNat u.toNat lo.toNat hi.toNat q.toNat o.toInt s) := by
  have hoff : ¬o.toInt < -127 := by
    intro h
    refine ho (BitVec.eq_of_toInt_eq ?_)
    have hge := BitVec.le_toInt o
    show o.toInt = -128
    omega
  show cmdTakeScale a f u lo hi q o s = _
  rw [cmdTakeScale, takeOf_eq_some ht]
  simp only [underWriting_iff, Bool.or_eq_true]
  refine if_neg ?_
  simp only [rangeOk, decide_eq_false_iff_not]
  omega

/-! ### An abort (R174) -/

theorem editAbort_idle {s : State} (h : s.edit = .idle) : runCommand .editAbort s = answer 0x53#8 .badState s := by
  show cmdEditAbort s = _
  rw [cmdEditAbort, h]

/-- Answering OK before a notice is raised or after it is the same. -/
theorem chooseTx_noted_answer (u : State) (l : Link) (n : NoticeBody) (ms : W32) (code : Byte) (st : Status) :
    chooseTx { u with link := Link.note { l with slot := some ⟨replyType code, st, [], false⟩ } n ms } =
      { u with link := (l.note n ms).reply code st [] } := by
  rw [Link.note_withSlot]
  rfl

theorem exec_editAbort {s u : State} {n : NoticeBody} (hs : s.Ready)
    (h : cmdEditAbort s = { u with
      link := Link.note { s.link with slot := some ⟨replyType 0x53#8, .ok, [], false⟩ } n s.clock.ms }) :
    exec .editAbort s = .next { u with link := (s.link.note n s.clock.ms).reply 0x53#8 .ok [] } := by
  rw [exec_of_ready hs rfl rfl, show runCommand .editAbort s = _ from h, chooseTx_noted_answer]

/-- Settles O59: the commands check in the manual's order, and an abort ends what runs. -/
theorem editCommandsStartAndAbort : Obligations.EditCommandsStartAndAbort := by
  refine ⟨fun s a b mode f u hs => ⟨fun h => exec_answer hs rfl rfl (takeCopy_bad h s) rfl, ?_⟩,
    fun s a start k lo hi vl vh hs => ⟨fun h => exec_answer hs rfl rfl (takeSearch_bad h s) rfl, ?_⟩,
    fun s a f u lo hi q o hs => ⟨fun h => exec_answer hs rfl rfl (takeScale_bad h s) rfl, ?_⟩,
    fun s hs => ⟨fun h => exec_answer hs rfl rfl (editAbort_idle h) rfl, fun j hj => ?_, fun j hj => ?_, ?_⟩⟩
  · intro src dst ha hb hne hmode hfu x y base status
    have hc := takeCopy_good ha hb hne hmode hfu s
    have hstatus : status = copyRefusal s src dst mode f.toNat u.toNat := rfl
    rw [← hstatus] at hc
    clear_value status
    cases status with
    | some st => exact exec_answer hs rfl rfl hc rfl
    | none =>
      refine exec_answer hs rfl rfl hc ?_
      have hbase : (if decide (mode = 1#8) then y.duration else 0) = base := by
        obtain rfl | rfl : mode = 0#8 ∨ mode = 1#8 := by bv_omega
        · rfl
        · rfl
      rw [startCopy_eq hne, hbase]
      rfl
  · intro t ht hk hhi hlo hv x
    have hc := takeSearch_good (start := start) ht hk hhi hlo hv s
    by_cases hbusy : s.edit ≠ .idle
    · rw [if_pos hbusy] at hc ⊢
      exact exec_answer hs rfl rfl hc rfl
    rw [if_neg hbusy] at hc ⊢
    by_cases huse : (s.store.entry t).state = .recording ∨ (s.store.entry t).state = .writing ∨
        (s.store.entry t).state = .editing
    · rw [if_pos huse] at hc ⊢
      exact exec_answer hs rfl rfl hc rfl
    rw [if_neg huse] at hc ⊢
    by_cases hempty : (s.store.entry t).state = .empty
    · rw [if_pos hempty] at hc ⊢
      exact exec_answer hs rfl rfl hc rfl
    · rw [if_neg hempty] at hc ⊢
      exact exec_answer hs rfl rfl hc rfl
  · intro t ht hfu hhi hlo hq ho x
    have hc := takeScale_good ht hfu hhi hlo hq ho s
    by_cases hbusy : s.edit ≠ .idle
    · rw [if_pos hbusy] at hc ⊢
      exact exec_answer hs rfl rfl hc rfl
    rw [if_neg hbusy] at hc ⊢
    by_cases huse : (s.store.entry t).played = true ∨ (s.store.entry t).state = .recording ∨
        (s.store.entry t).state = .writing ∨ (s.store.entry t).state = .editing
    · rw [if_pos huse] at hc ⊢
      exact exec_answer hs rfl rfl hc rfl
    rw [if_neg huse] at hc ⊢
    by_cases hempty : (s.store.entry t).state = .empty
    · rw [if_pos hempty] at hc ⊢
      exact exec_answer hs rfl rfl hc rfl
    · rw [if_neg hempty] at hc ⊢
      exact exec_answer hs rfl rfl hc rfl
  · refine exec_editAbort (u := s.searchEnded j .aborted j.index 0) hs ?_
    rw [cmdEditAbort, hj]
    rfl
  · refine exec_editAbort (u := s.scaleEnded j .aborted) hs ?_
    rw [cmdEditAbort, hj]
    rfl
  · intro j hj hne e gone
    have hgone : blocksAfter j.saved (s.store.chain j.dst) = gone := blocksAfter_eq ..
    obtain ⟨hdst, hsrc, hother, hfree, hlinks, hstore⟩ := rolledBack_spec hne s.store
    rw [hgone] at hfree hlinks
    refine ⟨_, exec_editAbort (u := s.copyUndone j .aborted)
      (n := .editDone .copy .aborted j.src (some j.dst) 0 j.saved.count j.saved.duration) hs ?_, hdst, hsrc, hother, hfree, hlinks, ?_⟩
    · rw [cmdEditAbort, hj]
      exact copyRollback_eq ..
    · exact congrArg (fun st => State.withLink { s with store := st, edit := .idle }
        ((s.link.note (.editDone .copy .aborted j.src (some j.dst) 0 j.saved.count j.saved.duration) s.clock.ms).reply
          0x53#8 .ok [])) hstore

end Sys2Proof.Machine
end

section
/-! PROOFS. The steps of the Edit Unit (sections 10.2 to 10.4). -/

namespace Sys2Proof.Machine

open Sys2Proof.StepRows

/-! ### An event row that raises one notice, or none -/

theorem exec_noted_event {i : Instr} {f : State → State} (hi : ∀ s, rowAct i s = whenRunning f s) {s u : State}
    (h : s.Steady) (n : NoticeBody) (hf : f s = { u with link := s.link.note n s.clock.ms })
    (hr : u.running = s.running) : exec i s = .next { u with link := s.link.notify n s.clock.ms } := by
  rw [exec_event hi h (by rw [hf]; exact hr) (by rw [hf]; exact Link.note_core ..), hf]
  rfl

theorem exec_silent_event {i : Instr} {f : State → State} (hi : ∀ s, rowAct i s = whenRunning f s) {s u : State}
    (h : s.Steady) (hf : f s = u) (hr : u.running = s.running) (hl : u.link = s.link) : exec i s = .next u := by
  rw [exec_quiet_event hi h (by rw [hf]; exact hr) (by rw [hf]; exact hl), hf]

/-! ### Copying (R167 to R170) -/

theorem copyWrite_eq (s : State) (dst : TakeId) (time : Nat) (b : Body) (w : CopyWork) : copyWrite s dst time b w =
    if 1 + (w.ctx.write time b).reserve ≤ w.store.takeFree dst ∧
      othersOk s (w.store.append dst ⟨time - w.ctx.last, b⟩) = true
    then .ok ⟨w.store.append dst ⟨time - w.ctx.last, b⟩, w.ctx.write time b, w.written + 1⟩ else .error w := by
  rw [copyWrite]
  simp only [roomOk, Bool.and_eq_true, decide_eq_true_eq]

theorem copyWrite_last {s : State} {dst : TakeId} {time : Nat} {b : Body} {w w' : CopyWork}
    (h : copyWrite s dst time b w = .ok w') : w'.ctx.last = time := by
  rw [copyWrite_eq] at h
  split at h
  · cases h
    exact write_last ..
  · cases h

theorem copyRecord_now {s : State} {dst : TakeId} {time : Nat} {w : CopyWork} (h : time ≤ w.ctx.last + 65535) (b : Body) :
    copyRecord s dst time w b = copyWrite s dst time b w := by
  have hzero : (time - w.ctx.last - 1) / 65535 = 0 := by omega
  rw [copyRecord, hzero]
  rfl

theorem copyGaps_ok {s : State} {dst : TakeId} {w w' : CopyWork}
    (h : copyWrite s dst (w.ctx.last + 65535) .gap w = .ok w') (n : Nat) :
    copyGaps s dst (n + 1) w = copyGaps s dst n w' := by
  rw [copyGaps, h]

theorem copyGaps_error {s : State} {dst : TakeId} {w w' : CopyWork}
    (h : copyWrite s dst (w.ctx.last + 65535) .gap w = .error w') (n : Nat) : copyGaps s dst (n + 1) w = .error w' := by
  rw [copyGaps, h]

theorem copyRecord_overdue {s : State} {dst : TakeId} {time : Nat} {w : CopyWork} (h : w.ctx.last + 65535 < time) (b : Body) :
    copyRecord s dst time w b =
      match copyWrite s dst (w.ctx.last + 65535) .gap w with
      | .ok w' => copyRecord s dst time w' b
      | .error w' => .error w' := by
  obtain ⟨n, hn⟩ : ∃ n, (time - (w.ctx.last + 65535) - 1) / 65535 = n := ⟨_, rfl⟩
  have hsucc : (time - w.ctx.last - 1) / 65535 = n + 1 := by omega
  have hrest {w' : CopyWork} (h : w'.ctx.last = w.ctx.last + 65535) : (time - w'.ctx.last - 1) / 65535 = n := h ▸ hn
  cases hgap : copyWrite s dst (w.ctx.last + 65535) .gap w with
  | error w' => rw [copyRecord, hsucc, copyGaps_error hgap]
  | ok w' =>
    show _ = copyRecord s dst time w' b
    rw [copyRecord, copyRecord, hsucc, copyGaps_ok hgap, hrest (copyWrite_last hgap)]

theorem copyAll_cons (s : State) (dst : TakeId) (time : Nat) (b : Body) (bs : List Body) (w : CopyWork) :
    copyAll s dst time (b :: bs) w =
      match copyRecord s dst time w b with
      | .ok w' => copyAll s dst time bs w'
      | .error w' => .error w' := rfl

/-- The part after a copy that found no room, by the store it had made. -/
def CopyJob.Rolled (j : CopyJob) (s : State) (st : Store) (t : State) : Prop :=
  t.store.entry j.dst = { j.saved with played := (st.entry j.dst).played, read := (st.entry j.dst).read } ∧
    t.store.entry j.src = { st.entry j.src with read := false } ∧
    (∀ o, o ≠ j.dst → o ≠ j.src → t.store.entry o = st.entry o) ∧
    t.store.free = st.free ++ blocksAfter j.saved (st.chain j.dst) ∧
    (∀ i : Fin 512, t.store.links.get i =
      if i.val ∈ blocksAfter j.saved (st.chain j.dst) ∨ j.saved.tail = some i.val then none else st.links.get i) ∧
    t = { s with
      store := { st with free := t.store.free, links := t.store.links, takes := t.store.takes }
      edit := .idle
      link := s.link.notify (.editDone .copy .full j.src (some j.dst) 0 j.saved.count j.saved.duration) s.clock.ms }

/-- The part after a step of a copy that goes on with what it wrote, or is rolled back. -/
def CopyJob.Goes (j : CopyJob) (s : State) (result : CopyResult) (t : State) : Prop :=
  match result with
  | .ok w => t = { s with store := w.store, edit := .copy { j with ctx := w.ctx, written := w.written } }
  | .error w => j.Rolled s w.store t

theorem exec_copyRolled {s : State} (hs : s.Steady) {j : CopyJob} (hne : j.src ≠ j.dst) {st : Store}
    (h : takeCopyEvent s = copyRollback j .full (s.withStore st)) : ∃ t, exec .takeCopyStep s = .next t ∧ j.Rolled s st t := by
  obtain ⟨hdst, hsrc, hother, hfree, hlinks, hstore⟩ := rolledBack_spec hne st
  refine ⟨_, exec_noted_event (i := .takeCopyStep) (fun _ => rfl) hs
    (.editDone .copy .full j.src (some j.dst) 0 j.saved.count j.saved.duration) (u := (s.withStore st).copyUndone j .full)
    (h.trans (copyRollback_eq ..)) rfl, hdst, hsrc, hother, hfree, hlinks, ?_⟩
  exact congrArg (fun st => State.withLink { s with store := st, edit := .idle }
    (s.link.notify (.editDone .copy .full j.src (some j.dst) 0 j.saved.count j.saved.duration) s.clock.ms)) hstore

theorem exec_copyGo {s : State} (hs : s.Steady) {j : CopyJob} (hne : j.src ≠ j.dst) {result : CopyResult}
    (h : takeCopyEvent s = copyGo j result s) : ∃ t, exec .takeCopyStep s = .next t ∧ j.Goes s result t := by
  cases result with
  | error w => exact exec_copyRolled hs hne h
  | ok w => exact ⟨_, exec_silent_event (i := .takeCopyStep) (fun _ => rfl) hs h rfl rfl, rfl⟩

/-- The part after a completed copy. -/
def State.copyFinished (s : State) (j : CopyJob) (w : CopyWork) : State :=
  { s with
    store := (w.store.withEntry j.dst { w.store.entry j.dst with state := .ready }).withEntry j.src
      { w.store.entry j.src with read := false }
    edit := .idle
    link := s.link.note (.editDone .copy .ok j.src (some j.dst) w.written (w.store.entry j.dst).count
      (w.store.entry j.dst).duration) s.clock.ms }

theorem copyDone_ready {j : CopyJob} (hne : j.src ≠ j.dst) (w : CopyWork) (s : State) :
    copyDone j .ok w.written (s.withStore (w.store.setState j.dst .ready)) = s.copyFinished j w := by
  have hdst : (w.store.setState j.dst .ready).entry j.dst = { w.store.entry j.dst with state := .ready } :=
    entry_withEntry_same ..
  have hsrc : (w.store.setState j.dst .ready).entry j.src = w.store.entry j.src := entry_withEntry_ne _ hne _
  rw [copyDone]
  show raise (.editDone .copy .ok j.src (some j.dst) w.written ((w.store.setState j.dst .ready).entry j.dst).count
    ((w.store.setState j.dst .ready).entry j.dst).duration)
    (editIdle (s.withStore ((w.store.setState j.dst .ready).setRead j.src false))) = _
  rw [hdst, Store.setRead, hsrc]
  rfl

section
variable {s : State} {j : CopyJob} (hj : s.edit = .copy j)
include hj

theorem copyEvent_first (h : j.started = false) : takeCopyEvent s = copyFirst j s := by
  rw [takeCopyEvent, hj]
  show copyStep j s = _
  rw [copyStep, h]
  rfl

theorem copyEvent_read (h : j.started = true) (hmore : j.index < (s.store.entry j.src).count ∧ j.time < j.toMs) :
    takeCopyEvent s = copyRead j s := by
  rw [takeCopyEvent, hj]
  show copyStep j s = _
  rw [copyStep, h]
  exact if_pos hmore

theorem copyEvent_close (h : j.started = true) (hmore : ¬(j.index < (s.store.entry j.src).count ∧ j.time < j.toMs)) :
    takeCopyEvent s = copyClose j s := by
  rw [takeCopyEvent, hj]
  show copyStep j s = _
  rw [copyStep, h]
  exact if_neg hmore

end

/-- A copy's job with its cursor placed. -/
def CopyJob.placed (j : CopyJob) (s : State) : CopyJob :=
  { j with
    started := true, index := s.store.indexAt j.src j.fromMs
    time := s.store.timeOf j.src (s.store.indexAt j.src j.fromMs) }

/-- A copy's job after a source record. -/
def CopyJob.after (j : CopyJob) (s : State) : CopyJob :=
  { j with index := j.index + 1, time := j.time + (s.store.record j.src (j.index + 1)).delta }

theorem copyRead_none {s : State} {j : CopyJob} (h : j.ctx.copies (s.store.record j.src j.index).body = none) :
    copyRead j s = copyGo (j.after s) (.ok ⟨s.store, j.ctx, j.written⟩) s := by
  rw [copyRead]
  simp only [h]
  rfl

theorem copyRead_some {s : State} {j : CopyJob} {b : Body} (h : j.ctx.copies (s.store.record j.src j.index).body = some b) :
    copyRead j s = copyGo (j.after s)
      (copyRecord s j.dst (j.time - j.fromMs + j.base) ⟨s.store, j.ctx, j.written⟩ b) s := by
  rw [copyRead]
  simp only [h]
  rfl

theorem timeOf_of_some {st : Store} {t : TakeId} {i : Nat} {x : Nat × Record} (h : (st.timed t)[i]? = some x) :
    st.timeOf t i = x.1 := by
  rw [Store.timeOf, h]

/-! ### Searching (R172) -/

section
variable {s : State} {j : SearchJob} (hj : s.edit = .search j)
include hj

theorem searchEvent_impossible (h : (s.store.entry j.take).count ≤ j.start ∨ j.kinds = 0#7) :
    takeSearchEvent s = s.searchEnded j .notFound 0 0 := by
  rw [takeSearchEvent, hj]
  exact if_pos h

theorem searchEvent_hit (h : ¬((s.store.entry j.take).count ≤ j.start ∨ j.kinds = 0#7))
    (hhit : j.start ≤ j.index ∧ j.matchesBody (s.store.record j.take j.index).body = true) :
    takeSearchEvent s = s.searchEnded j .ok j.index j.time := by
  rw [takeSearchEvent, hj]
  exact (if_neg h).trans (if_pos hhit)

theorem searchEvent_miss (h : ¬((s.store.entry j.take).count ≤ j.start ∨ j.kinds = 0#7))
    (hmiss : ¬(j.start ≤ j.index ∧ j.matchesBody (s.store.record j.take j.index).body = true)) :
    takeSearchEvent s = if (s.store.entry j.take).count ≤ j.index + 1 then s.searchEnded j .notFound 0 0
      else s.withEdit (.search { j with
        index := j.index + 1, time := j.time + (s.store.record j.take (j.index + 1)).delta }) := by
  rw [takeSearchEvent, hj]
  exact (if_neg h).trans (if_neg hmiss)

end

theorem exec_searchEnded {s : State} (hs : s.Steady) {j : SearchJob} {result : EditResult} {n time : Nat}
    (h : takeSearchEvent s = s.searchEnded j result n time) : exec .takeSearchStep s = .next { s with
      store := s.store.withEntry j.take { s.store.entry j.take with read := false }, edit := .idle
      link := s.link.notify (.editDone .search result j.take none n 0 time) s.clock.ms } :=
  exec_noted_event (u := s.searchEnded j result n time) (fun _ => rfl) hs _ h rfl

/-! ### Scaling (R173) -/

/-- A record that a scaling passes. -/
def ScaleJob.Passes (j : ScaleJob) (r : Record) : Prop :=
  ∀ k v p, r.body = .noteOn k v p → j.time < j.fromMs ∨ j.toMs ≤ j.time ∨ k.val < j.keyLow ∨ j.keyHigh < k.val

theorem scaled_of_passes {j : ScaleJob} {r : Record} (h : j.Passes r) : j.scaled j.time r = none := by
  rw [ScaleJob.scaled]
  split
  next k v p hr =>
    have hout := h k v p hr
    exact if_neg (by omega)
  next => rfl

theorem scaled_of_chosen {j : ScaleJob} {r : Record} {k : Key} {v : Nat} {p : Bool} (hr : r.body = .noteOn k v p)
    (hfrom : j.fromMs ≤ j.time) (hto : j.time < j.toMs) (hlow : j.keyLow ≤ k.val) (hhigh : k.val ≤ j.keyHigh) :
    j.scaled j.time r =
      some ⟨r.delta, .noteOn k (max 1 (min 127 (((v * j.factor / 256 : Nat) : Int) + j.offset))).toNat p⟩ := by
  rw [ScaleJob.scaled, hr]
  refine (if_pos ⟨hfrom, hto, hlow, hhigh⟩).trans ?_
  rw [scaleVelocity, min_comm]

/-- A scaling's job after a record. -/
def ScaleJob.next (j : ScaleJob) (st : Store) : ScaleJob :=
  { j with index := j.index + 1, time := j.time + (st.record j.take (j.index + 1)).delta }

theorem scaleRead_pass {j : ScaleJob} {st : Store} (h : j.Passes (st.record j.take j.index)) :
    scaleRead j st = (st, j.next st) := by
  rw [scaleRead]
  simp only [scaled_of_passes h]
  rfl

theorem replace_eq {st : Store} {t : TakeId} {i block : Nat} (h : (st.chain t)[i / 64]? = some block) (r : Record) :
    st.replace t i r = { st with slots := slotSet st.slots (64 * block + i % 64) r } := by
  rw [Store.replace, show Config.blockSlots = 64 from rfl, h]
  rfl

theorem scaleRead_chosen {j : ScaleJob} {st : Store} {k : Key} {v : Nat} {p : Bool} {block : Nat}
    (hr : (st.record j.take j.index).body = .noteOn k v p) (hfrom : j.fromMs ≤ j.time) (hto : j.time < j.toMs)
    (hlow : j.keyLow ≤ k.val) (hhigh : k.val ≤ j.keyHigh) (hblock : (st.chain j.take)[j.index / 64]? = some block) :
    scaleRead j st =
      ({ st with slots := slotSet st.slots (64 * block + j.index % 64) ⟨(st.record j.take j.index).delta,
          .noteOn k (max 1 (min 127 (((v * j.factor / 256 : Nat) : Int) + j.offset))).toNat p⟩ },
        { j.next st with changes :=
            if (max 1 (min 127 (((v * j.factor / 256 : Nat) : Int) + j.offset))).toNat = v then j.changes
            else j.changes + 1 }) := by
  have hsame (w : Nat) : (⟨(st.record j.take j.index).delta, .noteOn k w p⟩ : Record) = st.record j.take j.index ↔ w = v := by
    generalize st.record j.take j.index = r at hr ⊢
    obtain ⟨delta, body⟩ := r
    obtain rfl : body = .noteOn k v p := hr
    simp
  rw [scaleRead]
  simp only [scaled_of_chosen hr hfrom hto hlow hhigh, replace_eq hblock, hsame]
  rfl

/-- The part after a scaling has read a record. -/
def State.scaleThen (s : State) (count : Nat) (x : Store × ScaleJob) : State :=
  if count ≤ x.2.index then scaleDone x.2 .ok (s.withStore x.1) else (s.withStore x.1).withEdit (.scale x.2)

section
variable {s : State} {j : ScaleJob} (hj : s.edit = .scale j)
include hj

theorem scaleEvent_end (h : (s.store.entry j.take).count ≤ j.index) : takeScaleEvent s = s.scaleEnded j .ok := by
  rw [takeScaleEvent, hj]
  exact if_pos h

theorem scaleEvent_reads (h : j.index < (s.store.entry j.take).count) :
    takeScaleEvent s = s.scaleThen (s.store.entry j.take).count (scaleRead j s.store) := by
  rw [takeScaleEvent, hj]
  exact if_neg (Nat.not_le.2 h)

theorem scaleEvent_last (h : j.index + 1 = (s.store.entry j.take).count) {st : Store} {j' : ScaleJob}
    (hread : scaleRead j s.store = (st, j')) (hindex : j'.index = j.index + 1) :
    takeScaleEvent s = (s.withStore st).scaleEnded j' .ok := by
  rw [scaleEvent_reads hj (by omega), hread]
  exact if_pos (show (s.store.entry j.take).count ≤ j'.index by omega)

theorem scaleEvent_more (h : j.index + 1 < (s.store.entry j.take).count) {st : Store} {j' : ScaleJob}
    (hread : scaleRead j s.store = (st, j')) (hindex : j'.index = j.index + 1) :
    takeScaleEvent s = (s.withStore st).withEdit (.scale j') := by
  rw [scaleEvent_reads hj (by omega), hread]
  exact if_neg (show ¬(s.store.entry j.take).count ≤ j'.index by omega)

end

theorem exec_scaleEnded {s : State} (hs : s.Steady) {st : Store} {j : ScaleJob}
    (h : takeScaleEvent s = (s.withStore st).scaleEnded j .ok) : exec .takeScaleStep s = .next { s with
      store := st.withEntry j.take { st.entry j.take with state := .ready }, edit := .idle
      link := s.link.notify (.editDone .scale .ok j.take none j.changes 0 0) s.clock.ms } :=
  exec_noted_event (u := (s.withStore st).scaleEnded j .ok) (fun _ => rfl) hs _ h rfl

/-- Settles O60: each step reads one record, and every record a copy writes passes its room check first. -/
theorem editStepsReadOneRecord : Obligations.EditStepsReadOneRecord := by
  refine ⟨fun c b => ?_, fun s hs => ⟨fun h => ?_, fun h => ?_, fun h => ?_⟩, fun s j hs hj => ?_, fun s j hs hj => ?_,
    fun s j hs hj => ?_⟩
  · cases b <;> rfl
  · refine exec_silent_event (f := takeCopyEvent) (fun _ => rfl) hs ?_ rfl rfl
    rw [takeCopyEvent]
    cases hj : s.edit with
    | copy j => exact absurd hj (h j)
    | _ => rfl
  · refine exec_silent_event (f := takeSearchEvent) (fun _ => rfl) hs ?_ rfl rfl
    rw [takeSearchEvent]
    cases hj : s.edit with
    | search j => exact absurd hj (h j)
    | _ => rfl
  · refine exec_silent_event (f := takeScaleEvent) (fun _ => rfl) hs ?_ rfl rfl
    rw [takeScaleEvent]
    cases hj : s.edit with
    | scale j => exact absurd hj (h j)
    | _ => rfl
  · intro more rec' after
    refine ⟨fun hnew hscan => ?_, fun hrun hmore hcopies => ?_, fun b hrun hmore hcopies hrec hbulk => ?_,
      fun hrun hmore hres hne => ?_, ?_⟩
    · have hfirst := copyEvent_first hj hnew
      refine ⟨s.store.timeOf j.src (s.store.indexAt j.src j.fromMs), ?_, fun x hx => timeOf_of_some hx⟩
      refine exec_silent_event (fun _ => rfl) hs (hfirst.trans ?_) rfl rfl
      rw [copyFirst, hscan]
      rfl
    · exact exec_silent_event (fun _ => rfl) hs ((copyEvent_read hj hrun hmore).trans (copyRead_none hcopies)) rfl rfl
    · intro time hnow hroom
      have hwrite : copyRecord s j.dst time ⟨s.store, j.ctx, j.written⟩ b =
          .ok ⟨s.store.append j.dst ⟨time - j.ctx.last, b⟩, j.ctx.write time b, j.written + 1⟩ := by
        rw [copyRecord_now hnow, copyWrite_eq]
        refine if_pos ⟨hroom, ?_⟩
        rw [othersOk, hrec, hbulk]
        rfl
      have hread := (copyEvent_read hj hrun hmore).trans (copyRead_some hcopies)
      rw [show j.time - j.fromMs + j.base = time from rfl, hwrite] at hread
      exact exec_silent_event (fun _ => rfl) hs hread rfl rfl
    · have hnil : j.ctx.closing = [] := List.eq_nil_of_length_eq_zero ((closing_length _).trans hres)
      have hdone := copyDone_ready hne ⟨s.store, j.ctx, j.written⟩ s
      have hclose := copyEvent_close hj hrun hmore
      rw [copyClose, hnil] at hclose
      exact exec_noted_event (u := s.copyFinished j ⟨s.store, j.ctx, j.written⟩) (fun _ => rfl) hs _
        (hclose.trans hdone) rfl
    · intro write start rolled goes
      have hwrite (time : Nat) (b : Body) (w : CopyWork) : write time b w = copyWrite s j.dst time b w :=
        (copyWrite_eq ..).symm
      have hrolled (st : Store) (t : State) : rolled st t ↔ j.Rolled s st t := by
        rw [CopyJob.Rolled, blocksAfter_eq] <;> exact Iff.rfl
      have hgo (j' : CopyJob) (hsame : j'.Rolled s = j.Rolled s) (result : CopyResult) (t : State) :
          goes j' result t ↔ j'.Goes s result t := by
        cases result with
        | ok w => exact Iff.rfl
        | error w =>
          show rolled w.store t ↔ j'.Rolled s w.store t
          rw [hsame]
          exact hrolled ..
      refine ⟨fun time b w => ⟨fun h => (copyRecord_now h b).trans (hwrite ..).symm, fun h => ?_⟩,
        fun time w => ⟨rfl, fun b bs => copyAll_cons ..⟩, fun hne => ⟨fun hnew => ?_, ?_, ?_⟩⟩
      · rw [hwrite]
        exact copyRecord_overdue h b
      · intro held chase
        have hfirst : takeCopyEvent s = copyGo (j.placed s) (copyAll s j.dst j.base chase start) s := copyEvent_first hj hnew
        obtain ⟨t, ht, hgoes⟩ := exec_copyGo (j := j.placed s) hs hne hfirst
        exact ⟨s.store.timeOf j.src (s.store.indexAt j.src j.fromMs), t, ht, (hgo (j.placed s) rfl _ _).2 hgoes,
          fun x hx => timeOf_of_some hx⟩
      · intro b hrun hmore hcopies
        have hread := (copyEvent_read hj hrun hmore).trans (copyRead_some hcopies)
        obtain ⟨t, ht, hgoes⟩ := exec_copyGo (j := j.after s) hs hne hread
        exact ⟨t, ht, (hgo (j.after s) rfl _ _).2 hgoes⟩
      · intro hrun hmore closing
        have hclose := copyEvent_close hj hrun hmore
        rw [copyClose] at hclose
        have hresult : copyAll s j.dst (j.base + (j.toMs - j.fromMs)) j.ctx.closing ⟨s.store, j.ctx, j.written⟩ =
            copyAll s j.dst (j.base + (j.toMs - j.fromMs)) closing start := rfl
        rw [hresult] at hclose
        cases hall : copyAll s j.dst (j.base + (j.toMs - j.fromMs)) closing start with
        | error w =>
          rw [hall] at hclose
          obtain ⟨t, ht, hroll⟩ := exec_copyRolled hs hne hclose
          exact ⟨t, ht, (hrolled ..).2 hroll⟩
        | ok w =>
          rw [hall] at hclose
          exact ⟨_, exec_noted_event (u := s.copyFinished j w) (fun _ => rfl) hs _
            (hclose.trans (copyDone_ready hne w s)) rfl, rfl⟩
  · intro count b hit ended
    have hhit : hit ↔ j.start ≤ j.index ∧ j.matchesBody (s.store.record j.take j.index).body = true := by
      refine and_congr_right' ?_
      show _ ↔ j.matchesBody b = true
      clear_value b
      cases b <;> simp only [SearchJob.matchesBody, Bool.and_eq_true, decide_eq_true_eq, and_assoc, Bool.false_eq_true]
    refine ⟨fun h => exec_searchEnded hs (searchEvent_impossible hj h), fun hcount hkinds => ?_⟩
    have hpossible : ¬((s.store.entry j.take).count ≤ j.start ∨ j.kinds = 0#7) := not_or.2 ⟨Nat.not_le.2 hcount, hkinds⟩
    refine ⟨fun h => exec_searchEnded hs (searchEvent_hit hj hpossible (hhit.1 h)), fun hno hlast => ?_, fun hno hmore => ?_⟩
    · have hmiss := searchEvent_miss hj hpossible fun h => hno (hhit.2 h)
      rw [if_pos hlast] at hmiss
      exact exec_searchEnded hs hmiss
    · have hmiss := searchEvent_miss hj hpossible fun h => hno (hhit.2 h)
      rw [if_neg (Nat.not_le.2 hmore)] at hmiss
      exact exec_silent_event (fun _ => rfl) hs hmiss rfl rfl
  · intro count r next
    refine ⟨fun h => ?_, ?_, fun hmore => ⟨fun hpass => ?_, ?_⟩⟩
    · have hend : takeScaleEvent s = s.scaleEnded j .ok := by
        obtain h | ⟨hlast, hpass⟩ := h
        · exact scaleEvent_end hj h
        · exact (scaleEvent_last hj hlast (scaleRead_pass hpass) rfl).trans rfl
      exact exec_noted_event (u := s.scaleEnded j .ok) (fun _ => rfl) hs _ hend rfl
    · intro k v p block hlast hr hfrom hto hlow hhigh hblock w
      have hread := scaleRead_chosen hr hfrom hto hlow hhigh hblock
      exact exec_scaleEnded hs (scaleEvent_last hj hlast hread rfl)
    · exact exec_silent_event (fun _ => rfl) hs (scaleEvent_more hj hmore (scaleRead_pass hpass) rfl) rfl rfl
    · intro k v p block hr hfrom hto hlow hhigh hblock w
      have hread := scaleRead_chosen hr hfrom hto hlow hhigh hblock
      exact exec_silent_event (fun _ => rfl) hs (scaleEvent_more hj hmore hread rfl) rfl rfl

end Sys2Proof.Machine
end

section
/-! PROOFS. What a take holds at a time, what the Player's events reach, and the markers (chapters 8 and 9). -/

namespace Sys2Proof.Machine

open Sys2Proof.StepRows

/-! ### What a take holds at a time (R126, R144) -/

/-- The take time of the record at an index. -/
def Store.timeAt (st : Store) (t : TakeId) (i : Nat) : Nat := ((List.range (i + 1)).map fun j => (st.record t j).delta).sum

theorem timed_length (st : Store) (t : TakeId) : (st.timed t).length = (st.entry t).count := by
  rw [Store.timed, withTimes_length, records_length]

theorem timed_eq (st : Store) (t : TakeId) :
    st.timed t = (List.range (st.entry t).count).map fun i => (st.timeAt t i, st.record t i) := by
  refine List.ext_getElem? fun i => ?_
  by_cases hi : i < (st.entry t).count
  · rw [timed_getElem? st t hi, List.getElem?_map, List.getElem?_range hi]
    rfl
  · rw [List.getElem?_eq_none (by rw [timed_length]; omega), List.getElem?_eq_none (by simp; omega)]

theorem timed_getElem {st : Store} {t : TakeId} {i : Nat} (h : i < (st.timed t).length) :
    (st.timed t)[i].1 = st.timeAt t i := by
  have hget := timed_getElem? st t (timed_length st t ▸ h)
  rw [List.getElem?_eq_getElem h] at hget
  rw [Option.some.inj hget]
  rfl

theorem indexAt_le (st : Store) (t : TakeId) (T : Nat) : st.indexAt t T ≤ (st.entry t).count :=
  timed_length st t ▸ List.findIdx_le_length

theorem timeAt_of_lt_indexAt {st : Store} {t : TakeId} {T i : Nat} (h : i < st.indexAt t T) : st.timeAt t i < T := by
  have hno := List.not_of_lt_findIdx h
  rw [timed_getElem] at hno
  exact Nat.not_le.1 (of_decide_eq_false hno)

theorem le_timeAt_indexAt {st : Store} {t : TakeId} {T : Nat} (h : st.indexAt t T < (st.entry t).count) :
    T ≤ st.timeAt t (st.indexAt t T) := by
  have hlt : st.indexAt t T < (st.timed t).length := timed_length st t ▸ h
  have hyes := of_decide_eq_true (List.findIdx_getElem (w := hlt))
  exact hyes.trans_eq (timed_getElem hlt)

theorem scan_eq (st : Store) (t : TakeId) (T : Nat) : st.scan t T =
    ((st.timed t).filter fun x => decide (x.1 < T)).foldl (fun p x => p.apply x.2.body) {} := by
  rw [Store.scan, scanTo, List.foldl_filter]
  simp only [decide_eq_true_eq]

/-- Two stores in which a take reads the same. -/
theorem timed_congr {st u : Store} {t : TakeId} (hcount : (u.entry t).count = (st.entry t).count)
    (hrec : ∀ i, u.record t i = st.record t i) : u.timed t = st.timed t := by
  rw [Store.timed, Store.timed, Store.records, Store.records, hcount, funext hrec]

/-- Marking an entry moves no record. -/
theorem record_withEntry {st : Store} {t : TakeId} {e : TakeEntry} (h : e.head = (st.entry t).head) (o : TakeId) (i : Nat) :
    (st.withEntry t e).record o i = st.record o i := by
  have hchain : (st.withEntry t e).chain o = st.chain o := by
    refine chain_congr ?_ fun _ _ => rfl
    rw [entry_withEntry]
    split
    · next ho => exact ho ▸ h
    · rfl
  exact record_congr (congrArg (·[i / 64]?) hchain) fun _ _ => rfl

theorem timed_withEntry {st : Store} {t : TakeId} {e : TakeEntry} (hhead : e.head = (st.entry t).head)
    (hcount : e.count = (st.entry t).count) (o : TakeId) : (st.withEntry t e).timed o = st.timed o := by
  refine timed_congr ?_ (record_withEntry hhead o)
  rw [entry_withEntry]
  split
  · next ho => exact ho ▸ hcount
  · rfl

theorem scan_withEntry {st : Store} {t : TakeId} {e : TakeEntry} (hhead : e.head = (st.entry t).head)
    (hcount : e.count = (st.entry t).count) (o : TakeId) (T : Nat) : (st.withEntry t e).scan o T = st.scan o T := by
  rw [Store.scan, Store.scan, timed_withEntry hhead hcount]

theorem indexAt_withEntry {st : Store} {t : TakeId} {e : TakeEntry} (hhead : e.head = (st.entry t).head)
    (hcount : e.count = (st.entry t).count) (o : TakeId) (T : Nat) : (st.withEntry t e).indexAt o T = st.indexAt o T := by
  rw [Store.indexAt, Store.indexAt, timed_withEntry hhead hcount]

/-! ### The markers reported (R148) -/

/-- The markers of a context that a condition reaches, in slot order. -/
def Player.reached (p : Player) (f : Nat → Bool) : List (Fin 4 × Nat) :=
  (List.finRange 4).filterMap fun i => (p.markers.get i).bind fun m => if f m then some (i, m) else none

theorem mem_reached {p : Player} {f : Nat → Bool} {i : Fin 4} {m : Nat} :
    (i, m) ∈ p.reached f ↔ p.markers.get i = some m ∧ f m = true := by
  rw [Player.reached, List.mem_filterMap]
  constructor
  · rintro ⟨j, -, hj⟩
    obtain ⟨n, hn, hif⟩ := Option.bind_eq_some_iff.1 hj
    split at hif
    · next hf =>
      cases hif
      exact ⟨hn, hf⟩
    · cases hif
  · rintro ⟨hi, hf⟩
    exact ⟨i, List.mem_finRange i, by rw [hi]; exact if_pos hf⟩

theorem reached_pairwise (p : Player) (f : Nat → Bool) : (p.reached f).Pairwise fun x y => x.1 < y.1 := by
  refine List.Pairwise.filterMap _ (fun i j hij x hx y hy => ?_) (List.pairwise_lt_finRange 4)
  have hfst {k : Fin 4} {z : Fin 4 × Nat}
      (hz : ((p.markers.get k).bind fun m => if f m then some (k, m) else none) = some z) : z.1 = k := by
    obtain ⟨n, -, hif⟩ := Option.bind_eq_some_iff.1 hz
    split at hif
    · cases hif
      rfl
    · cases hif
  rw [hfst hx, hfst hy]
  exact hij

theorem reportMarkers_eq (f : Nat → Bool) (s : State) :
    reportMarkers f s = (s.player.reached f).foldl (fun u x => raise (.marker x.1.val x.2) u) s := by
  rw [reportMarkers, Player.reached]
  generalize List.finRange 4 = slots
  induction slots generalizing s with
  | nil => rfl
  | cons i slots ih =>
    rw [List.foldl_cons, List.filterMap_cons]
    cases hm : s.player.markers.get i with
    | none =>
      simp only [Option.bind_none]
      exact ih s
    | some m =>
      simp only [Option.bind_some]
      by_cases hf : f m = true
      · rw [if_pos hf, if_pos hf]
        exact ih (raise (.marker i.val m) s)
      · rw [if_neg hf, if_neg hf]
        exact ih s

theorem reportMarkers_none {f : Nat → Bool} {s : State} (h : ∀ i m, s.player.markers.get i = some m → f m = false) :
    reportMarkers f s = s := by
  rw [reportMarkers_eq]
  have hnil : s.player.reached f = [] := by
    refine List.eq_nil_iff_forall_not_mem.2 fun x hx => ?_
    obtain ⟨hi, hf⟩ := mem_reached.1 (show (x.1, x.2) ∈ s.player.reached f from hx)
    exact ne_true_of_eq_false (h x.1 x.2 hi) hf
  rw [hnil]
  rfl

/-- Notices leave everything but the link. -/
theorem raises_only {α : Type} (n : α → NoticeBody) (xs : List α) (s : State) :
    (xs.foldl (fun u x => raise (n x) u) s).withLink s.link = s := by
  have hlink (xs : List α) (u : State) (l : Link) :
      (xs.foldl (fun u x => raise (n x) u) u).withLink l = u.withLink l := by
    induction xs generalizing u with
    | nil => rfl
    | cons x xs ih => exact (ih (raise (n x) u)).trans rfl
  exact hlink xs s s.link

theorem reportMarkers_only (f : Nat → Bool) (s : State) : (reportMarkers f s).withLink s.link = s := by
  rw [reportMarkers_eq]
  exact raises_only ..

theorem reportMarkers_field {α : Type} (g : State → α) (hg : ∀ s l, g (State.withLink s l) = g s) (f : Nat → Bool)
    (s : State) : g (reportMarkers f s) = g s :=
  (hg _ s.link).symm.trans (congrArg g (reportMarkers_only f s))

/-! ### What a PLAYBACK event reaches -/

theorem playbackEvents_cons (k : EventKind) (ks : List EventKind) (s : State) :
    playbackEvents (k :: ks) s = playbackEvents ks (playbackEvent k s) := rfl

theorem playbackEvents_live (ks : List EventKind) (s : State) : (playbackEvents ks s).engine.live = s.engine.live := by
  induction ks generalizing s with
  | nil => rfl
  | cons k ks ih =>
    rw [playbackEvents_cons, ih]
    exact deliver_otherSource (ev := ⟨.playback, s.clock.us, k⟩) (r := .live) nofun _ _

theorem EventFrame.outsidePlayer {s t : State} (h : EventFrame s t) (hlive : t.engine.live = s.engine.live) :
    s.OutsidePlayer t :=
  ⟨h.running, h.clock, h.keys, h.touch, h.pedals, h.routes, hlive, h.map, h.output, h.rail, h.bulk, h.edit, h.flash,
    h.pending, h.wait, h.grace⟩

theorem playbackEvents_outside (ks : List EventKind) (s : State) : s.OutsidePlayer (playbackEvents ks s) :=
  (playbackEvents_frame ks s).outsidePlayer (playbackEvents_live ks s)

theorem outsidePlayer_trans {s t u : State} (h : s.OutsidePlayer t) (k : t.OutsidePlayer u) : s.OutsidePlayer u := by
  obtain ⟨h1, h2, h3, h4, h5, h6, h7, h8, h9, h10, h11, h12, h13, h14, h15, h16⟩ := h
  obtain ⟨k1, k2, k3, k4, k5, k6, k7, k8, k9, k10, k11, k12, k13, k14, k15, k16⟩ := k
  exact ⟨k1.trans h1, k2.trans h2, k3.trans h3, k4.trans h4, k5.trans h5, k6.trans h6, k7.trans h7, k8.trans h8,
    k9.trans h9, k10.trans h10, k11.trans h11, k12.trans h12, k13.trans h13, k14.trans h14, k15.trans h15, k16.trans h16⟩

/-- An event that presses no key, or comes while wait is off, leaves the Guide and the recent presses. -/
theorem guideEvent_quiet {ev : Event} {s : State} (h : ev.kind.presses = false ∨ s.guide.wait = false) :
    (guideEvent ev s).guide = s.guide ∧ (guideEvent ev s).router = s.router := by
  rw [guideEvent]
  cases hk : ev.kind with
  | noteOn k v r =>
    obtain h | h := h
    · rw [hk] at h
      cases h
    · simp only [h]
      exact ⟨rfl, rfl⟩
  | _ => exact ⟨rfl, rfl⟩

theorem playbackEvent_quiet {k : EventKind} {s : State} (h : k.presses = false ∨ s.guide.wait = false) :
    (playbackEvent k s).guide = s.guide ∧ (playbackEvent k s).router = s.router := by
  obtain ⟨hguide, hrouter⟩ := guideEvent_quiet (ev := ⟨.playback, s.clock.us, k⟩) h
  obtain ⟨-, -, -, hr, hg, -⟩ := deliver_blocks (finalSet s ⟨.playback, s.clock.us, k⟩) ⟨.playback, s.clock.us, k⟩ s
  rw [hguide, ite_self] at hg
  rw [hrouter, ite_self] at hr
  exact ⟨hg, hr⟩

theorem playbackEvents_router {ks : List EventKind} (hks : ∀ k ∈ ks, k.presses = false) (s : State) :
    (playbackEvents ks s).router = s.router := by
  induction ks generalizing s with
  | nil => rfl
  | cons k ks ih =>
    rw [playbackEvents_cons, ih fun j hj => hks j (List.mem_cons_of_mem _ hj)]
    exact (playbackEvent_quiet (.inl (hks k List.mem_cons_self))).2

/-! ### The takes that events leave alone -/

theorem writeTail_other (st : Store) {t o : TakeId} (h : o ≠ t) (r : Record) : (st.writeTail t r).entry o = st.entry o := by
  rw [Store.writeTail]
  split
  · rfl
  · split
    · exact entry_withEntry_ne _ h _
    · rfl

theorem growTake_other (st : Store) {t o : TakeId} (h : o ≠ t) : (st.growTake t).entry o = st.entry o := by
  rw [Store.growTake]
  split
  · rfl
  · exact entry_withEntry_ne _ h _

theorem append_other (st : Store) {t o : TakeId} (h : o ≠ t) (r : Record) : (st.append t r).entry o = st.entry o := by
  rw [Store.append]
  split
  · rw [writeTail_other _ h, growTake_other _ h]
  · exact writeTail_other _ h r

theorem appendAll_other (st : Store) {t o : TakeId} (h : o ≠ t) (rs : List Record) :
    (st.appendAll t rs).entry o = st.entry o := by
  induction rs generalizing st with
  | nil => rfl
  | cons r rs ih => exact (ih (st.append t r)).trans (append_other st h r)

theorem closeTake_other (st : Store) {t o : TakeId} (h : o ≠ t) (time : Nat) (c : WriteCtx) :
    (closeTake t time st c).entry o = st.entry o := by
  rw [closeTake_eq]
  exact appendAll_other st h _

/-- A take's entry is as given, and nobody records on it. -/
def Unrecorded (o : TakeId) (e : TakeEntry) (s : State) : Prop :=
  s.store.entry o = e ∧ ∀ r, s.recorder = some r → r.take ≠ o

theorem recordBody_unrecorded {o : TakeId} {e : TakeEntry} {s : State} {r : Recording} (hr : r.take ≠ o)
    (h : Unrecorded o e s) (time : Nat) (b : Body) : Unrecorded o e (recordBody r time b s) := by
  rw [recordBody]
  split
  · refine ⟨(append_other _ hr.symm _).trans h.1, fun r' hr' => ?_⟩
    cases hr'
    exact hr
  · refine ⟨?_, nofun⟩
    show ((closeTake r.take time s.store r.ctx).setState r.take .ready).entry o = e
    rw [Store.setState, entry_withEntry_ne _ hr.symm, closeTake_other _ hr.symm]
    exact h.1

theorem recordGap_unrecorded {o : TakeId} {e : TakeEntry} {s : State} (h : Unrecorded o e s) :
    Unrecorded o e (recordGap s) := by
  rw [recordGap]
  split
  · exact h
  · next r hr => exact recordBody_unrecorded (h.2 r hr) h _ _

theorem recordGaps_unrecorded {o : TakeId} {e : TakeEntry} (n : Nat) {s : State} (h : Unrecorded o e s) :
    Unrecorded o e (recordGaps n s) := by
  induction n generalizing s with
  | zero => exact h
  | succ n ih => exact ih (recordGap_unrecorded h)

theorem overdueGaps_unrecorded {o : TakeId} {e : TakeEntry} (time : Nat) {s : State} (h : Unrecorded o e s) :
    Unrecorded o e (recordOverdueGaps time s) := by
  rw [recordOverdueGaps]
  split
  · exact h
  · exact recordGaps_unrecorded _ h

theorem recorderEvent_unrecorded {o : TakeId} {e : TakeEntry} (ev : Event) {s : State} (h : Unrecorded o e s) :
    Unrecorded o e (recorderEvent ev s) := by
  cases hr : s.recorder with
  | none => rwa [recorderEvent, hr]
  | some r =>
    cases hb : r.ctx.bodyOf ev.kind with
    | none => rwa [recorderEvent_discarded hr hb]
    | some b =>
      rw [recorderEvent_taken hr hb]
      have hgaps := overdueGaps_unrecorded (r.eventTime s.clock.us ev.stamp) h
      generalize recordOverdueGaps (r.eventTime s.clock.us ev.stamp) s = u at hgaps ⊢
      rw [recordAt]
      split
      · exact hgaps
      · next r' hr' =>
        split
        · exact hgaps
        · exact recordBody_unrecorded (hgaps.2 r' hr') hgaps _ _

theorem playbackEvent_unrecorded {o : TakeId} {e : TakeEntry} (k : EventKind) {s : State} (h : Unrecorded o e s) :
    Unrecorded o e (playbackEvent k s) := by
  obtain ⟨-, hrecorder, hstore, -, -, -⟩ :=
    deliver_blocks (finalSet s ⟨.playback, s.clock.us, k⟩) ⟨.playback, s.clock.us, k⟩ s
  have hto := recorderEvent_unrecorded ⟨.playback, s.clock.us, k⟩ h
  have heq : Unrecorded o e (deliver (finalSet s ⟨.playback, s.clock.us, k⟩) ⟨.playback, s.clock.us, k⟩ s) := by
    rw [Unrecorded, hrecorder, hstore]
    split
    · exact hto
    · exact h
  exact heq

theorem playbackEvents_unrecorded {o : TakeId} {e : TakeEntry} (ks : List EventKind) {s : State} (h : Unrecorded o e s) :
    Unrecorded o e (playbackEvents ks s) := by
  induction ks generalizing s with
  | nil => exact h
  | cons k ks ih => exact ih (playbackEvent_unrecorded k h)

end Sys2Proof.Machine
end

section
/-! PROOFS. The commands of the Player (sections 9.2, 9.5). -/

namespace Sys2Proof.Machine

open Sys2Proof.StepRows

/-! ### PLAY (R143) -/

/-- The part when PLAY has set the context, before the chase. -/
def State.playStarted (s : State) (t : TakeId) (start : Nat) : State :=
  { s with
    store := s.store.withEntry t { s.store.entry t with played := true }
    player := { s.player with
      state := .playing, take := some t, acc := start * 256
      cursor := s.store.indexAt t start, openKeys := KeySet.none
      takePedals := s.store.scan t start, emitted := s.store.scan t start
      passIndex := 0, passNumber := 1
      passKind := if 0 < s.player.listen then .listen else .practice
      snapshot := match s.player.loop with
        | some l => s.store.scan t l.1
        | none => s.player.snapshot
      armed := match s.player.loop with
        | some l => decide (start < l.2)
        | none => false } }

theorem playStarted_outside (s : State) (t : TakeId) (start : Nat) : s.OutsidePlayer (s.playStarted t start) :=
  ⟨rfl, rfl, rfl, rfl, rfl, rfl, rfl, rfl, rfl, rfl, rfl, rfl, rfl, rfl, rfl, rfl⟩

theorem startPlayer_eq (t : TakeId) (start : Nat) (s : State) : startPlayer t start s =
    playerNotice (some t) .play (reportMarkers (fun m => decide (m = start))
      (playbackEvents (s.store.scan t start).chase (s.playStarted t start))) := by
  have hindex : (s.store.withEntry t { s.store.entry t with played := true }).indexAt t start = s.store.indexAt t start :=
    indexAt_withEntry (st := s.store) (e := { s.store.entry t with played := true }) rfl rfl t start
  have hscan (a : Nat) : (s.store.withEntry t { s.store.entry t with played := true }).scan t a = s.store.scan t a :=
    scan_withEntry (st := s.store) (e := { s.store.entry t with played := true }) rfl rfl t a
  rw [startPlayer, State.playStarted]
  simp only [State.withStore_store, hindex, hscan]
  cases s.player.loop <;> rfl

theorem playerNotice_eq (take : Option TakeId) (cause : PlayCause) {u : State} {st : PlayState} {pos owed : Nat}
    (hstate : u.player.state = st) (hacc : u.player.acc / 256 = pos) (howed : u.guide.expected.card = owed) :
    playerNotice take cause u = raise (.playerState st take cause pos owed) u := by
  rw [playerNotice, hstate, hacc, howed]

/-- The markers of a position that is set, with their notices. -/
theorem reportMarkers_at (time : Nat) (s : State) : ∃ ms : List (Fin 4), ms.Pairwise (fun x y => x < y) ∧
    (∀ i, i ∈ ms ↔ s.player.markers.get i = some time) ∧
    reportMarkers (fun m => decide (m = time)) s = ms.foldl (fun u i => raise (.marker i.val time) u) s := by
  refine ⟨(s.player.reached fun m => decide (m = time)).map Prod.fst, ?_, fun i => ?_, ?_⟩
  · exact List.pairwise_map.2 (reached_pairwise ..)
  · rw [List.mem_map]
    constructor
    · rintro ⟨⟨j, m⟩, hx, rfl⟩
      obtain ⟨hj, hm⟩ := mem_reached.1 hx
      rw [hj, of_decide_eq_true hm]
    · exact fun h => ⟨(i, time), mem_reached.2 ⟨h, decide_eq_true rfl⟩, rfl⟩
  · rw [reportMarkers_eq, List.foldl_map]
    refine List.foldl_ext _ _ _ fun u x hx => ?_
    rw [of_decide_eq_true (mem_reached.1 (show (x.1, x.2) ∈ _ from hx)).2]

theorem cmdPlay_starts {s : State} {b : Byte} {ms : W32} {t : TakeId} (ht : t.val = b.toNat)
    (hstate : s.player.state = .stopped) (hready : (s.store.entry t).state = .ready)
    (hstart : ms.toNat ≤ (s.store.entry t).duration)
    (hloop : ∀ l, s.player.loop = some l → l.2 ≤ (s.store.entry t).duration) :
    cmdPlay b ms s = answer 0x40#8 .ok (startPlayer t ms.toNat s) := by
  have hunder : (s.store.entry t).underWriting = false := by rw [TakeEntry.underWriting, hready]
  have hfits : s.player.loopFits (s.store.entry t).duration = true := by
    rw [Player.loopFits]
    split
    · next l heq => exact decide_eq_true (hloop _ heq)
    · rfl
  rw [cmdPlay, takeOf_eq_some ht]
  simp only [hstate, hready, hunder, hfits]
  rw [if_neg (by simp), if_neg (by simp), if_neg (by simp), if_neg (by simp [hstart])]

/-! ### Closing (R155, R156) -/

/-- The part after the closing events, with the engine and the Guide told. -/
def State.silenced (s : State) : State := clearExpected (engineStop (closePlayer s))

theorem silenced_player (s : State) : s.silenced.player = { s.player with openKeys := KeySet.none, emitted := {} } :=
  closePlayer_player s

theorem withPlayer_outside (s : State) (p : Player) : s.OutsidePlayer (s.withPlayer p) :=
  ⟨rfl, rfl, rfl, rfl, rfl, rfl, rfl, rfl, rfl, rfl, rfl, rfl, rfl, rfl, rfl, rfl⟩

theorem raise_outside (n : NoticeBody) (s : State) : s.OutsidePlayer (raise n s) :=
  ⟨rfl, rfl, rfl, rfl, rfl, rfl, rfl, rfl, rfl, rfl, rfl, rfl, rfl, rfl, rfl, rfl⟩

theorem told_outside (s : State) : s.OutsidePlayer (clearExpected (engineStop s)) :=
  ⟨rfl, rfl, rfl, rfl, rfl, rfl, rfl, rfl, rfl, rfl, rfl, rfl, rfl, rfl, rfl, rfl⟩

theorem playerEvents_outside (ks : List EventKind) (p : Player) (s : State) :
    s.OutsidePlayer (playbackEvents ks (s.withPlayer p)) :=
  outsidePlayer_trans (withPlayer_outside s p) (playbackEvents_outside ks (s.withPlayer p))

theorem silenced_outside (s : State) : s.OutsidePlayer s.silenced :=
  outsidePlayer_trans (playerEvents_outside ..) (told_outside _)

theorem silenced_expected (s : State) : s.silenced.guide.expected = KeySet.none := by
  rw [State.silenced]
  generalize closePlayer s = u
  rfl

theorem silenced_damper (s : State) : s.silenced.engine.playback.damper = 0 := by
  rw [State.silenced]
  generalize closePlayer s = u
  rfl

theorem silenced_router (s : State) : s.silenced.router = s.router :=
  playbackEvents_router (closing_presses _) _

theorem silenced_core (s : State) : s.silenced.link.core = s.link.core := (playbackEvents_frame ..).core

/-- The keys still down for PLAYBACK after the closing events were down, and not open at the Player. -/
theorem silenced_down {s : State} {k : Key} (h : s.silenced.engine.playback.down.mem k = true) :
    s.engine.playback.down.mem k = true ∧ s.player.openKeys.mem k = false := by
  obtain ⟨hdown, hno⟩ := playbackEvents_down (closing_presses s.player)
    (s := s.withPlayer { s.player with openKeys := KeySet.none, emitted := {} }) h
  refine ⟨hdown, Bool.eq_false_of_not_eq_true fun hopen => hno false ?_⟩
  simp only [Player.closing, List.mem_append]
  exact .inl (.inl (.inl (mem_offs.2 ⟨k, hopen, rfl⟩)))

/-- The part after the Player has stopped on a take. -/
def State.playerStopped (s : State) (t : TakeId) : State :=
  { s with
    router := { s.router with recent := [] }
    store := s.store.withEntry t { s.store.entry t with played := false }
    player := { s.player with take := none, state := .stopped } }

theorem silenced_acc (s : State) : s.silenced.player.acc = s.player.acc := by
  rw [silenced_player]

theorem playerStopped_outside (s : State) (t : TakeId) : s.OutsidePlayer (s.playerStopped t) :=
  ⟨rfl, rfl, rfl, rfl, rfl, rfl, rfl, rfl, rfl, rfl, rfl, rfl, rfl, rfl, rfl, rfl⟩

theorem stopPlayer_eq {s : State} {t : TakeId} (ht : s.player.take = some t) (cause : PlayCause) :
    stopPlayer cause s =
      raise (.playerState .stopped (some t) cause (s.player.acc / 256) 0) (s.silenced.playerStopped t) := by
  have hacc := silenced_acc s
  have hexpected := silenced_expected s
  rw [stopPlayer, ht, ← State.silenced]
  generalize s.silenced = u at hacc hexpected ⊢
  exact playerNotice_eq (some t) cause (u := u.playerStopped t) rfl (congrArg (· / 256) hacc)
    (hexpected ▸ card_none)

/-- What a stop leaves, also without a take. -/
theorem stopPlayer_spec (cause : PlayCause) (s : State) :
    (stopPlayer cause s).player = { s.player with
      state := .stopped, take := none, openKeys := KeySet.none, emitted := {} } ∧
    (stopPlayer cause s).guide.expected = KeySet.none ∧ (stopPlayer cause s).router.recent = [] ∧
    (∀ t, s.player.take = some t → ((stopPlayer cause s).store.entry t).played = false) ∧
    (stopPlayer cause s).engine.playback.damper = 0 ∧
    (∀ k, (stopPlayer cause s).engine.playback.down.mem k = true →
      s.engine.playback.down.mem k = true ∧ s.player.openKeys.mem k = false) ∧
    s.OutsidePlayer (stopPlayer cause s) ∧ (stopPlayer cause s).link.core = s.link.core := by
  have hout := silenced_outside s
  have hplayer := silenced_player s
  have hcore := silenced_core s
  have hexpected := silenced_expected s
  have hdamper := silenced_damper s
  have hdown := fun k => silenced_down (s := s) (k := k)
  cases ht : s.player.take with
  | none =>
    have heq : stopPlayer cause s = playerNotice none cause
        ((clearRecent s.silenced).withPlayer { s.silenced.player with take := none, state := .stopped }) := by
      rw [stopPlayer, ht, ← State.silenced]
      generalize s.silenced = u
      rfl
    rw [heq]
    generalize s.silenced = u at hout hplayer hcore hexpected hdamper hdown ⊢
    refine ⟨?_, hexpected, rfl, nofun, hdamper, hdown, outsidePlayer_trans hout
      ⟨rfl, rfl, rfl, rfl, rfl, rfl, rfl, rfl, rfl, rfl, rfl, rfl, rfl, rfl, rfl, rfl⟩, (Link.note_core ..).trans hcore⟩
    show { u.player with take := none, state := .stopped } = _
    rw [hplayer]
  | some t =>
    rw [stopPlayer_eq ht]
    generalize s.silenced = u at hout hplayer hcore hexpected hdamper hdown ⊢
    refine ⟨?_, hexpected, rfl, fun o ho => ?_, hdamper, hdown, outsidePlayer_trans hout
      (outsidePlayer_trans (playerStopped_outside u t) (raise_outside ..)), (Link.note_core ..).trans hcore⟩
    · show { u.player with take := none, state := .stopped } = _
      rw [hplayer]
    · obtain rfl : t = o := Option.some.inj ho
      show ((u.store.withEntry t { u.store.entry t with played := false }).entry t).played = false
      rw [entry_withEntry_same]

theorem pausePlayer_eq {s : State} {t : TakeId} (ht : s.player.take = some t) : pausePlayer s =
    raise (.playerState .paused (some t) .pause (s.player.acc / 256) 0)
      (s.silenced.withPlayer { s.silenced.player with state := .paused }) := by
  have htake : s.silenced.player.take = some t := by rw [silenced_player, ht]
  have hacc := silenced_acc s
  have hexpected := silenced_expected s
  rw [pausePlayer, ← State.silenced]
  generalize s.silenced = u at htake hacc hexpected ⊢
  rw [htake]
  exact playerNotice_eq (some t) .pause (u := u.withPlayer { u.player with state := .paused }) rfl
    (congrArg (· / 256) hacc) (hexpected ▸ card_none)

theorem pausePlayer_spec (s : State) :
    (pausePlayer s).player = { s.player with state := .paused, openKeys := KeySet.none, emitted := {} } ∧
    (pausePlayer s).guide.expected = KeySet.none ∧ (pausePlayer s).router = s.router ∧
    (pausePlayer s).engine.playback.damper = 0 ∧
    (∀ k, (pausePlayer s).engine.playback.down.mem k = true →
      s.engine.playback.down.mem k = true ∧ s.player.openKeys.mem k = false) ∧
    s.OutsidePlayer (pausePlayer s) := by
  have hout := silenced_outside s
  have hplayer := silenced_player s
  have hexpected := silenced_expected s
  have hdamper := silenced_damper s
  have hrouter := silenced_router s
  have hdown := fun k => silenced_down (s := s) (k := k)
  rw [pausePlayer, ← State.silenced]
  generalize s.silenced = u at hout hplayer hexpected hdamper hdown hrouter ⊢
  refine ⟨?_, hexpected, hrouter, hdamper, hdown, outsidePlayer_trans hout
    (outsidePlayer_trans (withPlayer_outside u { u.player with state := .paused }) (raise_outside ..))⟩
  show { u.player with state := .paused } = _
  rw [hplayer]

/-! ### RESUME (R157) -/

/-- The part after the chase of RESUME. -/
def State.chased (s : State) : State :=
  playbackEvents s.player.takePedals.chase (s.withPlayer { s.player with emitted := s.player.takePedals })

theorem chased_player (s : State) : s.chased.player = { s.player with emitted := s.player.takePedals } :=
  playbackEvents_player _ _

theorem chased_guide (s : State) : s.chased.guide = s.guide := playbackEvents_guide (chase_presses _) _

theorem resumePlayer_eq {s : State} {t : TakeId} (ht : s.player.take = some t) : resumePlayer s =
    raise (.playerState .playing (some t) .resume (s.player.acc / 256) s.guide.expected.card)
      (s.chased.withPlayer { s.chased.player with state := .playing }) := by
  have htake : s.chased.player.take = some t := by rw [chased_player, ht]
  have hacc : s.chased.player.acc = s.player.acc := by rw [chased_player]
  have hguide := chased_guide s
  rw [resumePlayer, ← State.chased]
  generalize s.chased = u at htake hacc hguide ⊢
  rw [htake]
  exact playerNotice_eq (some t) .resume (u := u.withPlayer { u.player with state := .playing }) rfl
    (congrArg (· / 256) hacc) (congrArg (fun g : Guide => g.expected.card) hguide)

theorem resumePlayer_spec (s : State) :
    (resumePlayer s).player = { s.player with state := .playing, emitted := s.player.takePedals } ∧
    (resumePlayer s).guide = s.guide ∧ (resumePlayer s).router = s.router ∧ s.OutsidePlayer (resumePlayer s) := by
  have hplayer := chased_player s
  have hguide := chased_guide s
  have hrouter : s.chased.router = s.router := playbackEvents_router (chase_presses _) _
  have hout : s.OutsidePlayer s.chased := playerEvents_outside ..
  rw [resumePlayer, ← State.chased]
  generalize s.chased = u at hplayer hguide hrouter hout ⊢
  refine ⟨?_, hguide, hrouter, outsidePlayer_trans hout
    (outsidePlayer_trans (withPlayer_outside u { u.player with state := .playing }) (raise_outside ..))⟩
  show { u.player with state := .playing } = _
  rw [hplayer]

/-! ### LOCATE (R158) -/

/-- The part after a reposition, before the markers of the new position. -/
def State.located (s : State) (T : Nat) : State :=
  let u := clearExpected (reposition T (playedScan T s) s)
  u.withPlayer { u.player with state := .playing, armed := u.player.armedAt T }

theorem located_player (s : State) (T : Nat) : (s.located T).player = { s.player with
    openKeys := KeySet.none, acc := T * 256, cursor := cursorAt T s, takePedals := playedScan T s
    emitted := playedScan T s, state := .playing, armed := s.player.armedAt T } := by
  have hplayer := reposition_player T (playedScan T s) s
  show { (reposition T (playedScan T s) s).player with
    state := .playing, armed := (reposition T (playedScan T s) s).player.armedAt T } = _
  rw [hplayer]
  rfl

theorem locatePlaying_eq {s : State} {t : TakeId} (ht : s.player.take = some t) (T : Nat) : locatePlaying T s =
    raise (.playerState .playing (some t) .locate T 0) (reportMarkers (fun m => decide (m = T)) (s.located T)) := by
  have hplayer := located_player s T
  have htake : (s.located T).player.take = some t := by rw [hplayer, ht]
  have hmarked : (reportMarkers (fun m => decide (m = T)) (s.located T)).player = (s.located T).player :=
    reportMarkers_field State.player (fun _ _ => rfl) _ _
  have hguide : (reportMarkers (fun m => decide (m = T)) (s.located T)).guide = (s.located T).guide :=
    reportMarkers_field State.guide (fun _ _ => rfl) _ _
  show playerNotice (s.located T).player.take .locate (reportMarkers (fun m => decide (m = T)) (s.located T)) = _
  rw [htake]
  refine playerNotice_eq (some t) .locate ?_ ?_ ?_
  · rw [hmarked, hplayer]
  · rw [hmarked, hplayer]
    exact Nat.mul_div_cancel T (by decide)
  · rw [hguide]
    exact card_none

theorem located_step (u : State) (T : Nat) :
    u.OutsidePlayer ((clearExpected u).withPlayer { u.player with state := .playing, armed := u.player.armedAt T }) :=
  ⟨rfl, rfl, rfl, rfl, rfl, rfl, rfl, rfl, rfl, rfl, rfl, rfl, rfl, rfl, rfl, rfl⟩

theorem locatePlaying_spec (T : Nat) (s : State) :
    (locatePlaying T s).player = { s.player with
      openKeys := KeySet.none, acc := T * 256, cursor := cursorAt T s, takePedals := playedScan T s
      emitted := playedScan T s, state := .playing, armed := s.player.armedAt T } ∧
    (locatePlaying T s).guide.expected = KeySet.none ∧ (locatePlaying T s).router = s.router ∧
    (∀ k, (locatePlaying T s).engine.playback.down.mem k = true →
      s.engine.playback.down.mem k = true ∧ s.player.openKeys.mem k = false) ∧
    s.OutsidePlayer (locatePlaying T s) := by
  have hmarked {α : Type} (g : State → α) (hg : ∀ s l, g (State.withLink s l) = g s) : g (locatePlaying T s) = g (s.located T) :=
    (hg (reportMarkers (fun m => decide (m = T)) (s.located T)) _).trans (reportMarkers_field g hg _ _)
  have hout : s.OutsidePlayer (s.located T) := outsidePlayer_trans (t := reposition T (playedScan T s) s)
    (playerEvents_outside ..) (located_step _ T)
  refine ⟨(hmarked State.player fun _ _ => rfl).trans (located_player s T),
    (hmarked (fun s => s.guide.expected) fun _ _ => rfl), (hmarked State.router fun _ _ => rfl).trans
      (playbackEvents_router (offs_bring_presses _ _ _) _), fun k hk => ?_, ?_⟩
  · rw [hmarked (fun s => s.engine) fun _ _ => rfl] at hk
    obtain ⟨hdown, hno⟩ := playbackEvents_down (offs_bring_presses s.player s.player.emitted (playedScan T s)) hk
    exact ⟨hdown, Bool.eq_false_of_not_eq_true fun hopen =>
      hno false (List.mem_append_left _ (mem_offs.2 ⟨k, hopen, rfl⟩))⟩
  · rwa [← hmarked (fun u => s.OutsidePlayer u) fun _ _ => rfl] at hout

/-! ### The commands -/

theorem startPlayer_told (s : State) (t : TakeId) (start : Nat) : ∃ u,
    u = reportMarkers (fun m => decide (m = start)) (playbackEvents (s.store.scan t start).chase (s.playStarted t start)) ∧
    startPlayer t start s = raise (.playerState .playing (some t) .play start u.guide.expected.card) u := by
  refine ⟨_, rfl, ?_⟩
  have hplayer : (reportMarkers (fun m => decide (m = start))
      (playbackEvents (s.store.scan t start).chase (s.playStarted t start))).player = (s.playStarted t start).player :=
    (reportMarkers_field State.player (fun _ _ => rfl) _ _).trans (playbackEvents_player ..)
  rw [startPlayer_eq]
  refine playerNotice_eq (some t) .play ?_ ?_ rfl
  · rw [hplayer]
    rfl
  · rw [hplayer]
    exact Nat.mul_div_cancel start (by decide)

theorem startPlayer_spec (t : TakeId) (start : Nat) (s : State) :
    (startPlayer t start s).player = (s.playStarted t start).player ∧
    ((∀ r, s.recorder = some r → r.take ≠ t) →
      (startPlayer t start s).store.entry t = { s.store.entry t with played := true }) ∧
    (∀ o, o ≠ t → (∀ r, s.recorder = some r → r.take ≠ o) → (startPlayer t start s).store.entry o = s.store.entry o) ∧
    (startPlayer t start s).guide = s.guide ∧ (startPlayer t start s).router = s.router ∧
    s.OutsidePlayer (startPlayer t start s) := by
  have hmarked {α : Type} (g : State → α) (hg : ∀ s l, g (State.withLink s l) = g s) : g (startPlayer t start s) =
      g (playbackEvents (s.store.scan t start).chase (s.playStarted t start)) := by
    rw [startPlayer_eq]
    exact (hg (reportMarkers (fun m => decide (m = start)) _) _).trans (reportMarkers_field g hg _ _)
  have hentry (o : TakeId) (h : ∀ r, s.recorder = some r → r.take ≠ o) :
      (startPlayer t start s).store.entry o = (s.playStarted t start).store.entry o :=
    (hmarked (fun s => s.store.entry o) fun _ _ => rfl).trans
      (playbackEvents_unrecorded (e := (s.playStarted t start).store.entry o) _ ⟨rfl, h⟩).1
  refine ⟨(hmarked State.player fun _ _ => rfl).trans (playbackEvents_player ..), fun h => ?_, fun o ho h => ?_,
    (hmarked State.guide fun _ _ => rfl).trans (playbackEvents_guide (chase_presses _) _),
    (hmarked State.router fun _ _ => rfl).trans (playbackEvents_router (chase_presses _) _), ?_⟩
  · rw [hentry t h]
    exact entry_withEntry_same ..
  · rw [hentry o h]
    exact entry_withEntry_ne _ ho _
  · have hout : s.OutsidePlayer (playbackEvents (s.store.scan t start).chase (s.playStarted t start)) :=
      outsidePlayer_trans (playStarted_outside s t start) (playbackEvents_outside ..)
    rwa [← hmarked (fun u => s.OutsidePlayer u) fun _ _ => rfl] at hout

theorem cmdStop_runs {s : State} (h : s.player.state ≠ .stopped) : cmdStop s = answer 0x41#8 .ok (stopPlayer .stop s) :=
  if_neg h

theorem cmdPause_runs {s : State} (h : s.player.state = .playing ∨ s.player.state = .waiting) :
    cmdPause s = answer 0x42#8 .ok (pausePlayer s) := by
  rw [cmdPause]
  obtain h | h := h <;> rw [h]

theorem cmdResume_runs {s : State} (h : s.player.state = .paused) : cmdResume s = answer 0x43#8 .ok (resumePlayer s) :=
  if_pos h

theorem playedEntry_of {s : State} {t : TakeId} (h : s.player.take = some t) : playedEntry s = s.store.entry t := by
  rw [playedEntry, h]

theorem cursorAt_of {s : State} {t : TakeId} (h : s.player.take = some t) (T : Nat) : cursorAt T s = s.store.indexAt t T := by
  rw [cursorAt, h]

theorem playedScan_of {s : State} {t : TakeId} (h : s.player.take = some t) (T : Nat) : playedScan T s = s.store.scan t T := by
  rw [playedScan, h]

theorem cmdLocate_runs {s : State} {t : TakeId} (ht : s.player.take = some t)
    (h : s.player.state = .playing ∨ s.player.state = .waiting) {T : W32} (hT : T.toNat ≤ (s.store.entry t).duration) :
    cmdLocate T s = answer 0x44#8 .ok (locatePlaying T.toNat s) := by
  rw [cmdLocate, playedEntry_of ht]
  obtain h | h := h <;> rw [h] <;> exact if_neg (Nat.not_lt.2 hT)

theorem armedAt_eq (p : Player) (T : Nat) : p.armedAt T =
    match p.loop with
    | some l => decide (T < l.2)
    | none => false := by
  rw [Player.armedAt]
  cases p.loop <;> rfl

theorem cmdPlay_noTake {b : Byte} (h : 15 < b.toNat) {ms : W32} (s : State) :
    runCommand (.play b ms) s = answer 0x40#8 .badValue s := by
  show cmdPlay b ms s = _
  rw [cmdPlay, takeOf_eq_none h]

theorem cmdPlay_take {b : Byte} {t : TakeId} (ht : t.val = b.toNat) (s : State) (ms : W32) : runCommand (.play b ms) s =
    if s.player.state ≠ .stopped then answer 0x40#8 .badState s
    else if (s.store.entry t).underWriting then answer 0x40#8 .takeBusy s
    else if (s.store.entry t).state ≠ .ready then answer 0x40#8 .badState s
    else if (s.store.entry t).duration < ms.toNat ∨ s.player.loopFits (s.store.entry t).duration = false then
      answer 0x40#8 .badValue s
    else answer 0x40#8 .ok (startPlayer t ms.toNat s) := by
  show cmdPlay b ms s = _
  rw [cmdPlay, takeOf_eq_some ht]

theorem loopFits_iff {p : Player} {d : Nat} : p.loopFits d = true ↔ ∀ l, p.loop = some l → l.2 ≤ d := by
  rw [Player.loopFits]
  cases p.loop with
  | none => exact ⟨fun _ => nofun, fun _ => rfl⟩
  | some l =>
    rw [decide_eq_true_eq]
    exact ⟨fun h _ heq => Option.some.inj heq ▸ h, fun h => h l rfl⟩

theorem locatePaused_eq {s : State} {t : TakeId} (ht : s.player.take = some t) (T : Nat) : locatePaused T s =
    raise (.playerState s.player.state (some t) .locate T 0) (clearExpected (s.withPlayer { s.player with
      acc := T * 256, cursor := s.store.indexAt t T, takePedals := s.store.scan t T, armed := s.player.armedAt T })) := by
  rw [locatePaused, cursorAt_of ht, playedScan_of ht]
  show playerNotice s.player.take .locate _ = _
  rw [ht]
  exact playerNotice_eq (some t) .locate rfl (Nat.mul_div_cancel T (by decide)) card_none

/-- Settles O55: each command hands the Router its events in order, and reports what it set. -/
theorem playerCommandsMoveThePlayer : Obligations.PlayerCommandsMoveThePlayer := by
  unfold Obligations.PlayerCommandsMoveThePlayer
  intro route routeAll told owed markersAt offs closing chase bring silenced replied
  have hsilenced (s : State) : silenced s = s.silenced := by
    rw [State.silenced]
    show clearExpected (engineStop (closePlayer s)) = _
    rfl
  refine ⟨?_, ?_, ?_, ?_, ?_, ?_⟩
  · intro st t T time
    refine ⟨timed_eq st t, indexAt_le st t T, fun i hi => timeAt_of_lt_indexAt hi, le_timeAt_indexAt, ?_⟩
    rw [scan_eq]
    refine List.foldl_ext _ _ _ fun p x _ => ?_
    cases x.2.body <;> rfl
  · intro s b ms tk hs htk hstate hready hstart hloop pedals started
    obtain ⟨u, hu, hnotice⟩ := startPlayer_told s tk ms.toNat
    obtain ⟨marks, hsorted, hmem, hmarks⟩ := reportMarkers_at ms.toNat
      (playbackEvents pedals.chase (s.playStarted tk ms.toNat))
    refine ⟨u, ⟨marks, hsorted, hmem, hu.trans hmarks⟩, ?_⟩
    exact exec_answer hs rfl rfl ((cmdPlay_starts htk hstate hready hstart hloop).trans (congrArg _ hnotice)) rfl
  · intro s tk hs htk
    refine ⟨fun hstate => ?_, fun hstate => ?_, fun hstate => ?_, ?_⟩
    · intro u
      have hu : u = s.silenced := hsilenced s
      clear_value u
      subst hu
      have hc := (cmdStop_runs hstate).trans (congrArg (answer 0x41#8 .ok) (stopPlayer_eq htk .stop))
      refine exec_answer hs rfl rfl hc ?_
      generalize s.silenced = u
      rfl
    · intro u
      have hu : u = s.silenced := hsilenced s
      clear_value u
      subst hu
      have hc := (cmdPause_runs hstate).trans (congrArg (answer 0x42#8 .ok) (pausePlayer_eq htk))
      refine exec_answer hs rfl rfl hc ?_
      generalize s.silenced = u
      rfl
    · intro u
      have hu : u = s.chased := rfl
      clear_value u
      subst hu
      have hc := (cmdResume_runs hstate).trans (congrArg (answer 0x43#8 .ok) (resumePlayer_eq htk))
      refine exec_answer hs rfl rfl hc ?_
      generalize s.chased = u
      rfl
    · intro T hT hstate pedals moved
      have hc := (cmdLocate_runs htk hstate hT).trans (congrArg (answer 0x44#8 .ok) (locatePlaying_eq htk T.toNat))
      obtain ⟨marks, hsorted, hmem, hmarks⟩ := reportMarkers_at T.toNat (s.located T.toNat)
      obtain ⟨u, hu⟩ : ∃ u, u = reportMarkers (fun m => decide (m = T.toNat)) (s.located T.toNat) := ⟨_, rfl⟩
      rw [← hu] at hc
      have hmoved : moved = reposition T.toNat (playedScan T.toNat s) s := by
        rw [playedScan_of htk, reposition]
        show _ = playbackEvents (s.player.offs ++ s.player.emitted.bring pedals) (s.withPlayer { s.player with
          openKeys := KeySet.none, acc := T.toNat * 256, cursor := cursorAt T.toNat s
          takePedals := pedals, emitted := pedals })
        rw [cursorAt_of htk]
        rfl
      have hloop : moved.player.loop = s.player.loop := by rw [hmoved, reposition_player]
      rw [State.located, ← hmoved] at hmem hmarks hu
      clear_value moved
      have hpre : (clearExpected moved).withPlayer
          { (clearExpected moved).player with
            state := .playing, armed := (clearExpected moved).player.armedAt T.toNat } = { moved with
          guide := { moved.guide with expected := Vector.replicate 88 false }
          player := { moved.player with
            state := .playing
            armed := match s.player.loop with
              | some l => decide (T.toNat < l.2)
              | none => false } } := by
        rw [← hloop, ← armedAt_eq]
        rfl
      refine ⟨u, ⟨marks, hsorted, hmem, (hu.trans hmarks).trans ?_⟩, exec_answer hs rfl rfl hc rfl⟩
      exact congrArg (fun v => marks.foldl (fun u i => raise (.marker i.val T.toNat) u) v) hpre
  · intro s b ms hs
    refine ⟨fun hb => exec_answer hs rfl rfl (cmdPlay_noTake hb s) rfl, ?_⟩
    intro tk htk e writing fits
    have hc := cmdPlay_take htk s ms
    refine ⟨fun hstate => ?_, fun hstate hwriting => ?_, fun hstate hempty => ?_, fun hstate hready hfits => ?_,
      fun hstate hready hfits => ?_⟩
    · rw [if_pos hstate] at hc
      exact exec_answer hs rfl rfl hc rfl
    · rw [if_neg (not_not_intro hstate), if_pos ((underWriting_iff _).2 hwriting)] at hc
      exact exec_answer hs rfl rfl hc rfl
    · have hempty : (s.store.entry tk).state = .empty := hempty
      have hunder : (s.store.entry tk).underWriting = false := by rw [TakeEntry.underWriting, hempty]
      rw [if_neg (not_not_intro hstate), if_neg (ne_true_of_eq_false hunder), if_pos (by rw [hempty]; nofun)] at hc
      exact exec_answer hs rfl rfl hc rfl
    · have hready : (s.store.entry tk).state = .ready := hready
      have hunder : (s.store.entry tk).underWriting = false := by rw [TakeEntry.underWriting, hready]
      have hbad : (s.store.entry tk).duration < ms.toNat ∨ s.player.loopFits (s.store.entry tk).duration = false := by
        by_cases hlong : (s.store.entry tk).duration < ms.toNat
        · exact .inl hlong
        · exact .inr (Bool.eq_false_of_not_eq_true fun h => hfits ⟨Nat.not_lt.1 hlong, loopFits_iff.1 h⟩)
      rw [if_neg (not_not_intro hstate), if_neg (ne_true_of_eq_false hunder), if_neg (not_not_intro hready),
        if_pos hbad] at hc
      exact exec_answer hs rfl rfl hc rfl
    · have hc : runCommand (.play b ms) s = answer 0x40#8 .ok (startPlayer tk ms.toNat s) :=
        cmdPlay_starts htk hstate hready hfits.1 hfits.2
      obtain ⟨hplayer, hentry, hother, hguide, hrouter, hout⟩ := startPlayer_spec tk ms.toNat s
      generalize startPlayer tk ms.toNat s = u at hplayer hentry hother hguide hrouter hout hc
      exact ⟨_, exec_answer hs rfl rfl hc rfl, Link.reply_answered .., hplayer, hentry, hother, hguide, hrouter, hout⟩
  · intro s hs
    refine ⟨fun hstate => ⟨?_, ?_, fun T => ?_⟩, fun hstate => ?_, fun hstate => ?_, fun hstate => ?_, fun hstate => ?_,
      fun hstate => ?_⟩
    · exact exec_answer (code := 0x41#8) (st := .badState) (t := s) hs rfl rfl (if_pos hstate) rfl
    · refine exec_answer (code := 0x42#8) (st := .badState) (t := s) hs rfl rfl ?_ rfl
      show cmdPause s = _
      rw [cmdPause, hstate]
    · refine exec_answer (code := 0x44#8) (st := .badState) (t := s) hs rfl rfl ?_ rfl
      show cmdLocate T s = _
      rw [cmdLocate, hstate]
    · obtain ⟨hplayer, hexpected, hrecent, hplayed, hdamper, hdown, hout, -⟩ := stopPlayer_spec .stop s
      refine ⟨_, exec_answer hs rfl rfl (cmdStop_runs hstate) rfl, Link.reply_answered .., ?_⟩
      generalize stopPlayer .stop s = u at *
      exact ⟨hplayer, hexpected, hrecent, hplayed, hdamper, hdown, hout⟩
    · refine exec_answer (code := 0x42#8) (st := .ok) (t := s) hs rfl rfl ?_ rfl
      show cmdPause s = _
      rw [cmdPause, hstate]
    · obtain ⟨hplayer, hexpected, hrouter, hdamper, hdown, hout⟩ := pausePlayer_spec s
      refine ⟨_, exec_answer hs rfl rfl (cmdPause_runs hstate) rfl, Link.reply_answered .., ?_⟩
      generalize pausePlayer s = u at *
      exact ⟨hplayer, hexpected, hrouter, hdamper, hdown, hout⟩
    · exact exec_answer (code := 0x43#8) (st := .badState) (t := s) hs rfl rfl (if_neg hstate) rfl
    · obtain ⟨hplayer, hguide, hrouter, hout⟩ := resumePlayer_spec s
      refine ⟨_, exec_answer hs rfl rfl (cmdResume_runs hstate) rfl, Link.reply_answered .., ?_⟩
      generalize resumePlayer s = u at *
      exact ⟨hplayer, hguide, hrouter, hout⟩
  · intro s T tk hs htk hstate moved
    refine ⟨fun hT => ?_, fun hT hpaused => ?_, fun hT hpaused => ?_⟩
    · refine exec_answer (code := 0x44#8) (st := .badValue) (t := s) hs rfl rfl ?_ rfl
      show cmdLocate T s = _
      rw [cmdLocate, playedEntry_of htk]
      cases hst : s.player.state with
      | stopped => exact absurd hst hstate
      | _ => exact if_pos hT
    · have hc : runCommand (.locate T) s = answer 0x44#8 .ok (locatePaused T.toNat s) := by
        show cmdLocate T s = _
        rw [cmdLocate, playedEntry_of htk, hpaused]
        exact if_neg (Nat.not_lt.2 hT)
      rw [locatePaused_eq htk, hpaused, armedAt_eq] at hc
      exact exec_answer hs rfl rfl hc rfl
    · have hactive : s.player.state = .playing ∨ s.player.state = .waiting := by
        cases hst : s.player.state with
        | stopped => exact absurd hst hstate
        | paused => exact absurd hst hpaused
        | playing => exact .inl rfl
        | waiting => exact .inr rfl
      obtain ⟨hplayer, hexpected, hrouter, hdown, hout⟩ := locatePlaying_spec T.toNat s
      have hc : runCommand (.locate T) s = answer 0x44#8 .ok (locatePlaying T.toNat s) := cmdLocate_runs htk hactive hT
      rw [cursorAt_of htk, playedScan_of htk, armedAt_eq] at hplayer
      generalize locatePlaying T.toNat s = u at hplayer hexpected hrouter hdown hout hc
      refine ⟨_, exec_answer hs rfl rfl hc rfl, Link.reply_answered .., ?_⟩
      exact ⟨hplayer, hexpected, hrouter, hdown, hout⟩

end Sys2Proof.Machine
end

section
/-! PROOFS. The Player's ticks (sections 9.3 and 9.4). -/

namespace Sys2Proof.Machine

open Sys2Proof.StepRows

/-! ### The emission of the due records (R146, R147) -/

theorem emitDue_nil (due : Nat → Bool) (s : State) : emitDue due [] s = s := rfl

theorem emitDue_of_not_due {due : Nat → Bool} {x : Nat × Record} (h : due x.1 = false) (rest : List (Nat × Record))
    (s : State) : emitDue due (x :: rest) s = s := if_neg (ne_true_of_eq_false h)

theorem emitDue_of_due {due : Nat → Bool} {x : Nat × Record} (h : due x.1 = true) (rest : List (Nat × Record)) (s : State) :
    emitDue due (x :: rest) s =
      if groupEnds x.1 rest = true ∧ (emitRecord x.2 s).guide.expected.isEmpty = false then enterWait (emitRecord x.2 s)
      else emitDue due rest (emitRecord x.2 s) := by
  refine (if_pos h).trans ?_
  simp only [Bool.and_eq_true, Bool.not_eq_true']

/-- What the emission of a record and the wait do, the emission of the due records does. -/
theorem emitDue_rel {R : State → State → Prop} (hrefl : ∀ s, R s s) (htrans : ∀ {s t u}, R s t → R t u → R s u)
    (hrecord : ∀ r s, R s (emitRecord r s)) (hwait : ∀ s, R s (enterWait s)) (due : Nat → Bool) (l : List (Nat × Record))
    (s : State) : R s (emitDue due l s) := by
  induction l generalizing s with
  | nil => exact hrefl s
  | cons x rest ih =>
    cases hdue : due x.1 with
    | false =>
      rw [emitDue_of_not_due hdue]
      exact hrefl s
    | true =>
      rw [emitDue_of_due hdue]
      split
      · exact htrans (hrecord x.2 s) (hwait _)
      · exact htrans (hrecord x.2 s) (ih _)

/-- The context without what emission moves. -/
def Player.still (p : Player) : Player :=
  { p with state := .playing, cursor := 0, openKeys := KeySet.none, takePedals := {}, emitted := {} }

theorem read_still (p : Player) (b : Body) : (p.read b).still = p.still := rfl

/-- What emission leaves: what lies outside the Player, the link but for notices, and the context but for the
cursor, the open keys, the pedals and a wait. -/
structure Emitted (s t : State) : Prop where
  outside : s.OutsidePlayer t
  core : t.link.core = s.link.core
  still : t.player.still = s.player.still
  state : t.player.state = s.player.state ∨ t.player.state = .waiting

theorem Emitted.refl (s : State) : Emitted s s :=
  ⟨⟨rfl, rfl, rfl, rfl, rfl, rfl, rfl, rfl, rfl, rfl, rfl, rfl, rfl, rfl, rfl, rfl⟩, rfl, rfl, .inl rfl⟩

theorem Emitted.trans {s t u : State} (h : Emitted s t) (k : Emitted t u) : Emitted s u :=
  ⟨outsidePlayer_trans h.outside k.outside, k.core.trans h.core, k.still.trans h.still,
    k.state.elim (fun hk => h.state.elim (fun hh => .inl (hk.trans hh)) fun hh => .inr (hk.trans hh)) .inr⟩

theorem emitRecord_emitted (r : Record) (s : State) : Emitted s (emitRecord r s) := by
  have hplayer := emitRecord_player r s
  refine ⟨playerEvents_outside .., (playbackEvents_frame ..).core, ?_, .inl ?_⟩
  · rw [hplayer, read_still]
  · rw [hplayer]
    rfl

theorem enterWait_emitted (s : State) : Emitted s (enterWait s) :=
  ⟨⟨rfl, rfl, rfl, rfl, rfl, rfl, rfl, rfl, rfl, rfl, rfl, rfl, rfl, rfl, rfl, rfl⟩, Link.note_core .., rfl, .inr rfl⟩

theorem emitDue_emitted (due : Nat → Bool) (l : List (Nat × Record)) (s : State) : Emitted s (emitDue due l s) :=
  emitDue_rel Emitted.refl Emitted.trans emitRecord_emitted enterWait_emitted due l s

/-- With wait off and no key expected, emission leaves the Guide, the recent presses and the state. -/
theorem emitRecord_unguided (r : Record) {s : State} (h : s.guide.wait = false) :
    (emitRecord r s).guide = s.guide ∧ (emitRecord r s).router = s.router := by
  rw [emitRecord]
  cases s.player.eventOf r.body with
  | none => exact ⟨rfl, rfl⟩
  | some k => exact playbackEvent_quiet (s := s.withPlayer (s.player.read r.body)) (.inr h)

theorem isEmpty_none_eq : KeySet.none.isEmpty = true := isEmpty_none

theorem emitDue_unguided (due : Nat → Bool) (l : List (Nat × Record)) {s : State} (hwait : s.guide.wait = false)
    (hnone : s.guide.expected = KeySet.none) :
    (emitDue due l s).guide = s.guide ∧ (emitDue due l s).router = s.router ∧
      (emitDue due l s).player.state = s.player.state := by
  induction l generalizing s with
  | nil => exact ⟨rfl, rfl, rfl⟩
  | cons x rest ih =>
    cases hdue : due x.1 with
    | false =>
      rw [emitDue_of_not_due hdue]
      exact ⟨rfl, rfl, rfl⟩
    | true =>
      obtain ⟨hguide, hrouter⟩ := emitRecord_unguided x.2 hwait
      have hplayer := emitRecord_player x.2 s
      have hempty : ¬(groupEnds x.1 rest = true ∧ (emitRecord x.2 s).guide.expected.isEmpty = false) := by
        rw [hguide, hnone, isEmpty_none]
        exact fun h => Bool.noConfusion h.2
      rw [emitDue_of_due hdue, if_neg hempty]
      obtain ⟨h1, h2, h3⟩ := ih (s := emitRecord x.2 s) (hguide ▸ hwait) (hguide ▸ hnone)
      exact ⟨h1.trans hguide, h2.trans hrouter, h3.trans (hplayer ▸ rfl)⟩

/-! ### Takes only grow by events -/

/-- What every append and every change of a take's state keep of the store, the Recorder keeps. -/
theorem recorderEvent_store {Q : Store → Prop} (happend : ∀ st t r, Q st → Q (st.append t r))
    (hstate : ∀ st t x, Q st → Q (Store.setState st t x)) (ev : Event) {s : State} (h : Q s.store) :
    Q (recorderEvent ev s).store := by
  have hall (t : TakeId) (rs : List Record) (st : Store) (hst : Q st) : Q (st.appendAll t rs) := by
    induction rs generalizing st with
    | nil => exact hst
    | cons r rs ih => exact ih _ (happend st t r hst)
  have hbody (r : Recording) (time : Nat) (b : Body) (u : State) (hu : Q u.store) : Q (recordBody r time b u).store := by
    rw [recordBody]
    split
    · exact happend _ _ _ hu
    · show Q ((closeTake r.take time u.store r.ctx).setState r.take .ready)
      rw [closeTake_eq]
      exact hstate _ _ _ (hall _ _ _ hu)
  have hgap (u : State) (hu : Q u.store) : Q (recordGap u).store := by
    rw [recordGap]
    split
    · exact hu
    · exact hbody _ _ _ _ hu
  have hgaps (n : Nat) (u : State) (hu : Q u.store) : Q (recordGaps n u).store := by
    induction n generalizing u with
    | zero => exact hu
    | succ n ih => exact ih _ (hgap u hu)
  cases hr : s.recorder with
  | none => rwa [recorderEvent, hr]
  | some r =>
    cases hb : r.ctx.bodyOf ev.kind with
    | none => rwa [recorderEvent_discarded hr hb]
    | some b =>
      rw [recorderEvent_taken hr hb, recordOverdueGaps, hr]
      have hover := hgaps ((r.eventTime s.clock.us ev.stamp - r.ctx.last - 1) / 65535) s h
      show Q (recordAt ev.kind (r.eventTime s.clock.us ev.stamp)
        (recordGaps ((r.eventTime s.clock.us ev.stamp - r.ctx.last - 1) / 65535) s)).store
      generalize recordGaps ((r.eventTime s.clock.us ev.stamp - r.ctx.last - 1) / 65535) s = u at hover ⊢
      rw [recordAt]
      split
      · exact hover
      · split
        · exact hover
        · exact hbody _ _ _ _ hover

theorem playbackEvent_store {Q : Store → Prop} (happend : ∀ st t r, Q st → Q (st.append t r))
    (hstate : ∀ st t x, Q st → Q (Store.setState st t x)) (k : EventKind) {s : State} (h : Q s.store) :
    Q (playbackEvent k s).store := by
  obtain ⟨-, -, hstore, -, -, -⟩ := deliver_blocks (finalSet s ⟨.playback, s.clock.us, k⟩) ⟨.playback, s.clock.us, k⟩ s
  have hto := recorderEvent_store happend hstate ⟨.playback, s.clock.us, k⟩ h
  have heq : Q (deliver (finalSet s ⟨.playback, s.clock.us, k⟩) ⟨.playback, s.clock.us, k⟩ s).store := by
    rw [hstore]
    split
    · exact hto
    · exact h
  exact heq

theorem writeTail_count (st : Store) (t o : TakeId) (r : Record) :
    (st.entry o).count ≤ ((st.writeTail t r).entry o).count := by
  rw [Store.writeTail]
  split
  · exact Nat.le_refl _
  · split
    · rw [entry_withEntry]
      split
      · next h => exact h ▸ Nat.le_succ _
      · exact Nat.le_refl _
    · exact Nat.le_refl _

theorem append_count (st : Store) (t o : TakeId) (r : Record) : (st.entry o).count ≤ ((st.append t r).entry o).count := by
  have hgrow : (st.entry o).count ≤ ((st.growTake t).entry o).count := by
    rw [Store.growTake]
    split
    · exact Nat.le_refl _
    · rw [entry_withEntry]
      split
      · next h => exact h ▸ Nat.le_refl _
      · exact Nat.le_refl _
  rw [Store.append]
  split
  · exact hgrow.trans (writeTail_count ..)
  · exact writeTail_count ..

theorem emitRecord_count (r : Record) (s : State) (o : TakeId) :
    (s.store.entry o).count ≤ ((emitRecord r s).store.entry o).count := by
  rw [emitRecord]
  cases s.player.eventOf r.body with
  | none => exact Nat.le_refl _
  | some k =>
    refine playbackEvent_store (Q := fun st => (s.store.entry o).count ≤ (st.entry o).count)
      (fun st t r h => h.trans (append_count st t o r)) (fun st t x h => ?_) k
      (s := s.withPlayer (s.player.read r.body)) (Nat.le_refl _)
    rw [Store.setState, entry_withEntry]
    split
    · next ho => exact ho ▸ h
    · exact h

/-! ### The first parts of a tick (R145, R148) -/

/-- The part after a tick's addition to the accumulator. -/
def State.ticked (s : State) : State := s.withPlayer { s.player with acc := s.player.acc + s.player.tempo }

/-- The part after the addition and the markers. -/
def State.marked (s : State) : State := reportMarkers s.player.reaches s.ticked

theorem marked_player (s : State) : s.marked.player = s.ticked.player :=
  reportMarkers_field State.player (fun _ _ => rfl) _ _

theorem marked_field {α : Type} (g : State → α) (hg : ∀ s l, g (State.withLink s l) = g s) (s : State) :
    g s.marked = g s.ticked := reportMarkers_field g hg _ _

theorem ahead_of {s : State} {t : TakeId} (h : s.player.take = some t) : ahead s = (s.store.timed t).drop s.player.cursor := by
  rw [ahead, h]

theorem marked_take {s : State} {t : TakeId} (h : s.player.take = some t) : s.marked.player.take = some t := by
  rw [marked_player]
  exact h

theorem tickEmission_eq {s : State} {t : TakeId} (h : s.player.take = some t) :
    tickEmission s = emitDue s.ticked.player.due ((s.marked.store.timed t).drop s.marked.player.cursor) s.marked := by
  rw [← ahead_of (marked_take h), ← marked_player]
  rfl

/-- The loop's end that bounds a tick. -/
theorem bound_eq_some {p : Player} {b : Nat} : p.bound = some b ↔ p.armed = true ∧ ∃ a, p.loop = some (a, b) := by
  rw [Player.bound]
  cases p.armed with
  | false => simp
  | true =>
    simp only [if_true, Option.map_eq_some_iff, true_and]
    exact ⟨fun ⟨⟨a, c⟩, hl, hc⟩ => ⟨a, by cases hc; exact hl⟩, fun ⟨a, hl⟩ => ⟨(a, b), hl, rfl⟩⟩

theorem due_iff {p : Player} {time : Nat} : p.due time = true ↔ time * 256 ≤ p.acc ∧ ∀ b, p.bound = some b → time < b := by
  rw [Player.due, Bool.and_eq_true, decide_eq_true_eq]
  refine and_congr_right' ?_
  cases p.bound with
  | none => exact ⟨fun _ => nofun, fun _ => rfl⟩
  | some b =>
    rw [decide_eq_true_eq]
    exact ⟨fun h c hc => Option.some.inj hc ▸ h, fun h => h b rfl⟩

theorem reaches_iff {p : Player} {m : Nat} : p.reaches m = true ↔
    p.acc < m * 256 ∧ m * 256 ≤ p.acc + p.tempo ∧
      ∀ b, p.bound = some b → p.acc < b * 256 → b * 256 ≤ p.acc + p.tempo → m < b := by
  rw [Player.reaches, Bool.and_eq_true, decide_eq_true_eq, and_assoc]
  refine and_congr_right fun hlow => and_congr_right fun hhigh => ?_
  cases p.bound with
  | none => exact ⟨fun _ => nofun, fun _ => rfl⟩
  | some b =>
    rw [decide_eq_true_eq]
    constructor
    · intro h c hc hbelow _
      obtain rfl : b = c := Option.some.inj hc
      omega
    · intro h
      by_cases hbelow : p.acc < b * 256
      · by_cases hreach : b * 256 ≤ p.acc + p.tempo
        · exact .inl (h b rfl hbelow hreach)
        · exact .inl (by omega)
      · exact .inr (Nat.not_lt.1 hbelow)

theorem marked_of_none {s : State} (h : ∀ (i : Fin 4) (m : Nat), s.player.markers.get i = some m →
    m * 256 ≤ s.player.acc ∨ s.player.acc + s.player.tempo < m * 256) : s.marked = s.ticked := by
  refine reportMarkers_none fun i m hm => Bool.eq_false_of_not_eq_true fun hreach => ?_
  obtain ⟨hlow, hhigh, -⟩ := reaches_iff.1 hreach
  have := h i m hm
  omega

/-! ### The rows -/

theorem takePlayerTick_idle {s : State} (h : s.player.state ≠ .playing) : takePlayerTick s = s := if_neg h

theorem takeLoopJump_idle {s : State} (h : s.player.state ≠ .playing ∨ jumpDue (tickEmission s) = none) :
    takeLoopJump s = s := by
  refine if_neg fun hyes => ?_
  obtain h | h := h
  · exact h hyes.1
  · have hsome := hyes.2
    rw [h] at hsome
    cases hsome

theorem takeTakeEnd_idle {s : State} (h : s.player.state ≠ .playing ∨ endDue (tickEmission s) = false) :
    takeTakeEnd s = s := by
  refine if_neg fun hyes => ?_
  obtain h | h := h
  · exact h hyes.1
  · exact ne_true_of_eq_false h hyes.2

section
variable {s : State} (hplaying : s.player.state = .playing)
include hplaying

theorem takePlayerTick_eq : takePlayerTick s = tickEnd (tickEmission s) := if_pos hplaying

theorem takeLoopJump_due {a : Nat} (h : jumpDue (tickEmission s) = some a) : takeLoopJump s = takePlayerTick s :=
  if_pos ⟨hplaying, by rw [h]; rfl⟩

theorem takeTakeEnd_due (h : endDue (tickEmission s) = true) : takeTakeEnd s = takePlayerTick s := if_pos ⟨hplaying, h⟩

theorem tick_jumps {a : Nat} (h : jumpDue (tickEmission s) = some a) : takePlayerTick s = loopJump a (tickEmission s) := by
  rw [takePlayerTick_eq hplaying, tickEnd, h]

theorem tick_ends (h : jumpDue (tickEmission s) = none) (hend : endDue (tickEmission s) = true) :
    takePlayerTick s = stopPlayer .ended (tickEmission s) := by
  rw [takePlayerTick_eq hplaying, tickEnd, h]
  exact if_pos hend

theorem tick_stays (h : jumpDue (tickEmission s) = none) (hend : endDue (tickEmission s) = false) :
    takePlayerTick s = tickEmission s := by
  rw [takePlayerTick_eq hplaying, tickEnd, h]
  exact if_neg (ne_true_of_eq_false hend)

end

theorem jumpDue_eq_some {s : State} {a : Nat} : jumpDue s = some a ↔
    s.player.state = .playing ∧ s.player.armed = true ∧ ∃ b, s.player.loop = some (a, b) ∧ b * 256 ≤ s.player.acc := by
  rw [jumpDue]
  by_cases h : s.player.state = .playing ∧ s.player.armed = true
  · rw [if_pos h]
    cases hl : s.player.loop with
    | none => simp
    | some l =>
      obtain ⟨c, d⟩ := l
      by_cases hd : d * 256 ≤ s.player.acc
      · simp [hd, h]
      · simp only [hd, if_false, reduceCtorEq, false_iff]
        rintro ⟨-, -, b, hb, hle⟩
        cases hb
        exact hd hle
  · rw [if_neg h]
    exact ⟨nofun, fun hyes => absurd ⟨hyes.1, hyes.2.1⟩ h⟩

theorem endDue_iff {s : State} : endDue s = true ↔
    s.player.state = .playing ∧ (∀ a, jumpDue s ≠ some a) ∧ (playedEntry s).count ≤ s.player.cursor := by
  rw [endDue, Bool.and_eq_true, Bool.and_eq_true, decide_eq_true_eq, decide_eq_true_eq, Option.isNone_iff_eq_none,
    and_assoc]
  exact and_congr_right' (and_congr_left' Option.eq_none_iff_forall_ne_some)

/-! ### What a tick leaves outside the Player -/

theorem reportMarkers_emitted (f : Nat → Bool) (s : State) : Emitted s (reportMarkers f s) := by
  have hplayer := reportMarkers_field State.player (fun _ _ => rfl) f s
  refine ⟨?_, (reportMarkers_frame f s).core, by rw [hplayer], .inl (by rw [hplayer])⟩
  exact (reportMarkers_frame f s).outsidePlayer (reportMarkers_field (fun s => s.engine.live) (fun _ _ => rfl) f s)

/-- What lies outside the Player stays, and the link but for notices. -/
def PlayerOnly (s t : State) : Prop := s.OutsidePlayer t ∧ t.link.core = s.link.core

theorem PlayerOnly.trans {s t u : State} (h : PlayerOnly s t) (k : PlayerOnly t u) : PlayerOnly s u :=
  ⟨outsidePlayer_trans h.1 k.1, k.2.trans h.2⟩

theorem Emitted.only {s t : State} (h : Emitted s t) : PlayerOnly s t := ⟨h.outside, h.core⟩

theorem withPlayer_only (s : State) (p : Player) : PlayerOnly s (s.withPlayer p) := ⟨withPlayer_outside s p, rfl⟩

theorem raise_only (n : NoticeBody) (s : State) : PlayerOnly s (raise n s) := ⟨raise_outside n s, Link.note_core ..⟩

theorem clearExpected_only (s : State) : PlayerOnly s (clearExpected s) :=
  ⟨⟨rfl, rfl, rfl, rfl, rfl, rfl, rfl, rfl, rfl, rfl, rfl, rfl, rfl, rfl, rfl, rfl⟩, rfl⟩

theorem tickEmission_emitted {s : State} {t : TakeId} (h : s.player.take = some t) : Emitted s.marked (tickEmission s) := by
  rw [tickEmission_eq h]
  exact emitDue_emitted ..

theorem tickEmission_only {s : State} {t : TakeId} (h : s.player.take = some t) : PlayerOnly s (tickEmission s) :=
  (withPlayer_only s _).trans ((reportMarkers_emitted _ s.ticked).only.trans (tickEmission_emitted h).only)

theorem tickEmission_still {s : State} {t : TakeId} (h : s.player.take = some t) :
    (tickEmission s).player.still = s.ticked.player.still := by
  rw [(tickEmission_emitted h).still, marked_player]

/-! ### The loop jump (R153, R154) -/

/-- The part after a jump's reposition and the next pass, its notice given and the expected set emptied. -/
def State.passed (s : State) (a : Nat) : State :=
  let u := reposition a s.player.snapshot s
  let u := u.withPlayer u.player.nextPass
  clearExpected (raise (.pass u.player.take u.player.passNumber u.player.passKind) u)

/-- The part after a jump's markers. -/
def State.jumpMarked (s : State) (a : Nat) : State := reportMarkers (fun m => decide (m = a)) (s.passed a)

theorem loopJump_eq (a : Nat) (s : State) :
    loopJump a s = emitDue (fun t => decide (t ≤ a)) (ahead (s.jumpMarked a)) (s.jumpMarked a) := rfl

theorem passed_player (s : State) (a : Nat) : (s.passed a).player = Player.nextPass { s.player with
    openKeys := KeySet.none, acc := a * 256, cursor := cursorAt a s, takePedals := s.player.snapshot
    emitted := s.player.snapshot } :=
  congrArg Player.nextPass (reposition_player a s.player.snapshot s)

/-- The part after a jump's reposition and the next pass, spelled on the context before the jump. -/
def State.jumpPassed (s : State) (a : Nat) (t : TakeId) : State :=
  let moved := playbackEvents (s.player.offs ++ s.player.emitted.bring s.player.snapshot) { s with player := { s.player with
    openKeys := KeySet.none, acc := a * 256, cursor := s.store.indexAt t a, takePedals := s.player.snapshot
    emitted := s.player.snapshot } }
  let index := (s.player.passIndex + 1) % (s.player.listen + s.player.practice)
  let kind : PassKind := if index < s.player.listen then .listen else .practice
  let number := if s.player.passNumber < 65535 then s.player.passNumber + 1 else 65535
  let passed := raise (.pass (some t) number kind) { moved with player := { moved.player with
    passIndex := index, passKind := kind, passNumber := number } }
  { passed with guide := { passed.guide with expected := KeySet.none } }

theorem passed_eq {s : State} {t : TakeId} (ht : s.player.take = some t) (a : Nat) : s.passed a = s.jumpPassed a t := by
  have hplayer := reposition_player a s.player.snapshot s
  have hmoved : reposition a s.player.snapshot s = playbackEvents
      (s.player.offs ++ s.player.emitted.bring s.player.snapshot) { s with player := { s.player with
        openKeys := KeySet.none, acc := a * 256, cursor := s.store.indexAt t a, takePedals := s.player.snapshot
        emitted := s.player.snapshot } } := by
    rw [reposition, cursorAt_of ht]
    rfl
  have hnumber (n : Nat) : min (n + 1) 65535 = if n < 65535 then n + 1 else 65535 := by
    split <;> omega
  rw [State.passed, State.jumpPassed, ← hmoved]
  generalize reposition a s.player.snapshot s = u at hplayer ⊢
  have hnext : u.player.nextPass = { u.player with
      passIndex := (s.player.passIndex + 1) % (s.player.listen + s.player.practice)
      passKind := if (s.player.passIndex + 1) % (s.player.listen + s.player.practice) < s.player.listen then .listen
        else .practice
      passNumber := if s.player.passNumber < 65535 then s.player.passNumber + 1 else 65535 } := by
    rw [Player.nextPass, hplayer, hnumber]
  have htake : u.player.take = some t := by rw [hplayer, ht]
  rw [hnext]
  show clearExpected (raise (.pass u.player.take _ _) _) = _
  rw [htake]
  rfl

theorem passed_only (s : State) (a : Nat) : PlayerOnly s (s.passed a) := by
  have hmove : PlayerOnly s (reposition a s.player.snapshot s) :=
    ⟨playerEvents_outside .., (playbackEvents_frame ..).core⟩
  rw [State.passed]
  generalize reposition a s.player.snapshot s = u at hmove ⊢
  exact hmove.trans ((withPlayer_only u u.player.nextPass).trans ((raise_only ..).trans (clearExpected_only _)))

theorem passed_expected (s : State) (a : Nat) : (s.passed a).guide.expected = KeySet.none := by
  rw [State.passed]
  generalize reposition a s.player.snapshot s = u
  rfl

theorem passed_wait (s : State) (a : Nat) : (s.passed a).guide.wait = s.guide.wait := by
  obtain ⟨⟨-, -, -, -, -, -, -, -, -, -, -, -, -, -, hwait, -⟩, -⟩ := passed_only s a
  exact hwait

theorem jumpMarked_player (s : State) (a : Nat) : (s.jumpMarked a).player = (s.passed a).player :=
  reportMarkers_field State.player (fun _ _ => rfl) _ _

theorem loopJump_emitted (a : Nat) (s : State) : Emitted (s.passed a) (loopJump a s) :=
  (reportMarkers_emitted _ (s.passed a)).trans (emitDue_emitted _ _ _)

theorem loopJump_only (a : Nat) (s : State) : PlayerOnly s (loopJump a s) :=
  (passed_only s a).trans (loopJump_emitted a s).only

/-! ### The steps of the rows -/

section
variable {s t : State} (hs : s.Steady)
include hs

theorem exec_playerTick (h : takePlayerTick s = t) (ho : PlayerOnly s t) :
    exec .playerTick s = .next { t with link := t.link.transmit } := by
  rw [exec_event (i := .playerTick) (f := takePlayerTick) (fun _ => rfl) hs (by rw [h]; exact ho.1.1)
    (by rw [h]; exact ho.2), h]
  rfl

theorem exec_loopJump (h : takeLoopJump s = t) (ho : PlayerOnly s t) :
    exec .loopJump s = .next { t with link := t.link.transmit } := by
  rw [exec_event (i := .loopJump) (f := takeLoopJump) (fun _ => rfl) hs (by rw [h]; exact ho.1.1)
    (by rw [h]; exact ho.2), h]
  rfl

theorem exec_takeEnd (h : takeTakeEnd s = t) (ho : PlayerOnly s t) :
    exec .takeEnd s = .next { t with link := t.link.transmit } := by
  rw [exec_event (i := .takeEnd) (f := takeTakeEnd) (fun _ => rfl) hs (by rw [h]; exact ho.1.1)
    (by rw [h]; exact ho.2), h]
  rfl

end

theorem exec_playerTick_idle {s : State} (hs : s.Steady) (h : takePlayerTick s = s) : exec .playerTick s = .next s :=
  exec_silent_event (f := takePlayerTick) (fun _ => rfl) hs h rfl rfl

theorem exec_loopJump_idle {s : State} (hs : s.Steady) (h : takeLoopJump s = s) : exec .loopJump s = .next s :=
  exec_silent_event (f := takeLoopJump) (fun _ => rfl) hs h rfl rfl

theorem exec_takeEnd_idle {s : State} (hs : s.Steady) (h : takeTakeEnd s = s) : exec .takeEnd s = .next s :=
  exec_silent_event (f := takeTakeEnd) (fun _ => rfl) hs h rfl rfl

/-- The three ways of a tick's end, each with its three rows. -/
theorem rows_jump {s : State} {t : TakeId} (hs : s.Steady) (hp : s.player.state = .playing) (ht : s.player.take = some t)
    {a : Nat} (h : jumpDue (tickEmission s) = some a) :
    exec .playerTick s =
        .next { loopJump a (tickEmission s) with link := (loopJump a (tickEmission s)).link.transmit } ∧
      exec .loopJump s =
        .next { loopJump a (tickEmission s) with link := (loopJump a (tickEmission s)).link.transmit } ∧
      exec .takeEnd s = .next s := by
  have hjump := tick_jumps hp h
  have honly := (tickEmission_only ht).trans (loopJump_only a _)
  refine ⟨exec_playerTick hs hjump honly, exec_loopJump hs ((takeLoopJump_due hp h).trans hjump) honly,
    exec_takeEnd_idle hs (takeTakeEnd_idle (.inr ?_))⟩
  exact Bool.eq_false_of_not_eq_true fun hend => (endDue_iff.1 hend).2.1 a h

theorem rows_end {s : State} {t : TakeId} (hs : s.Steady) (hp : s.player.state = .playing) (ht : s.player.take = some t)
    (h : jumpDue (tickEmission s) = none) (hend : endDue (tickEmission s) = true) :
    exec .playerTick s = .next { stopPlayer .ended (tickEmission s) with
        link := (stopPlayer .ended (tickEmission s)).link.transmit } ∧
      exec .takeEnd s = .next { stopPlayer .ended (tickEmission s) with
        link := (stopPlayer .ended (tickEmission s)).link.transmit } ∧
      exec .loopJump s = .next s := by
  have hstop := tick_ends hp h hend
  obtain ⟨-, -, -, -, -, -, hout, hcore⟩ := stopPlayer_spec .ended (tickEmission s)
  have honly := (tickEmission_only ht).trans ⟨hout, hcore⟩
  exact ⟨exec_playerTick hs hstop honly, exec_takeEnd hs ((takeTakeEnd_due hp hend).trans hstop) honly,
    exec_loopJump_idle hs (takeLoopJump_idle (.inr h))⟩

theorem rows_stay {s : State} {t : TakeId} (hs : s.Steady) (hp : s.player.state = .playing) (ht : s.player.take = some t)
    (h : jumpDue (tickEmission s) = none) (hend : endDue (tickEmission s) = false) :
    exec .playerTick s = .next { tickEmission s with link := (tickEmission s).link.transmit } ∧
      exec .loopJump s = .next s ∧ exec .takeEnd s = .next s :=
  ⟨exec_playerTick hs (tick_stays hp h hend) (tickEmission_only ht), exec_loopJump_idle hs (takeLoopJump_idle (.inr h)),
    exec_takeEnd_idle hs (takeTakeEnd_idle (.inr hend))⟩

/-! ### The simple cases of a tick -/

section
variable {s : State} {tk : TakeId} (hs : s.Steady) (hp : s.player.state = .playing) (ht : s.player.take = some tk)
  (hmarkers : ∀ (i : Fin 4) (m : Nat), s.player.markers.get i = some m →
    m * 256 ≤ s.player.acc ∨ s.player.acc + s.player.tempo < m * 256)
include ht hmarkers

theorem tickEmission_unmarked :
    tickEmission s = emitDue s.ticked.player.due ((s.store.timed tk).drop s.player.cursor) s.ticked := by
  rw [tickEmission_eq ht, marked_of_none hmarkers]
  rfl

/-- No record due. -/
theorem tickEmission_none
    (h : ∀ x rest, (s.store.timed tk).drop s.player.cursor = x :: rest → s.ticked.player.due x.1 = false) :
    tickEmission s = s.ticked := by
  rw [tickEmission_unmarked ht hmarkers]
  cases hleft : (s.store.timed tk).drop s.player.cursor with
  | nil => rfl
  | cons x rest => exact emitDue_of_not_due (h x rest hleft) rest _

omit hmarkers ht in
theorem not_due_of_late {time : Nat} (h : s.player.acc + s.player.tempo < time * 256) : s.ticked.player.due time = false :=
  Bool.eq_false_of_not_eq_true fun hdue => by
    have hle : time * 256 ≤ s.player.acc + s.player.tempo := (due_iff.1 hdue).1
    omega

include hs hp

theorem rows_undue {x : Nat × Record} {rest : List (Nat × Record)} (hleft : (s.store.timed tk).drop s.player.cursor = x :: rest)
    (hlate : s.player.acc + s.player.tempo < x.1 * 256)
    (hfar : s.player.armed = true → ∀ l, s.player.loop = some l → s.player.acc + s.player.tempo < l.2 * 256)
    (hmore : s.player.cursor < (s.store.entry tk).count) :
    exec .playerTick s = .next s.ticked ∧ exec .loopJump s = .next s ∧ exec .takeEnd s = .next s := by
  have hnone : tickEmission s = s.ticked := tickEmission_none ht hmarkers fun y ys hy => by
    cases hleft.symm.trans hy
    exact not_due_of_late hlate
  have hjump : jumpDue s.ticked = none := Option.eq_none_iff_forall_ne_some.2 fun a ha => by
    obtain ⟨-, harmed, b, hl, hb⟩ := jumpDue_eq_some.1 ha
    have hlt := hfar harmed (a, b) hl
    have hle : b * 256 ≤ s.player.acc + s.player.tempo := hb
    exact absurd hle (Nat.not_le.2 hlt)
  have hend : endDue s.ticked = false := Bool.eq_false_of_not_eq_true fun h => by
    have hcount := (endDue_iff.1 h).2.2
    rw [playedEntry_of (s := s.ticked) ht] at hcount
    exact absurd hcount (Nat.not_le.2 hmore)
  have hsettled : chooseTx s.ticked = s.ticked := chooseTx_of_settled hs.2
  obtain ⟨htick, hjumpRow, hendRow⟩ := rows_stay hs hp ht (hnone ▸ hjump) (hnone ▸ hend)
  rw [hnone] at htick
  exact ⟨htick.trans (congrArg Host.Outcome.next hsettled), hjumpRow, hendRow⟩

theorem rows_one {x y : Nat × Record} {rest : List (Nat × Record)}
    (hleft : (s.store.timed tk).drop s.player.cursor = x :: y :: rest) (hdue : x.1 * 256 ≤ s.player.acc + s.player.tempo)
    (hlate : s.player.acc + s.player.tempo < y.1 * 256) (harmed : s.player.armed = false) (hwait : s.guide.wait = false)
    (hexpected : s.guide.expected = KeySet.none) (hmore : s.player.cursor + 1 < (s.store.entry tk).count) :
    exec .playerTick s = .next { emitRecord x.2 s.ticked with link := (emitRecord x.2 s.ticked).link.transmit } ∧
      exec .loopJump s = .next s ∧ exec .takeEnd s = .next s := by
  have hunbound : s.ticked.player.bound = none := by
    rw [Player.bound, show s.ticked.player.armed = false from harmed]
    rfl
  have hyes : s.ticked.player.due x.1 = true := due_iff.2 ⟨hdue, fun b hb => (by cases hunbound.symm.trans hb)⟩
  obtain ⟨hguide, -⟩ := emitRecord_unguided x.2 (s := s.ticked) hwait
  have hplayer := emitRecord_player x.2 s.ticked
  have hempty : ¬(groupEnds x.1 (y :: rest) = true ∧ (emitRecord x.2 s.ticked).guide.expected.isEmpty = false) := by
    rw [hguide, show s.ticked.guide.expected = KeySet.none from hexpected, isEmpty_none]
    exact fun h => Bool.noConfusion h.2
  have hone : tickEmission s = emitRecord x.2 s.ticked := by
    rw [tickEmission_unmarked ht hmarkers, hleft, emitDue_of_due hyes, if_neg hempty,
      emitDue_of_not_due (not_due_of_late hlate)]
  have harmed' : (emitRecord x.2 s.ticked).player.armed = false := by
    rw [hplayer]
    exact harmed
  have htake : (emitRecord x.2 s.ticked).player.take = some tk := by
    rw [hplayer]
    exact ht
  have hcursor : (emitRecord x.2 s.ticked).player.cursor = s.player.cursor + 1 := by
    rw [hplayer]
    rfl
  have hgrown : (s.store.entry tk).count ≤ ((emitRecord x.2 s.ticked).store.entry tk).count :=
    emitRecord_count x.2 s.ticked tk
  have hjump : jumpDue (tickEmission s) = none := Option.eq_none_iff_forall_ne_some.2 fun a ha => by
    have hset := (jumpDue_eq_some.1 ha).2.1
    rw [hone, harmed'] at hset
    cases hset
  have hend : endDue (tickEmission s) = false := Bool.eq_false_of_not_eq_true fun h => by
    have hcount := (endDue_iff.1 h).2.2
    rw [hone, playedEntry_of htake, hcursor] at hcount
    exact absurd (hgrown.trans hcount) (Nat.not_le.2 hmore)
  obtain ⟨htick, hjumpRow, hendRow⟩ := rows_stay hs hp ht hjump hend
  rw [hone] at htick
  exact ⟨htick, hjumpRow, hendRow⟩

theorem rows_reach {a b : Nat} (harmed : s.player.armed = true) (hloop : s.player.loop = some (a, b))
    (hreach : b * 256 ≤ s.player.acc + s.player.tempo)
    (hfirst : ∀ x rest, (s.store.timed tk).drop s.player.cursor = x :: rest → b ≤ x.1) :
    exec .playerTick s = .next { loopJump a s.ticked with link := (loopJump a s.ticked).link.transmit } ∧
      exec .loopJump s = .next { loopJump a s.ticked with link := (loopJump a s.ticked).link.transmit } ∧
      exec .takeEnd s = .next s := by
  have hnone : tickEmission s = s.ticked := tickEmission_none ht hmarkers fun x rest hleft =>
    Bool.eq_false_of_not_eq_true fun h =>
      absurd (hfirst x rest hleft) (Nat.not_le.2 ((due_iff.1 h).2 b (bound_eq_some.2 ⟨harmed, a, hloop⟩)))
  have hjump : jumpDue (tickEmission s) = some a := by
    rw [hnone]
    exact jumpDue_eq_some.2 ⟨hp, harmed, b, hloop, hreach⟩
  have hrows := rows_jump hs hp ht hjump
  rwa [hnone] at hrows

theorem rows_past (harmed : s.player.armed = false) (hpast : (s.store.entry tk).count ≤ s.player.cursor)
    (hleft : (s.store.timed tk).drop s.player.cursor = []) :
    exec .playerTick s = .next { stopPlayer .ended s.ticked with link := (stopPlayer .ended s.ticked).link.transmit } ∧
      exec .takeEnd s = .next { stopPlayer .ended s.ticked with link := (stopPlayer .ended s.ticked).link.transmit } ∧
      exec .loopJump s = .next s := by
  have hnone : tickEmission s = s.ticked := tickEmission_none ht hmarkers fun x rest h => by
    cases hleft.symm.trans h
  have hjump : jumpDue s.ticked = none := Option.eq_none_iff_forall_ne_some.2 fun a ha => by
    cases harmed.symm.trans (jumpDue_eq_some.1 ha).2.1
  have hend : endDue s.ticked = true :=
    endDue_iff.2 ⟨hp, fun a ha => (by cases hjump.symm.trans ha), by rw [playedEntry_of (s := s.ticked) ht]; exact hpast⟩
  have hrows := rows_end hs hp ht (hnone ▸ hjump) (hnone ▸ hend)
  rwa [hnone] at hrows

end

/-- What a jump leaves of the context. -/
theorem loopJump_spec {s : State} (hp : s.player.state = .playing) (a : Nat) :
    (loopJump a s).player.still = (Player.nextPass { s.player with acc := a * 256, takePedals := s.player.snapshot }).still ∧
    ((loopJump a s).player.state = .playing ∨ (loopJump a s).player.state = .waiting) ∧
    (s.guide.wait = false → (loopJump a s).player.state = .playing ∧ (loopJump a s).guide.expected = KeySet.none) := by
  have hemitted := loopJump_emitted a s
  have hplayer := passed_player s a
  have hstarted : (s.passed a).player.state = .playing := by
    rw [hplayer]
    exact hp
  refine ⟨?_, hemitted.state.imp (fun h => h.trans hstarted) id, fun hwait => ?_⟩
  · rw [hemitted.still, hplayer]
    rfl
  · have hguide : (s.jumpMarked a).guide = (s.passed a).guide := reportMarkers_field State.guide (fun _ _ => rfl) _ _
    obtain ⟨hkept, -, hstate⟩ := emitDue_unguided (fun time => decide (time ≤ a)) (ahead (s.jumpMarked a))
      (s := s.jumpMarked a) (by rw [hguide, passed_wait]; exact hwait) (by rw [hguide, passed_expected])
    rw [loopJump_eq]
    refine ⟨hstate.trans ?_, (congrArg Guide.expected hkept).trans (by rw [hguide, passed_expected])⟩
    rw [jumpMarked_player, hstarted]

/-- Settles O57: a tick emits what is due, then jumps, ends or stays, and the two rows are the tick that does so. -/
theorem playerTicksEmitJumpAndEnd : Obligations.PlayerTicksEmitJumpAndEnd := by
  unfold Obligations.PlayerTicksEmitJumpAndEnd
  intro formed follow readPast route emit told waiting markers ahead offs routeAll jumped ended
  have hread (s : State) (b : Body) : readPast s b = s.withPlayer (s.player.read b) := by
    cases b <;> rfl
  have hemit (r : Record) (s : State) : emit r.body s = emitRecord r s := by
    have hformed : formed s r.body = s.player.eventOf r.body := by cases r.body <;> rfl
    show (match formed s r.body with
      | some kind => route kind (readPast s r.body)
      | none => readPast s r.body) = _
    rw [hformed, hread, emitRecord]
    cases s.player.eventOf r.body <;> rfl
  have hjumped (a : Nat) (tk : TakeId) (v : State) (ht : v.player.take = some tk) : jumped a tk v (loopJump a v) := by
    obtain ⟨w, hw⟩ : ∃ w, w = v.passed a := ⟨_, rfl⟩
    have hform : w = v.jumpPassed a tk := hw.trans (passed_eq ht a)
    have htake : (reportMarkers (fun m => decide (m = a)) w).player.take = some tk := by
      rw [reportMarkers_field State.player (fun _ _ => rfl), hw, passed_player]
      exact ht
    refine ⟨reportMarkers (fun m => decide (m = a)) w, ⟨w.player.reached fun m => decide (m = a), reached_pairwise ..,
      fun i m => ?_, (reportMarkers_eq ..).trans ?_⟩, ?_⟩
    · show _ ↔ (v.jumpPassed a tk).player.markers.get i = some m ∧ m = a
      rw [← hform, mem_reached, decide_eq_true_eq]
    · exact congrArg (fun u => (w.player.reached fun m => decide (m = a)).foldl
        (fun u x => raise (.marker x.1.val x.2) u) u) hform
    · rw [loopJump_eq, State.jumpMarked, ← hw, ahead_of htake]
  have hended (tk : TakeId) (v : State) (ht : v.player.take = some tk) : ended tk v = stopPlayer .ended v := by
    have hform (u : State) (hu : u = closePlayer v) : ended tk v = told { u with
        engine := { u.engine with playback := { u.engine.playback with damper := 0 } }
        guide := { u.guide with expected := KeySet.none }
        router := { u.router with recent := [] }
        store := u.store.withEntry tk { u.store.entry tk with played := false }
        player := { u.player with take := none, state := .stopped } }
        (.playerState .stopped (some tk) .ended (v.player.acc / 256) 0) := by
      subst hu
      rfl
    rw [hform _ rfl, stopPlayer_eq ht, State.silenced, State.playerStopped]
    generalize closePlayer v = u
    rfl
  refine ⟨fun due s => ⟨rfl, fun time r rest => ?_⟩, fun s hs hidle => ?_, ?_, ?_⟩
  · cases hdue : due time with
    | false => exact emitDue_of_not_due (x := (time, r)) hdue rest s
    | true =>
      refine (emitDue_of_due (x := (time, r)) hdue rest s).trans (Eq.trans ?_ (if_pos rfl).symm)
      rw [hemit]
      refine if_congr (and_congr (by cases rest <;> rfl) ?_) rfl rfl
      rw [← Bool.not_eq_true, isEmpty_iff, not_forall]
      simp only [Bool.not_eq_false]
  · exact ⟨exec_playerTick_idle hs (takePlayerTick_idle hidle), exec_loopJump_idle hs (takeLoopJump_idle (.inl hidle)),
      exec_takeEnd_idle hs (takeTakeEnd_idle (.inl hidle))⟩
  · intro s tk hs hp ht acc armedAt reached
    have hbound (b : Nat) : armedAt b ↔ s.player.bound = some b := bound_eq_some.symm
    refine ⟨s.marked, ⟨s.ticked.player.reached s.player.reaches, reached_pairwise .., fun i m => ?_, reportMarkers_eq ..⟩, ?_⟩
    · rw [mem_reached, reaches_iff]
      simp only [← hbound]
      rfl
    · intro due hdue v jump ending
      have hv : v = tickEmission s := by
        have hsame : due = s.ticked.player.due := funext fun time => by
          rw [Bool.eq_iff_iff, hdue, due_iff]
          simp only [hbound]
          rfl
        rw [tickEmission_eq ht, ← hsame]
      clear_value v
      subst hv
      have hstill := tickEmission_still ht
      have hacc : (tickEmission s).player.acc = acc := (congrArg Player.acc hstill :)
      have harmed : (tickEmission s).player.armed = s.player.armed := (congrArg Player.armed hstill :)
      have hloop : (tickEmission s).player.loop = s.player.loop := (congrArg Player.loop hstill :)
      have htake : (tickEmission s).player.take = some tk := (congrArg Player.take hstill :).trans ht
      have hjump (a : Nat) : jump a ↔ jumpDue (tickEmission s) = some a := by
        rw [jumpDue_eq_some, hacc, harmed, hloop]
      have hending : ending ↔ endDue (tickEmission s) = true := by
        rw [endDue_iff, playedEntry_of htake]
        simp only [ne_eq, ← hjump, ← not_exists]
        rfl
      have hnone (h : ¬∃ a, jump a) : jumpDue (tickEmission s) = none :=
        Option.eq_none_iff_forall_ne_some.2 fun a ha => h ⟨a, (hjump a).2 ha⟩
      refine ⟨fun a ha => ⟨_, hjumped a tk _ htake, rows_jump hs hp ht ((hjump a).1 ha)⟩, fun hend => ?_, fun hno hend => ?_⟩
      · rw [hended tk _ htake]
        exact rows_end hs hp ht (hnone hend.2.1) (hending.1 hend)
      · exact rows_stay hs hp ht (hnone hno) (Bool.eq_false_of_not_eq_true fun h => hend (hending.2 h))
  · intro s tk hs hp ht hmarkers acc ticked left
    refine ⟨fun x rest hleft hlate hfar hmore => rows_undue hs hp ht hmarkers hleft hlate hfar hmore, ?_, ?_, ?_⟩
    · intro x y rest hleft hdue hlate harmed hwait hnone hmore t
      have hrows := rows_one hs hp ht hmarkers hleft hdue hlate harmed hwait hnone hmore
      obtain ⟨hguide, hrouter⟩ := emitRecord_unguided x.2 (s := s.ticked) hwait
      have hplayer := emitRecord_player x.2 s.ticked
      have hout := (emitRecord_emitted x.2 s.ticked).outside
      have hform : t = emitRecord x.2 s.ticked := hemit x.2 s.ticked
      clear_value t
      subst hform
      refine ⟨hrows.1, hrows.2.1, hrows.2.2, ?_, hrouter, hguide, outsidePlayer_trans (withPlayer_outside s _) hout⟩
      rw [hread, hplayer]
      rfl
    · intro a b harmed hloop hreach hfirst hpasses
      obtain ⟨htick, hjump, hend⟩ := rows_reach hs hp ht hmarkers harmed hloop hreach hfirst
      obtain ⟨hstill, hstate, hguided⟩ := loopJump_spec (s := s.ticked) hp a
      have honly := loopJump_only a s.ticked
      refine ⟨hjump.trans htick.symm, hend, _, hjump, ?_⟩
      clear htick hjump
      generalize loopJump a s.ticked = t at hstill hstate hguided honly ⊢
      have hindex : t.player.passIndex = (s.player.passIndex + 1) % (s.player.listen + s.player.practice) :=
        (congrArg Player.passIndex hstill :)
      refine ⟨(congrArg Player.acc hstill :), (congrArg Player.take hstill :).trans ht, hindex, ?_, ?_,
        (congrArg Player.armed hstill :).trans harmed, (congrArg Player.loop hstill :).trans hloop, hstate, hguided,
        outsidePlayer_trans (withPlayer_outside s _) honly.1⟩
      · show t.player.passKind = if t.player.passIndex < s.player.listen then .listen else .practice
        rw [hindex]
        exact (congrArg Player.passKind hstill :)
      · exact (congrArg Player.passNumber hstill :).trans (Nat.min_comm ..)
    · intro harmed hpast hleft
      obtain ⟨htick, hend, hjump⟩ := rows_past hs hp ht hmarkers harmed hpast hleft
      refine ⟨hend.trans htick.symm, hjump, _, hend, ?_⟩
      obtain ⟨hplayer, hexpected, hrecent, hplayed, hdamper, hdown, hout, -⟩ := stopPlayer_spec .ended s.ticked
      clear htick hend
      generalize stopPlayer .ended s.ticked = t at hplayer hexpected hrecent hplayed hdamper hdown hout ⊢
      exact ⟨hplayer, hexpected, hrecent, hplayed tk ht, hdamper, hdown, outsidePlayer_trans (withPlayer_outside s _) hout⟩

end Sys2Proof.Machine
end

section
/-! PROOFS. The frames behind the one the decoder takes: no command reads or moves them, so it acts with them as it
would without them; the transmitter's events (sections 11.1, 11.3, 11.4). -/

namespace Sys2Proof.Machine

open Sys2Proof.StepRows

/-! ### The frames that wait, and what a command does with them -/

/-- The state with these frames in the intake. -/
def State.holding (fs : List Frame) (s : State) : State := s.withLink { s.link with intake := fs }

section
variable (fs : List Frame)

theorem place_holding (l : Link) (n : Notice) :
    Link.place { l with intake := fs } n = { l.place n with intake := fs } := by
  unfold Link.place
  dsimp only
  split
  · rfl
  · cases lowestClass l.notices with
    | none => rfl
    | some c => exact (apply_ite (fun l : Link => { l with intake := fs }) (c < n.cls)
        { l with notices := removeNewest c l.notices ++ [n], lost := true } { l with lost := true }).symm

theorem Link.eq_of_intake {l m : Link} (hin : l.intake = m.intake)
    (h : { l with intake := fs } = { m with intake := fs }) : l = m := by
  cases l
  cases m
  obtain rfl := hin
  injection h with h1 h2 h3 h4 _ h6 h7 h8 h9 h10 h11 h12
  congr

theorem passive_holding : Passive (State.holding fs) := by
  constructor
  case raise => exact fun b s => congrArg s.withLink (place_holding fs s.link ⟨b, s.link.classes.get b.kind, s.clock.ms⟩)
  case link =>
    exact fun s t h =>
      ⟨Link.eq_of_intake fs (congrArg Link.intake h :), congrArg fun l : Link => { l with intake := fs }⟩
  all_goals first
    | exact fun _ => rfl
    | exact fun _ _ => rfl

/-- A choice that both sides make alike commutes when each of its outcomes does. -/
theorem holding_ite {p p' : Prop} [Decidable p] [Decidable p'] {a b a' b' : State} (hp : p' ↔ p)
    (ha : a' = a.holding fs) (hb : b' = b.holding fs) :
    (if p' then a' else b') = (if p then a else b).holding fs := by
  by_cases h : p
  · rw [if_pos h, if_pos (hp.2 h), ha]
  · rw [if_neg h, if_neg (h ∘ hp.1), hb]

theorem Commutes.comp {φ f g : State → State} (hf : Commutes φ f) (hg : Commutes φ g) :
    Commutes φ fun s => f (g s) :=
  fun s => (congrArg f (hg s)).trans (hf (g s))

/-! ### The blocks' own steps -/

theorem playbackEvents_holding (ks : List EventKind) : Commutes (State.holding fs) (playbackEvents ks) :=
  Commutes.foldl (fun k s => (passive_holding fs).routeEvent ⟨.playback, s.clock.us, k⟩ s) ks

theorem reportMarkers_holding (p : Nat → Bool) : Commutes (State.holding fs) (reportMarkers p) :=
  Commutes.foldl (fun i s => by
    dsimp only
    rw [(passive_holding fs).player]
    cases s.player.markers.get i with
    | none => rfl
    | some m => exact holding_ite fs Iff.rfl ((passive_holding fs).raise _ _) rfl) _

theorem clearExpected_holding : Commutes (State.holding fs) clearExpected :=
  (passive_holding fs).setExpected _

theorem clearRecent_holding : Commutes (State.holding fs) clearRecent :=
  (passive_holding fs).setRecent _

theorem closePlayer_holding : Commutes (State.holding fs) closePlayer := fun s =>
  playbackEvents_holding fs s.player.closing (s.withPlayer { s.player with openKeys := KeySet.none, emitted := {} })

theorem clearPlayed_holding (t : Option TakeId) : Commutes (State.holding fs) (clearPlayed t) := by
  cases t with
  | none => exact fun _ => rfl
  | some t => exact fun _ => rfl

theorem engineStop_holding : Commutes (State.holding fs) engineStop := fun _ => rfl

theorem withPlayer_holding (g : Player → Player) : Commutes (State.holding fs) fun s => s.withPlayer (g s.player) :=
  fun _ => rfl

theorem reposition_holding (T : Nat) (target : Pedals3) : Commutes (State.holding fs) (reposition T target) := fun s =>
  playbackEvents_holding fs (s.player.offs ++ s.player.emitted.bring target) (s.withPlayer { s.player with
    openKeys := KeySet.none, acc := T * 256, cursor := cursorAt T s, takePedals := target, emitted := target })

theorem stopPlayer_holding (c : PlayCause) : Commutes (State.holding fs) (stopPlayer c) := fun s =>
  (((passive_holding fs).playerNotice s.player.take c).comp <|
    (withPlayer_holding fs fun p => { p with take := none, state := .stopped }).comp <|
      (clearPlayed_holding fs s.player.take).comp <| (clearRecent_holding fs).comp <|
        (clearExpected_holding fs).comp <| (engineStop_holding fs).comp (closePlayer_holding fs)) s

/-- The Player's notice names the take of the state it is raised in. -/
theorem ownNotice_holding (c : PlayCause) :
    Commutes (State.holding fs) fun s => playerNotice s.player.take c s := fun s =>
  (passive_holding fs).playerNotice s.player.take c s

theorem pausePlayer_holding : Commutes (State.holding fs) pausePlayer :=
  (ownNotice_holding fs .pause).comp <|
    (withPlayer_holding fs fun p => { p with state := .paused }).comp <|
      (clearExpected_holding fs).comp <| (engineStop_holding fs).comp (closePlayer_holding fs)

theorem resumePlayer_holding : Commutes (State.holding fs) resumePlayer := fun s =>
  ((ownNotice_holding fs .resume).comp <|
    (withPlayer_holding fs fun p => { p with state := .playing }).comp <|
      playbackEvents_holding fs s.player.takePedals.chase)
    (s.withPlayer { s.player with emitted := s.player.takePedals })

theorem startPlayer_holding (t : TakeId) (start : Nat) : Commutes (State.holding fs) (startPlayer t start) := fun s => by
  rw [startPlayer_eq, startPlayer_eq]
  exact (((passive_holding fs).playerNotice (some t) .play).comp <|
    (reportMarkers_holding fs fun m => decide (m = start)).comp <|
      playbackEvents_holding fs (s.store.scan t start).chase) (s.playStarted t start)

theorem located_holding (T : Nat) : Commutes (State.holding fs) fun s => s.located T := fun s =>
  ((withPlayer_holding fs fun p => { p with state := .playing, armed := p.armedAt T }).comp <|
    (clearExpected_holding fs).comp (reposition_holding fs T (playedScan T s))) s

theorem locatePlaying_holding (T : Nat) : Commutes (State.holding fs) (locatePlaying T) := fun s => by
  have hmoved := located_holding fs T s
  show playerNotice ((s.holding fs).located T).player.take .locate
      (reportMarkers (fun m => decide (m = T)) ((s.holding fs).located T)) =
    (playerNotice (s.located T).player.take .locate (reportMarkers (fun m => decide (m = T)) (s.located T))).holding fs
  dsimp only at hmoved
  rw [hmoved]
  exact (((passive_holding fs).playerNotice (s.located T).player.take .locate).comp
    (reportMarkers_holding fs fun m => decide (m = T))) (s.located T)

theorem locatePaused_holding (T : Nat) : Commutes (State.holding fs) (locatePaused T) := fun s =>
  ((ownNotice_holding fs .locate).comp (clearExpected_holding fs)) (s.withPlayer { s.player with
    acc := T * 256, cursor := cursorAt T s, takePedals := playedScan T s, armed := s.player.armedAt T })

theorem railChange_holding (r shown : Rail) (c : RailCause) (why : RailReason) :
    Commutes (State.holding fs) (railChange r shown c why) := fun s =>
  (passive_holding fs).raise _ (s.withRail r)

theorem railMovesOn_holding (st : RailState) (c : RailCause) (was : Rail) :
    Commutes (State.holding fs) (railMovesOn st c was) := fun s =>
  railChange_holding fs _ _ _ _ (s.withChoices (s.choices + 1))

theorem railReturned_holding (og : RailOrigin) (was : Rail) :
    Commutes (State.holding fs) (railReturned og was) := fun s => by
  cases og with
  | retracted => exact holding_ite fs Iff.rfl rfl (railMovesOn_holding fs _ _ _ s)
  | engaged => exact holding_ite fs Iff.rfl rfl (railMovesOn_holding fs _ _ _ s)
  | unknown =>
    exact holding_ite fs Iff.rfl (railMovesOn_holding fs _ _ _ s)
      (holding_ite fs Iff.rfl (railMovesOn_holding fs _ _ _ s) rfl)

theorem railReturn_holding (c : RailCause) (why : RailReason) :
    Commutes (State.holding fs) (railReturn c why) := fun s =>
  ((railReturned_holding fs (s.rail.origin.getD .unknown) s.rail).comp
    (railChange_holding fs (s.rail.enterRest (s.rail.origin.getD .unknown).state none) s.rail c why)) s

theorem railKeyboard_holding (clear : Bool) : Commutes (State.holding fs) (railKeyboard clear) := fun s => by
  unfold railKeyboard
  rw [show (s.holding fs).rail = s.rail from rfl]
  cases s.rail.state with
  | waitClear => rfl
  | paused => rfl
  | moving => exact holding_ite fs Iff.rfl rfl (railChange_holding fs _ _ _ _ s)
  | unknown => rfl
  | retracted => rfl
  | engaged => rfl
  | fault => rfl

theorem noteKeyboard_holding (was : Bool) : Commutes (State.holding fs) (noteKeyboard was) := fun s =>
  holding_ite fs Iff.rfl rfl (railKeyboard_holding fs (keyboardClear s) s)

theorem railArrive_holding (e : RailEnd) : Commutes (State.holding fs) (railArrive e) := fun s =>
  railChange_holding fs (s.rail.enterRest e.state none) s.rail .arrived .none s

theorem answer_holding (code : Byte) (st : Status) : Commutes (State.holding fs) (answer code st) := fun _ => rfl

theorem answerData_holding (code : Byte) (d : List Byte) : Commutes (State.holding fs) (answerData code d) :=
  fun _ => rfl

theorem railBegin_holding (e : RailEnd) (og : RailOrigin) : Commutes (State.holding fs) (railBegin e og) := fun s =>
  ((answer_holding fs 0x28#8 .accepted).comp
    (railChange_holding fs (s.rail.startWait e og (keyboardClear s)) (s.rail.startWait e og (keyboardClear s))
      .wait .none)) s

theorem railReverse_holding (e : RailEnd) : Commutes (State.holding fs) (railReverse e) := fun s =>
  holding_ite fs Iff.rfl (((railArrive_holding fs e).comp (railChange_holding fs _ _ _ _)) s)
    (railChange_holding fs _ _ _ _ s)

theorem railUnderWay_holding (e : RailEnd) : Commutes (State.holding fs) (railUnderWay e) := fun s => by
  refine holding_ite fs Iff.rfl rfl ?_
  rw [show (s.holding fs).rail = s.rail from rfl]
  cases s.rail.state
  case waitClear =>
    exact holding_ite fs Iff.rfl (((answer_holding fs _ _).comp (railReturn_holding fs _ _)) s)
      (((answer_holding fs _ _).comp (railChange_holding fs _ _ _ _)) s)
  case moving => exact ((answer_holding fs _ _).comp (railReverse_holding fs e)) s
  all_goals exact ((answer_holding fs _ _).comp (railChange_holding fs _ _ _ _)) s

theorem recalibrate_holding (k : Key) (g : KeyRecord → KeyRecord) :
    Commutes (State.holding fs) fun s => recalibrate k (g (s.keys.get k)) s := fun s =>
  holding_ite fs Iff.rfl ((passive_holding fs).routeEvent ⟨.live, s.clock.us, .noteOff k false⟩ (s.withKey k _)) rfl

theorem copyRollback_holding (j : CopyJob) (r : EditResult) : Commutes (State.holding fs) (copyRollback j r) := fun s => by
  unfold copyRollback copyDone
  exact (passive_holding fs).raise _ (editIdle ((s.withStore (s.store.rollback j.dst j.saved)).withStore
    ((s.store.rollback j.dst j.saved).setRead j.src false)))

theorem searchDone_holding (j : SearchJob) (r : EditResult) (n t : Nat) :
    Commutes (State.holding fs) (searchDone j r n t) := fun s => by
  unfold searchDone
  exact (passive_holding fs).raise _ (editIdle (s.withStore (s.store.setRead j.take false)))

theorem scaleDone_holding (j : ScaleJob) (r : EditResult) : Commutes (State.holding fs) (scaleDone j r) := fun s => by
  unfold scaleDone
  exact (passive_holding fs).raise _ (editIdle (s.withStore (s.store.setState j.take .ready)))

/-! ### The commands -/

section
variable (s : State)

theorem cmdLoadMap_holding (k n : Byte) (rh rd : W16) (p : Byte) (ls : List LayerArg) :
    cmdLoadMap k n rh rd p ls (s.holding fs) = (cmdLoadMap k n rh rd p ls s).holding fs := by
  refine holding_ite fs Iff.rfl rfl ?_
  cases keyOf k with
  | none => rfl
  | some k => exact holding_ite fs Iff.rfl rfl (holding_ite fs Iff.rfl rfl (holding_ite fs Iff.rfl rfl rfl))

theorem cmdTakeOpen_holding (t : Byte) : cmdTakeOpen t (s.holding fs) = (cmdTakeOpen t s).holding fs := by
  unfold cmdTakeOpen
  cases takeOf t with
  | none => rfl
  | some t => exact holding_ite fs Iff.rfl rfl (holding_ite fs Iff.rfl rfl rfl)

theorem cmdTakeWrite_holding (t n : Byte) (rs : List RawRecord) :
    cmdTakeWrite t n rs (s.holding fs) = (cmdTakeWrite t n rs s).holding fs := by
  refine holding_ite fs Iff.rfl rfl ?_
  rw [show (s.holding fs).bulk = s.bulk from rfl]
  cases s.bulk with
  | none => rfl
  | some w =>
    refine holding_ite fs Iff.rfl rfl ?_
    cases checkRecords w.ctx rs with
    | none => rfl
    | some p => exact holding_ite fs Iff.rfl rfl rfl

theorem cmdTakeClose_holding (t : Byte) : cmdTakeClose t (s.holding fs) = (cmdTakeClose t s).holding fs := by
  unfold cmdTakeClose
  rw [show (s.holding fs).bulk = s.bulk from rfl]
  cases s.bulk with
  | none => rfl
  | some w => exact holding_ite fs Iff.rfl rfl rfl

theorem cmdTakeRead_holding (t : Byte) (i : W16) (n : Byte) :
    cmdTakeRead t i n (s.holding fs) = (cmdTakeRead t i n s).holding fs := by
  unfold cmdTakeRead
  cases takeOf t with
  | none => rfl
  | some t => exact holding_ite fs Iff.rfl rfl (holding_ite fs Iff.rfl rfl (holding_ite fs Iff.rfl rfl rfl))

theorem cmdTakeErase_holding (t : Byte) : cmdTakeErase t (s.holding fs) = (cmdTakeErase t s).holding fs := by
  unfold cmdTakeErase
  cases takeOf t with
  | none => rfl
  | some t => exact holding_ite fs Iff.rfl rfl (holding_ite fs Iff.rfl rfl rfl)

theorem cmdRecordStart_holding (t m : Byte) :
    cmdRecordStart t m (s.holding fs) = (cmdRecordStart t m s).holding fs := by
  unfold cmdRecordStart
  cases takeOf t with
  | none => rfl
  | some t =>
    cases appendOf m with
    | none => rfl
    | some app => exact holding_ite fs Iff.rfl rfl (holding_ite fs Iff.rfl rfl (holding_ite fs Iff.rfl rfl rfl))

theorem cmdRecordStop_holding : cmdRecordStop (s.holding fs) = (cmdRecordStop s).holding fs := by
  unfold cmdRecordStop
  rw [show (s.holding fs).recorder = s.recorder from rfl]
  cases s.recorder with
  | none => rfl
  | some r =>
    dsimp only
    rw [(passive_holding fs).recordOverdueGaps r.time s]
    generalize recordOverdueGaps r.time s = u
    rw [show (u.holding fs).recorder = u.recorder from rfl]
    cases u.recorder with
    | none => rfl
    | some r => exact (passive_holding fs).endRecording r .stopped r.time (answer 0x31#8 .ok u)

theorem cmdSetGuide_holding (w : Byte) (g : W16) : cmdSetGuide w g (s.holding fs) = (cmdSetGuide w g s).holding fs := by
  unfold cmdSetGuide
  cases switchOf w with
  | none => rfl
  | some w =>
    refine holding_ite fs Iff.rfl rfl ?_
    cases w with
    | true => rfl
    | false =>
      exact ((answer_holding fs _ _).comp <| (passive_holding fs).releaseWait.comp (clearExpected_holding fs))
        (s.withGuide { s.guide with wait := false, grace := g.toNat })

theorem cmdGuideSkip_holding : cmdGuideSkip (s.holding fs) = (cmdGuideSkip s).holding fs :=
  ((answer_holding fs _ _).comp <| (passive_holding fs).releaseWait.comp (clearExpected_holding fs)) s

theorem cmdPlay_holding (t : Byte) (ms : W32) : cmdPlay t ms (s.holding fs) = (cmdPlay t ms s).holding fs := by
  unfold cmdPlay
  cases takeOf t with
  | none => rfl
  | some t =>
    exact holding_ite fs Iff.rfl rfl (holding_ite fs Iff.rfl rfl (holding_ite fs Iff.rfl rfl
      (holding_ite fs Iff.rfl rfl (((answer_holding fs _ _).comp (startPlayer_holding fs t ms.toNat)) s))))

theorem cmdStop_holding : cmdStop (s.holding fs) = (cmdStop s).holding fs :=
  holding_ite fs Iff.rfl rfl (((answer_holding fs _ _).comp (stopPlayer_holding fs .stop)) s)

theorem cmdPause_holding : cmdPause (s.holding fs) = (cmdPause s).holding fs := by
  unfold cmdPause
  rw [show (s.holding fs).player = s.player from rfl]
  cases s.player.state
  case stopped => rfl
  case paused => rfl
  all_goals exact ((answer_holding fs _ _).comp (pausePlayer_holding fs)) s

theorem cmdResume_holding : cmdResume (s.holding fs) = (cmdResume s).holding fs :=
  holding_ite fs Iff.rfl (((answer_holding fs _ _).comp (resumePlayer_holding fs)) s) rfl

theorem cmdLocate_holding (t : W32) : cmdLocate t (s.holding fs) = (cmdLocate t s).holding fs := by
  unfold cmdLocate
  rw [show (s.holding fs).player = s.player from rfl]
  cases s.player.state
  case stopped => rfl
  case paused =>
    exact holding_ite fs Iff.rfl rfl (((answer_holding fs _ _).comp (locatePaused_holding fs t.toNat)) s)
  all_goals exact holding_ite fs Iff.rfl rfl (((answer_holding fs _ _).comp (locatePlaying_holding fs t.toNat)) s)

theorem cmdSetLoop_holding (a b : W32) : cmdSetLoop a b (s.holding fs) = (cmdSetLoop a b s).holding fs :=
  holding_ite fs Iff.rfl rfl (holding_ite fs Iff.rfl rfl (holding_ite fs Iff.rfl rfl (holding_ite fs Iff.rfl rfl rfl)))

theorem cmdTakeCopy_holding (a : Byte) (f t : W32) (d m : Byte) :
    cmdTakeCopy a f t d m (s.holding fs) = (cmdTakeCopy a f t d m s).holding fs := by
  unfold cmdTakeCopy
  cases takeOf a with
  | none => rfl
  | some a =>
    cases takeOf d with
    | none => rfl
    | some d =>
      cases appendOf m with
      | none => rfl
      | some m =>
        exact holding_ite fs Iff.rfl rfl (holding_ite fs Iff.rfl rfl (holding_ite fs Iff.rfl rfl
          (holding_ite fs Iff.rfl rfl (holding_ite fs Iff.rfl rfl (holding_ite fs Iff.rfl rfl
            (holding_ite fs Iff.rfl rfl rfl))))))

theorem cmdTakeSearch_holding (t : Byte) (i : W16) (k lo hi vl vh : Byte) :
    cmdTakeSearch t i k lo hi vl vh (s.holding fs) = (cmdTakeSearch t i k lo hi vl vh s).holding fs := by
  unfold cmdTakeSearch
  cases takeOf t with
  | none => rfl
  | some t =>
    exact holding_ite fs Iff.rfl rfl (holding_ite fs Iff.rfl rfl (holding_ite fs Iff.rfl rfl
      (holding_ite fs Iff.rfl rfl rfl)))

theorem cmdTakeScale_holding (t : Byte) (f e : W32) (lo hi : Byte) (q : W16) (o : Byte) :
    cmdTakeScale t f e lo hi q o (s.holding fs) = (cmdTakeScale t f e lo hi q o s).holding fs := by
  unfold cmdTakeScale
  cases takeOf t with
  | none => rfl
  | some t =>
    exact holding_ite fs Iff.rfl rfl (holding_ite fs Iff.rfl rfl (holding_ite fs Iff.rfl rfl
      (holding_ite fs Iff.rfl rfl rfl)))

theorem cmdEditAbort_holding : cmdEditAbort (s.holding fs) = (cmdEditAbort s).holding fs := by
  unfold cmdEditAbort
  rw [show (s.holding fs).edit = s.edit from rfl]
  cases s.edit with
  | idle => rfl
  | copy j => exact copyRollback_holding fs j .aborted (answer 0x53#8 .ok s)
  | search j => exact searchDone_holding fs j .aborted j.index 0 (answer 0x53#8 .ok s)
  | scale j => exact scaleDone_holding fs j .aborted (answer 0x53#8 .ok s)

theorem cmdRail_holding (t : Byte) : cmdRail t (s.holding fs) = (cmdRail t s).holding fs := by
  unfold cmdRail
  cases railEndOf t with
  | none => rfl
  | some e =>
    rw [show (s.holding fs).rail = s.rail from rfl]
    cases s.rail.state
    case retracted => exact holding_ite fs Iff.rfl rfl (railBegin_holding fs e _ s)
    case engaged => exact holding_ite fs Iff.rfl rfl (railBegin_holding fs e _ s)
    case unknown => exact railBegin_holding fs e _ s
    case fault => rfl
    all_goals exact railUnderWay_holding fs e s

theorem cmdRailClear_holding : cmdRailClear (s.holding fs) = (cmdRailClear s).holding fs :=
  holding_ite fs Iff.rfl (((answer_holding fs _ _).comp (railChange_holding fs _ _ _ _)) s) rfl

theorem cmdLoadCal_holding (lo hi : Byte) (ps : List CalPair) :
    cmdLoadCal lo hi ps (s.holding fs) = (cmdLoadCal lo hi ps s).holding fs :=
  holding_ite fs Iff.rfl rfl (holding_ite fs Iff.rfl rfl (holding_ite fs Iff.rfl rfl
    (((answer_holding fs _ _).comp <| (noteKeyboard_holding fs (keyboardClear s)).comp <|
      Commutes.foldl (fun kp : Key × CalPair =>
        recalibrate_holding fs kp.1 fun k => k.loaded kp.2.rest.toNat kp.2.bottom.toNat)
        ((keysIn lo.toNat hi.toNat).zip ps)) s)))

theorem cmdCalStart_holding (lo hi : Byte) : cmdCalStart lo hi (s.holding fs) = (cmdCalStart lo hi s).holding fs :=
  holding_ite fs Iff.rfl rfl
    (((answer_holding fs _ _).comp <| (noteKeyboard_holding fs (keyboardClear s)).comp <|
      Commutes.foldl (fun k => recalibrate_holding fs k KeyRecord.captureStart) (keysIn lo.toNat hi.toNat)) s)

theorem cmdCalEnd_holding : cmdCalEnd (s.holding fs) = (cmdCalEnd s).holding fs :=
  holding_ite fs Iff.rfl rfl
    (((answerData_holding fs _ _).comp <| (noteKeyboard_holding fs (keyboardClear s)).comp <|
      Commutes.foldl (φ := State.holding fs) (f := fun s k => s.withKey k (judgeCapture (s.keys.get k)).2)
        (fun _ _ => rfl) (capturingKeys s)) s)

theorem cmdSetTouch_holding (a b c d : W16) (h : Byte) (t : W32) :
    cmdSetTouch a b c d h t (s.holding fs) = (cmdSetTouch a b c d h t s).holding fs :=
  holding_ite fs Iff.rfl
    (((answer_holding fs _ _).comp (noteKeyboard_holding fs (keyboardClear s))) (s.withTouch { s.touch with
      lRel := a.toNat, lS1 := b.toNat, lRep := c.toNat, lS2 := d.toNat, h := h.toNat, tSilent := t.toNat })) rfl

end

/-- Every command acts with frames behind it as it does without. -/
theorem runCommand_holding (i : Instr) : Commutes (State.holding fs) (runCommand i) := fun s => by
  cases i
  case loadCal lo hi ps => exact cmdLoadCal_holding fs s lo hi ps
  case calStart lo hi => exact cmdCalStart_holding fs s lo hi
  case calEnd => exact cmdCalEnd_holding fs s
  case setTouch a b c d h t => exact cmdSetTouch_holding fs s a b c d h t
  case setNoticeClass n c =>
    show cmdSetNoticeClass n c _ = (cmdSetNoticeClass n c s).holding fs
    unfold cmdSetNoticeClass
    split <;> rfl
  case setKeyGain lo hi g => exact holding_ite fs Iff.rfl rfl rfl
  case getKey k =>
    show cmdGetKey k _ = (cmdGetKey k s).holding fs
    unfold cmdGetKey
    cases keyOf k <;> rfl
  case setCurve c ss vs =>
    show cmdSetCurve c ss vs _ = (cmdSetCurve c ss vs s).holding fs
    unfold cmdSetCurve
    split <;> exact holding_ite fs Iff.rfl rfl rfl
  case setSoft a => exact holding_ite fs Iff.rfl rfl rfl
  case loadPedalCal p r f =>
    show cmdLoadPedalCal p r f _ = (cmdLoadPedalCal p r f s).holding fs
    unfold cmdLoadPedalCal
    cases pedalOf p with
    | none => rfl
    | some p => exact holding_ite fs Iff.rfl rfl rfl
  case setPedal a b c d e f w => exact holding_ite fs Iff.rfl rfl rfl
  case getPedal p =>
    show cmdGetPedal p _ = (cmdGetPedal p s).holding fs
    unfold cmdGetPedal
    cases pedalOf p <;> rfl
  case loadMap k n rh rd p ls => exact cmdLoadMap_holding fs s k n rh rd p ls
  case rail t => exact cmdRail_holding fs s t
  case railClear => exact cmdRailClear_holding fs s
  case recordStart t m => exact cmdRecordStart_holding fs s t m
  case recordStop => exact cmdRecordStop_holding fs s
  case takeErase t => exact cmdTakeErase_holding fs s t
  case takeOpen t => exact cmdTakeOpen_holding fs s t
  case takeWrite t n rs => exact cmdTakeWrite_holding fs s t n rs
  case takeClose t => exact cmdTakeClose_holding fs s t
  case takeRead t i n => exact cmdTakeRead_holding fs s t i n
  case play t ms => exact cmdPlay_holding fs s t ms
  case stop => exact cmdStop_holding fs s
  case pause => exact cmdPause_holding fs s
  case resume => exact cmdResume_holding fs s
  case locate t => exact cmdLocate_holding fs s t
  case setLoop a b => exact cmdSetLoop_holding fs s a b
  case setGuide w g => exact cmdSetGuide_holding fs s w g
  case guideSkip => exact cmdGuideSkip_holding fs s
  case takeCopy a f t d m => exact cmdTakeCopy_holding fs s a f t d m
  case takeSearch t i k lo hi vl vh => exact cmdTakeSearch_holding fs s t i k lo hi vl vh
  case takeScale t f e lo hi q o => exact cmdTakeScale_holding fs s t f e lo hi q o
  case editAbort => exact cmdEditAbort_holding fs s
  case getRoute r =>
    show cmdGetRoute r _ = (cmdGetRoute r s).holding fs
    unfold cmdGetRoute
    split <;> rfl
  case takeInfo t =>
    show cmdTakeInfo t _ = (cmdTakeInfo t s).holding fs
    unfold cmdTakeInfo
    cases takeOf t <;> rfl
  case setRoute r e ss k lo hi d =>
    show cmdSetRoute r e ss k lo hi d _ = (cmdSetRoute r e ss k lo hi d s).holding fs
    unfold cmdSetRoute
    split
    · exact holding_ite fs Iff.rfl rfl rfl
    · rfl
  case setOutput v l =>
    show cmdSetOutput v l _ = (cmdSetOutput v l s).holding fs
    unfold cmdSetOutput
    split
    · exact holding_ite fs Iff.rfl rfl rfl
    · rfl
  case setRail a b c d => exact holding_ite fs Iff.rfl rfl rfl
  case setTempo q => exact holding_ite fs Iff.rfl rfl rfl
  case setPasses l p => exact holding_ite fs Iff.rfl rfl rfl
  all_goals rfl

theorem runFrame_holding (f : Frame) : Commutes (State.holding fs) (runFrame f) := fun s => by
  unfold runFrame
  cases parseFrame f with
  | ok i => exact runCommand_holding fs i s
  | error st => rfl

end

/-! ### The transmitter's events -/

theorem runFrame_answers (f : Frame) (s : State) :
    (runFrame f s).link.slot.isSome = true ∧ (runFrame f s).link.tx = s.link.tx := by
  unfold runFrame
  cases hp : parseFrame f with
  | ok i => exact ⟨runCommand_slot (isCommand_of_parseFrame hp) s, (runCommand_link i s).1⟩
  | error st => exact ⟨rfl, rfl⟩

theorem chooseTx_of_sending {s : State} (h : s.link.tx.isSome = true) : chooseTx s = s := by
  rw [chooseTx, s.link.transmit_of_held (.inl h)]
  rfl

/-- The state in which the reply in the slot has gone to the line. -/
def State.sending (s : State) (r : Reply) : State :=
  s.withLink { s.link with cts := true, tx := some (.reply r), slot := none, intake := [] }

theorem holding_of_intake {fs : List Frame} {s : State} (h : s.link.intake = fs) : s.holding fs = s := by
  subst h
  rfl

/-- With a reply in the slot and a free line, the reply goes and the oldest frame is taken; its own reply closes the
decoder again. -/
theorem pump_reply {s : State} {r : Reply} {f : Frame} {rest : List Frame} (hr : s.running = true)
    (htx : s.link.tx = none) (hcts : s.link.cts = true) (hslot : s.link.slot = some r)
    (hawait : s.link.resetAwait = false) (hin : s.link.intake = f :: rest) :
    pump s = (runFrame f (s.sending r)).holding rest := by
  have hsent : chooseTx s = (s.sending r).holding (f :: rest) := by
    rw [chooseTx, (transmitterSendsRepliesThenClasses s.link).2.1 r htx hcts hslot, ← hin, State.holding, State.sending,
      ← hcts]
    rfl
  have htaken : takeCommand ((s.sending r).holding (f :: rest)) = (runFrame f (s.sending r)).holding rest := by
    rw [← runFrame_holding]
    exact if_pos (by simp [State.holding, State.sending, Link.decoderOpen, hawait])
  obtain ⟨hanswer, hline⟩ := runFrame_answers f (s.sending r)
  have hbusy : ((runFrame f (s.sending r)).holding rest).link.tx.isSome = true := by
    show (runFrame f (s.sending r)).link.tx.isSome = true
    rw [hline]
    rfl
  rw [pump, if_pos hr, hsent, htaken, chooseTx_of_sending hbusy]
  refine takeCommand_of_closed ?_
  simp [State.holding, Link.decoderOpen, Option.isSome_iff_ne_none.1 hanswer]

theorem exec_sending {s : State} {i : Instr} {r : Reply} {f : Frame} (hr : s.running = true)
    (hi : s.link.ignoring = false) (hawait : s.link.resetAwait = false) (hw : i.wf = true) (hf : frameOf i = some f) :
    exec i (s.sending r) = .next (runFrame f (s.sending r)) := by
  rw [exec_of_frame (s := s.sending r) ⟨hr, hi, by simp [State.sending, Link.decoderOpen, hawait], rfl⟩ hw hf,
    chooseTx_of_sending]
  rw [(runFrame_answers f (s.sending r)).2]
  rfl

theorem takeFrameSent_sent {s : State} {x : Sending} (hx : s.link.tx = some x)
    (hr : ∀ r, x = .reply r → r.resets = false) : takeFrameSent s = s.withLink { s.link with tx := none } := by
  unfold takeFrameSent
  rw [hx]
  cases x with
  | reply r => exact if_neg (by simp [hr r rfl])
  | notice n l => rfl

/-- Settles O18: after the reply has gone the oldest frame runs as its command on the line's new state; no command sees
the frames behind it. -/
theorem transmitterEventsChooseTheNextFrame : Obligations.TransmitterEventsChooseTheNextFrame := by
  refine ⟨fun s a hr hin => ?_, fun s h => ?_, fun s x hr hin hx hres => ?_,
    fun s x r i f hr hi hcts hx hres hslot hawait hw hf hin => ?_,
    fun s r i f rest hr hi hslot hawait hw hf hin => ?_⟩
  · rw [exec_eq]
    exact congrArg _ (pump_of_nil (s := takeCts a s) hr hin)
  · rw [exec_eq]
    exact congrArg _ (pump_steady (s := takeCts false s) ⟨h.1, h.2.1, .inr (.inl rfl)⟩)
  · rw [exec_eq]
    show Host.Outcome.next (pump (if s.running then takeFrameSent s else s)) = _
    rw [if_pos hr, takeFrameSent_sent hx hres]
    exact congrArg _ (pump_of_nil (s := s.withLink { s.link with tx := none }) hr hin)
  · have hsend : exec i { s with link := { s.link with tx := some (.reply r), slot := none, intake := [] } } =
        .next (runFrame f (s.sending r)) := by
      rw [← exec_sending hr hi hawait hw hf, State.sending, ← hcts]
      rfl
    rw [hsend, exec_eq]
    show Host.Outcome.next (pump (if s.running then takeFrameSent s else s)) = _
    rw [if_pos hr, takeFrameSent_sent hx hres,
      pump_reply (s := s.withLink { s.link with tx := none }) hr rfl hcts hslot hawait hin]
    exact congrArg _ (holding_of_intake (runFrame_intake f (s.sending r)))
  · refine ⟨_, exec_sending hr hi hawait hw hf, fun htx => ?_, fun x hx hres hcts => ?_⟩
    · rw [exec_eq]
      exact congrArg _ (pump_reply (s := takeCts true s) hr htx rfl hslot hawait hin)
    · rw [exec_eq]
      show Host.Outcome.next (pump (if s.running then takeFrameSent s else s)) = _
      rw [if_pos hr, takeFrameSent_sent hx hres]
      exact congrArg _ (pump_reply (s := s.withLink { s.link with tx := none }) hr rfl hcts hslot hawait hin)

end Sys2Proof.Machine
end

section
/-! PROOFS. The law of take use (R125): what each operation on the take store, the Recorder, the bulk writer and the Edit
Unit makes of it. -/

namespace Sys2Proof.Machine

open Sys2Proof.StepRows

/-! ### The law, take by take -/

/-- What the law of take use asks of one entry: which writer, player and reader have its take. -/
structure TakeEntry.Fits (e : TakeEntry) (recorded written edited played read : Prop) : Prop where
  recording : e.state = .recording ↔ recorded
  writing : e.state = .writing ↔ written
  editing : e.state = .editing ↔ edited
  played : e.played = true ↔ played
  read : e.read = true ↔ read
  ready : e.played = true ∨ e.read = true → e.state = .ready

/-- Every entry of a directory fits who records, writes, edits, plays and reads. -/
def Uses (entry : TakeId → TakeEntry) (recorded written edited played read : Option TakeId) : Prop :=
  ∀ t, (entry t).Fits (recorded = some t) (written = some t) (edited = some t) (played = some t) (read = some t)

/-- The law of take use with the played take given, without the Player. -/
structure UseLaw (played : Option TakeId) (s : State) : Prop where
  uses : Uses s.store.entry (s.recorder.map Recording.take) (s.bulk.map BulkWriting.take) s.edit.writes played s.edit.reads
  single : s.recorder = none ∨ s.bulk = none
  saved : ∀ j, s.edit = .copy j → j.saved.state = .empty ∨ j.saved.state = .ready

theorem takeLaw_iff (s : State) :
    TakeLaw s ↔ UseLaw s.player.take s ∧ (s.player.state = .stopped ↔ s.player.take = none) := by
  constructor
  · rintro ⟨hrec, hbulk, hedit, hone, hplayed, hread, hready, hstop, hsaved⟩
    exact ⟨⟨fun t => ⟨hrec t, hbulk t, hedit t, hplayed t, hread t, hready t⟩, hone, hsaved⟩, hstop⟩
  · rintro ⟨⟨huses, hone, hsaved⟩, hstop⟩
    exact ⟨fun t => (huses t).recording, fun t => (huses t).writing, fun t => (huses t).editing, hone,
      fun t => (huses t).played, fun t => (huses t).read, fun t => (huses t).ready, hstop, hsaved⟩

/-! ### One entry changes -/

theorem entry_setState (st : Store) (t o : TakeId) (x : TakeState) :
    (st.setState t x).entry o = if o = t then { st.entry t with state := x } else st.entry o :=
  entry_withEntry ..

/-- In no use: EMPTY or READY, without marks. -/
structure TakeEntry.Idle (e : TakeEntry) : Prop where
  state : e.state = .empty ∨ e.state = .ready
  played : e.played = false
  read : e.read = false

section
variable {f g : TakeId → TakeEntry} {r w x p d : Option TakeId}

theorem Uses.congr (h : Uses f r w x p d)
    (hg : ∀ t, (g t).state = (f t).state ∧ (g t).played = (f t).played ∧ (g t).read = (f t).read) : Uses g r w x p d := by
  intro t
  obtain ⟨hstate, hplayed, hread⟩ := hg t
  obtain ⟨h1, h2, h3, h4, h5, h6⟩ := h t
  exact ⟨hstate ▸ h1, hstate ▸ h2, hstate ▸ h3, hplayed ▸ h4, hread ▸ h5, hstate ▸ hplayed ▸ hread ▸ h6⟩

variable {t : TakeId} (hother : ∀ o, o ≠ t → g o = f o)
include hother

/-- The entry of one take changes, with what uses it. -/
theorem Uses.change {r' w' x' p' d' : Option TakeId} (h : Uses f r w x p d)
    (huse : ∀ o, o ≠ t → (r' = some o ↔ r = some o) ∧ (w' = some o ↔ w = some o) ∧
      (x' = some o ↔ x = some o) ∧ (p' = some o ↔ p = some o) ∧ (d' = some o ↔ d = some o))
    (hown : (g t).Fits (r' = some t) (w' = some t) (x' = some t) (p' = some t) (d' = some t)) : Uses g r' w' x' p' d' := by
  intro o
  by_cases ho : o = t
  · exact ho ▸ hown
  · obtain ⟨hr, hw, hx, hp, hd⟩ := huse o ho
    obtain ⟨h1, h2, h3, h4, h5, h6⟩ := h o
    rw [hother o ho]
    exact ⟨h1.trans hr.symm, h2.trans hw.symm, h3.trans hx.symm, h4.trans hp.symm, h5.trans hd.symm, h6⟩

theorem Uses.record (h : Uses f none w x p d) (hfree : (f t).Idle) (ht : g t = { f t with state := .recording }) :
    Uses g (some t) w x p d := by
  obtain ⟨h1, h2, h3, h4, h5, h6⟩ := h t
  obtain ⟨hs, hp, hd⟩ := hfree
  refine h.change hother (fun o ho => by grind) (ht ▸ ?_)
  constructor <;> grind

theorem Uses.write (h : Uses f r none x p d) (hfree : (f t).Idle) (ht : g t = { f t with state := .writing }) :
    Uses g r (some t) x p d := by
  obtain ⟨h1, h2, h3, h4, h5, h6⟩ := h t
  obtain ⟨hs, hp, hd⟩ := hfree
  refine h.change hother (fun o ho => by grind) (ht ▸ ?_)
  constructor <;> grind

theorem Uses.edit (h : Uses f r w none p d) (hfree : (f t).Idle) (ht : g t = { f t with state := .editing }) :
    Uses g r w (some t) p d := by
  obtain ⟨h1, h2, h3, h4, h5, h6⟩ := h t
  obtain ⟨hs, hp, hd⟩ := hfree
  refine h.change hother (fun o ho => by grind) (ht ▸ ?_)
  constructor <;> grind

/-- A take that is EMPTY or READY, its marks kept, is in no writer's use. -/
theorem Uses.recorded (h : Uses f (some t) w x p d) (hstate : (g t).state = .empty ∨ (g t).state = .ready)
    (hp : (g t).played = (f t).played) (hd : (g t).read = (f t).read) : Uses g none w x p d := by
  obtain ⟨h1, h2, h3, h4, h5, h6⟩ := h t
  refine h.change hother (fun o ho => by grind) ?_
  constructor <;> grind

theorem Uses.written (h : Uses f r (some t) x p d) (hstate : (g t).state = .empty ∨ (g t).state = .ready)
    (hp : (g t).played = (f t).played) (hd : (g t).read = (f t).read) : Uses g r none x p d := by
  obtain ⟨h1, h2, h3, h4, h5, h6⟩ := h t
  refine h.change hother (fun o ho => by grind) ?_
  constructor <;> grind

theorem Uses.edited (h : Uses f r w (some t) p d) (hstate : (g t).state = .empty ∨ (g t).state = .ready)
    (hp : (g t).played = (f t).played) (hd : (g t).read = (f t).read) : Uses g r w none p d := by
  obtain ⟨h1, h2, h3, h4, h5, h6⟩ := h t
  refine h.change hother (fun o ho => by grind) ?_
  constructor <;> grind

theorem Uses.play (h : Uses f r w x none d) (hready : (f t).state = .ready) (ht : g t = { f t with played := true }) :
    Uses g r w x (some t) d := by
  obtain ⟨h1, h2, h3, h4, h5, h6⟩ := h t
  refine h.change hother (fun o ho => by grind) (ht ▸ ?_)
  constructor <;> grind

theorem Uses.unplay (h : Uses f r w x (some t) d) (ht : g t = { f t with played := false }) : Uses g r w x none d := by
  obtain ⟨h1, h2, h3, h4, h5, h6⟩ := h t
  refine h.change hother (fun o ho => by grind) (ht ▸ ?_)
  constructor <;> grind

theorem Uses.read (h : Uses f r w x p none) (hready : (f t).state = .ready) (ht : g t = { f t with read := true }) :
    Uses g r w x p (some t) := by
  obtain ⟨h1, h2, h3, h4, h5, h6⟩ := h t
  refine h.change hother (fun o ho => by grind) (ht ▸ ?_)
  constructor <;> grind

theorem Uses.unread (h : Uses f r w x p (some t)) (ht : g t = { f t with read := false }) : Uses g r w x p none := by
  obtain ⟨h1, h2, h3, h4, h5, h6⟩ := h t
  refine h.change hother (fun o ho => by grind) (ht ▸ ?_)
  constructor <;> grind

/-- A take in no use stays so with any entry in no use. -/
theorem Uses.erase (h : Uses f r w x p d) (hfree : (f t).Idle) (ht : (g t).Idle) : Uses g r w x p d := by
  obtain ⟨h1, h2, h3, h4, h5, h6⟩ := h t
  obtain ⟨hs, hp, hd⟩ := hfree
  obtain ⟨hs', hp', hd'⟩ := ht
  refine h.change hother (fun o ho => by grind) ?_
  constructor <;> grind

end

end Sys2Proof.Machine
end

section
/-! PROOFS. The law of blocks and the records of the takes (sections 8.1 to 8.3) through every change of the take store:
marks, appends, a rollback, an erasure, a scaled record. -/

namespace Sys2Proof.Machine

open Sys2Proof.StepRows

/-! ### Changes of marks -/

/-- The entries differ in their states, marks and durations alone. -/
structure Store.SameBlocks (st u : Store) : Prop where
  slots : u.slots = st.slots
  links : u.links = st.links
  free : u.free = st.free
  head : ∀ t, (u.entry t).head = (st.entry t).head
  tail : ∀ t, (u.entry t).tail = (st.entry t).tail
  fill : ∀ t, (u.entry t).fill = (st.entry t).fill
  count : ∀ t, (u.entry t).count = (st.entry t).count

theorem sameBlocks_withEntry {st : Store} {t : TakeId} {e : TakeEntry} (hhead : e.head = (st.entry t).head)
    (htail : e.tail = (st.entry t).tail) (hfill : e.fill = (st.entry t).fill) (hcount : e.count = (st.entry t).count) :
    st.SameBlocks (st.withEntry t e) := by
  have hfield {α : Type} (g : TakeEntry → α) (h : g e = g (st.entry t)) (o : TakeId) :
      g ((st.withEntry t e).entry o) = g (st.entry o) := by
    rw [entry_withEntry]
    split
    next ho => exact ho ▸ h
    next => rfl
  exact ⟨rfl, rfl, rfl, hfield _ hhead, hfield _ htail, hfield _ hfill, hfield _ hcount⟩

theorem sameBlocks_setState (st : Store) (t : TakeId) (x : TakeState) : st.SameBlocks (st.setState t x) :=
  sameBlocks_withEntry rfl rfl rfl rfl

theorem sameBlocks_setRead (st : Store) (t : TakeId) (on : Bool) : st.SameBlocks (st.setRead t on) :=
  sameBlocks_withEntry rfl rfl rfl rfl

section
variable {st u : Store} (h : st.SameBlocks u)
include h

theorem Store.SameBlocks.trans {v : Store} (h' : u.SameBlocks v) : st.SameBlocks v :=
  ⟨h'.slots.trans h.slots, h'.links.trans h.links, h'.free.trans h.free, fun t => (h'.head t).trans (h.head t),
    fun t => (h'.tail t).trans (h.tail t), fun t => (h'.fill t).trans (h.fill t), fun t => (h'.count t).trans (h.count t)⟩

theorem Store.SameBlocks.chain (t : TakeId) : u.chain t = st.chain t :=
  chain_congr (h.head t) fun b _ => by rw [h.links]

theorem Store.SameBlocks.record (t : TakeId) (i : Nat) : u.record t i = st.record t i :=
  record_congr (by rw [h.chain]) fun b _ => by rw [h.slots]

theorem Store.SameBlocks.records (t : TakeId) : u.records t = st.records t := by
  rw [Store.records, Store.records, h.count]
  exact List.map_congr_left fun i _ => h.record t i

theorem Store.SameBlocks.takeFree (t : TakeId) : u.takeFree t = st.takeFree t :=
  takeFree_of (h.tail t) (h.fill t) h.free

theorem Store.SameBlocks.blockLaw (hl : st.BlockLaw) : u.BlockLaw := by
  refine ⟨h.slots ▸ hl.1, ?_, fun t => ?_⟩
  · rw [funext h.chain, h.free]
    exact hl.2.1
  · rw [h.tail, h.fill, h.count, h.chain]
    exact hl.2.2 t

end

/-! ### Appends -/

/-- The take has these records more at its end, and every other take is as it was. -/
structure Store.Grown (st u : Store) (t : TakeId) (rs : List Record) : Prop where
  law : u.BlockLaw
  entry : ∀ o, o ≠ t → u.entry o = st.entry o
  otherChain : ∀ o, o ≠ t → u.chain o = st.chain o
  otherRecords : ∀ o, o ≠ t → u.records o = st.records o
  marks : ∀ o, (u.entry o).state = (st.entry o).state ∧ (u.entry o).played = (st.entry o).played ∧
    (u.entry o).read = (st.entry o).read
  chain : ∃ bs, u.chain t = st.chain t ++ bs
  count : (u.entry t).count = (st.entry t).count + rs.length
  records : u.records t = st.records t ++ rs
  room : u.takeFree t + rs.length = st.takeFree t

theorem Store.Grown.refl {st : Store} (h : st.BlockLaw) (t : TakeId) : st.Grown st t [] :=
  ⟨h, fun _ _ => rfl, fun _ _ => rfl, fun _ _ => rfl, fun _ => ⟨rfl, rfl, rfl⟩, ⟨[], (List.append_nil _).symm⟩, rfl,
    (List.append_nil _).symm, rfl⟩

theorem Store.Grown.trans {st u v : Store} {t : TakeId} {rs rs' : List Record} (h : st.Grown u t rs) (h' : u.Grown v t rs') :
    st.Grown v t (rs ++ rs') := by
  obtain ⟨bs, hbs⟩ := h.chain
  obtain ⟨cs, hcs⟩ := h'.chain
  refine ⟨h'.law, fun o ho => (h'.entry o ho).trans (h.entry o ho), fun o ho => (h'.otherChain o ho).trans (h.otherChain o ho),
    fun o ho => (h'.otherRecords o ho).trans (h.otherRecords o ho), fun o => ?_,
    ⟨bs ++ cs, by rw [hcs, hbs, List.append_assoc]⟩, ?_, by rw [h'.records, h.records, List.append_assoc], ?_⟩
  · obtain ⟨h1, h2, h3⟩ := h.marks o
    obtain ⟨g1, g2, g3⟩ := h'.marks o
    exact ⟨g1.trans h1, g2.trans h2, g3.trans h3⟩
  · rw [h'.count, h.count, List.length_append, Nat.add_assoc]
  · have := h.room
    have := h'.room
    rw [List.length_append]
    omega

theorem append_grown {st : Store} (h : st.BlockLaw) {t : TakeId} (hroom : 1 ≤ st.takeFree t) (r : Record) :
    st.Grown (st.append t r) t [r] := by
  obtain ⟨hlast, hbefore, hcount, -, hfree, hothers⟩ := append_spec h hroom r
  have hchain : ∃ bs, (st.append t r).chain t = st.chain t ++ bs := by
    obtain ⟨b, hb, hfill⟩ | ⟨hgrow, b, free, hcons⟩ | ⟨hgrow, hnil⟩ := h.append_cases t
    · obtain ⟨-, -, -, -, hchain, -⟩ := append_room_spec h hb hfill r
      exact ⟨[], by rw [hchain, List.append_nil]⟩
    · obtain ⟨-, -, -, -, hchain, -⟩ := append_grows_spec h hgrow hcons r
      exact ⟨[b], hchain⟩
    · rw [append_full hgrow hnil]
      exact ⟨[], (List.append_nil _).symm⟩
  refine ⟨h.append t r, fun o ho => (hothers o ho).1, fun o ho => (hothers o ho).2.1, fun o ho => ?_, append_marks st t r,
    hchain, hcount, ?_, hfree⟩
  · obtain ⟨hentry, -, hrecord⟩ := hothers o ho
    rw [Store.records, Store.records, hentry]
    exact List.map_congr_left fun i _ => hrecord i
  · rw [Store.records, hcount, List.range_succ, List.map_append, List.map_singleton, hlast, Store.records]
    exact congrArg (· ++ [r]) (List.map_congr_left fun i hi => hbefore i (List.mem_range.1 hi))

theorem appendAll_grown {st : Store} (h : st.BlockLaw) {t : TakeId} {rs : List Record} (hroom : rs.length ≤ st.takeFree t) :
    st.Grown (st.appendAll t rs) t rs := by
  induction rs generalizing st with
  | nil => exact .refl h t
  | cons r rs ih =>
    rw [List.length_cons] at hroom
    have hone := append_grown h (t := t) (by omega) r
    have hfree : (st.append t r).takeFree t + 1 = st.takeFree t := hone.room
    exact hone.trans (ih hone.law (Nat.le_of_add_le_add_right (hfree ▸ hroom)))

/-! ### What a list of records leaves open (R127) -/

theorem leftOpen_append (rs : List Record) (r : Record) : leftOpen (rs ++ [r]) = (leftOpen rs).write 0 r.body :=
  List.foldl_concat ..

/-- A context without its time. -/
def WriteCtx.untimed (c : WriteCtx) : WriteCtx := { c with last := 0 }

theorem untimed_write (c : WriteCtx) (time : Nat) (b : Body) : (c.write time b).untimed = c.untimed.write 0 b := by
  cases b <;> rfl

theorem leftOpen_append_all (rs rs' : List Record) :
    leftOpen (rs ++ rs') = (rs'.map Record.body).foldl (fun c b => c.write 0 b) (leftOpen rs) := by
  rw [leftOpen, List.foldl_append, List.foldl_map]
  rfl

theorem foldl_write_noteOff (ks : List Key) (c : WriteCtx) :
    (ks.map Body.noteOff).foldl (fun c b => c.write 0 b) c =
      { c with openKeys := ks.foldl KeySet.remove c.openKeys, last := if ks = [] then c.last else 0 } := by
  induction ks generalizing c with
  | nil => rfl
  | cons k ks ih =>
    rw [List.map_cons, List.foldl_cons, ih, if_neg (List.cons_ne_nil k ks)]
    show ({ c with openKeys := ks.foldl KeySet.remove (c.openKeys.remove k), last := if ks = [] then 0 else 0 } : WriteCtx) = _
    rw [ite_self]
    rfl

theorem mem_foldl_remove (ks : List Key) (s : KeySet) (k : Key) :
    (ks.foldl KeySet.remove s).mem k = (!decide (k ∈ ks) && s.mem k) := by
  induction ks generalizing s with
  | nil => simp
  | cons j ks ih =>
    rw [List.foldl_cons, ih, mem_remove]
    by_cases h : j = k
    · simp [h]
    · simp [h, Ne.symm h]

theorem foldl_remove_keys (s : KeySet) : s.keys.foldl KeySet.remove s = KeySet.none := by
  refine Vector.ext fun i hi => ?_
  have hk : (s.keys.foldl KeySet.remove s).mem ⟨i, hi⟩ = KeySet.none.mem ⟨i, hi⟩ := by
    rw [mem_foldl_remove, mem_none, KeySet.keys]
    cases hm : s.mem ⟨i, hi⟩ with
    | false => exact Bool.and_false _
    | true =>
      have hmem : (⟨i, hi⟩ : Key) ∈ (List.finRange 88).filter fun k => s.get k :=
        List.mem_filter.2 ⟨List.mem_finRange _, hm⟩
      rw [decide_eq_true hmem]
      rfl
  exact hk

/-- The closing sequence leaves nothing open (R129). -/
theorem closing_closes (c : WriteCtx) : c.closing.foldl (fun c b => c.write 0 b) c.untimed = {} := by
  have hoff : (c.openKeys.keys.map Body.noteOff).foldl (fun c b => c.write 0 b) c.untimed =
      { c with openKeys := KeySet.none, last := 0 } := by
    rw [foldl_write_noteOff]
    show ({ c with openKeys := c.openKeys.keys.foldl KeySet.remove c.openKeys, last := if _ then 0 else 0 } : WriteCtx) = _
    rw [foldl_remove_keys, ite_self]
  rw [WriteCtx.closing, List.foldl_append, List.foldl_append, List.foldl_append, hoff]
  obtain ⟨ks, damper, soft, sost, last⟩ := c
  dsimp only
  by_cases hd : damper = 0 <;> by_cases hs : soft = 0 <;> cases sost <;> simp [hd, hs, WriteCtx.write]

theorem closingRecords_body (time last : Nat) (bs : List Body) : (closingRecords time last bs).map Record.body = bs := by
  cases bs with
  | nil => rfl
  | cons b bs =>
    show b :: (bs.map fun b => (⟨0, b⟩ : Record)).map Record.body = b :: bs
    rw [List.map_map]
    exact congrArg (b :: ·) (List.map_id bs)

/-- A take whose context stands and whose reserve fits is closed by the closing sequence. -/
theorem closeTake_grown {st : Store} (h : st.BlockLaw) {t : TakeId} {c : WriteCtx}
    (hopen : c.untimed = leftOpen (st.records t)) (hroom : c.reserve ≤ st.takeFree t) (time : Nat) :
    ∃ rs, st.Grown (closeTake t time st c) t rs ∧ leftOpen ((closeTake t time st c).records t) = {} := by
  have hgrown : st.Grown (closeTake t time st c) t (closingRecords time c.last c.closing) := by
    rw [closeTake_eq]
    refine appendAll_grown h ?_
    rw [closingRecords_length, closing_length]
    exact hroom
  refine ⟨_, hgrown, ?_⟩
  rw [hgrown.records, leftOpen_append_all, closingRecords_body, ← hopen, closing_closes]

/-! ### The entry a copy saved (R164, R171) -/

/-- The saved entry describes a front part of the take's chain. -/
def TakeEntry.SavedIn (saved cur : TakeEntry) (chain : List Nat) : Prop :=
  saved.count ≤ cur.count ∧
    match saved.tail with
    | none => saved.head = none ∧ saved.count = 0 ∧ saved.fill = 0
    | some b => saved.head = cur.head ∧ saved.fill ≤ 64 ∧
        ∃ before after, chain = before ++ b :: after ∧ saved.count = 64 * before.length + saved.fill

theorem savedLaw_iff (s : State) : SavedLaw s ↔
    ∀ j, s.edit = .copy j → j.saved.SavedIn (s.store.entry j.dst) (s.store.chain j.dst) := Iff.rfl

/-- An entry describes its own chain. -/
theorem savedIn_self {st : Store} (h : st.BlockLaw) (t : TakeId) : (st.entry t).SavedIn (st.entry t) (st.chain t) := by
  obtain ⟨htail, hfill, hzero, hcount⟩ := h.2.2 t
  refine ⟨Nat.le_refl _, ?_⟩
  cases hb : (st.entry t).tail with
  | none =>
    have hnil := h.chain_of_no_tail hb
    refine ⟨chain_eq_nil.1 hnil, ?_, hzero hb⟩
    rw [hcount, hnil, hzero hb]
    rfl
  | some b =>
    obtain ⟨bs, hbs⟩ := h.chain_tail hb
    refine ⟨rfl, hfill, bs, [], hbs, ?_⟩
    rw [hcount, hbs, List.length_append]
    rfl

theorem savedIn_empty {st : Store} (t : TakeId) : ({} : TakeEntry).SavedIn (st.entry t) (st.chain t) :=
  ⟨Nat.zero_le _, rfl, rfl, rfl⟩

/-- A chain that grows at its end keeps what the saved entry describes. -/
theorem TakeEntry.SavedIn.grow {saved : TakeEntry} {st u : Store} {t : TakeId}
    (h : saved.SavedIn (st.entry t) (st.chain t)) (hcount : (st.entry t).count ≤ (u.entry t).count)
    (hchain : ∃ bs, u.chain t = st.chain t ++ bs) : saved.SavedIn (u.entry t) (u.chain t) := by
  obtain ⟨bs, hbs⟩ := hchain
  refine ⟨Nat.le_trans h.1 hcount, ?_⟩
  have hprefix := h.2
  cases hb : saved.tail with
  | none =>
    rw [hb] at hprefix
    exact hprefix
  | some b =>
    rw [hb] at hprefix
    obtain ⟨hhead, hfill, before, after, heq, hlen⟩ := hprefix
    refine ⟨hhead.trans ?_, hfill, before, after ++ bs, by rw [hbs, heq, List.append_assoc]; rfl, hlen⟩
    rw [← chain_head, ← chain_head, hbs, heq]
    cases before <;> rfl

/-- The chain is what the saved entry describes and the blocks that came after it. -/
theorem TakeEntry.SavedIn.split {saved cur : TakeEntry} {chain : List Nat} (h : saved.SavedIn cur chain)
    (hnodup : chain.Nodup) (hhead : chain.head? = cur.head) : ∃ kept, chain = kept ++ blocksAfter saved chain ∧
      saved.head = kept.head? ∧ saved.tail = kept.getLast? ∧ saved.fill ≤ 64 ∧ (saved.tail = none → saved.fill = 0) ∧
      saved.count = 64 * (kept.length - 1) + saved.fill := by
  have hprefix := h.2
  rw [blocksAfter]
  cases hb : saved.tail with
  | none =>
    rw [hb] at hprefix
    obtain ⟨hnone, hcount, hfill⟩ := hprefix
    exact ⟨[], rfl, hnone, rfl, hfill ▸ Nat.zero_le _, fun _ => hfill, by rw [hcount, hfill]; rfl⟩
  | some b =>
    rw [hb] at hprefix
    obtain ⟨hsame, hfill, before, after, heq, hcount⟩ := hprefix
    have hbefore : ∀ x ∈ before, decide (x ≠ b) = true := fun x hx => decide_eq_true fun hxb =>
      (List.nodup_append.1 (heq ▸ hnodup)).2.2 x hx b List.mem_cons_self hxb
    have hafter : (chain.dropWhile fun x => decide (x ≠ b)).drop 1 = after := by
      rw [heq, List.dropWhile_append_of_pos hbefore, List.dropWhile_cons_of_neg (by simp)]
      rfl
    refine ⟨before ++ [b], ?_, ?_, List.getLast?_concat.symm, hfill, nofun, ?_⟩
    · show chain = before ++ [b] ++ (chain.dropWhile fun x => decide (x ≠ b)).drop 1
      rw [hafter, heq, List.append_assoc]
      rfl
    · rw [hsame, ← hhead, heq]
      cases before <;> rfl
    · rw [List.length_append, List.length_singleton, Nat.add_sub_cancel, hcount]

theorem vgetD_rollback {st : Store} (h : st.BlockLaw) {dst : TakeId} {saved : TakeEntry}
    (hin : ∀ b ∈ blocksAfter saved (st.chain dst), b ∈ st.chain dst)
    (htail : ∀ b, saved.tail = some b → b ∈ st.chain dst)
    (j : Nat) : vgetD (st.rollback dst saved).links j none =
      if j ∈ blocksAfter saved (st.chain dst) ∨ saved.tail = some j then none else vgetD st.links j none := by
  have hclear := vgetD_clearLinks st.links (blocksAfter saved (st.chain dst)) j fun b hb => h.chain_lt (hin b hb)
  rw [rollback_eq]
  show vgetD ((saved.tail.map fun b => vset (clearLinks st.links (blocksAfter saved (st.chain dst))) b none).getD
    (clearLinks st.links (blocksAfter saved (st.chain dst)))) j none = _
  cases hb : saved.tail with
  | none =>
    simp only [reduceCtorEq, or_false]
    exact hclear
  | some b =>
    show vgetD (vset (clearLinks st.links (blocksAfter saved (st.chain dst))) b none) j none = _
    rw [vgetD_vset _ _ _ _ _ (h.chain_lt (htail b hb)), hclear]
    by_cases hj : j = b
    · rw [if_pos hj, if_pos (.inr (congrArg some hj.symm))]
    · rw [if_neg hj]
      simp only [Option.some.injEq, (Ne.symm hj : ¬b = j), or_false]

/-- A rollback keeps the blocks of the saved entry, frees the later ones, and leaves the other takes. -/
theorem rollback_spec {st : Store} (h : st.BlockLaw) {dst : TakeId} {saved : TakeEntry}
    (hs : saved.SavedIn (st.entry dst) (st.chain dst)) : (st.rollback dst saved).BlockLaw ∧
      (∀ o, o ≠ dst → (st.rollback dst saved).chain o = st.chain o ∧
        (st.rollback dst saved).records o = st.records o ∧ st.takeFree o ≤ (st.rollback dst saved).takeFree o) ∧
      (st.rollback dst saved).records dst = (st.records dst).take saved.count := by
  obtain ⟨kept, hsplit, hhead, htail, hfill, hzero, hcount⟩ := hs.split (h.chain_nodup dst) (chain_head st dst)
  generalize hafter : blocksAfter saved (st.chain dst) = after at hsplit
  have hnodup : (kept ++ after).Nodup := hsplit ▸ h.chain_nodup dst
  have hlink := vgetD_rollback h (dst := dst) (saved := saved)
    (fun b hb => by rw [hafter] at hb; rw [hsplit]; exact List.mem_append_right _ hb)
    (fun b hb => by rw [hsplit]; exact List.mem_append_left _ (List.mem_of_getLast? (htail.symm.trans hb)))
  rw [hafter] at hlink
  have hfree : (st.rollback dst saved).free = st.free ++ after := by
    rw [rollback_eq, ← hafter]
    rfl
  have hslots : (st.rollback dst saved).slots = st.slots := by
    rw [rollback_eq]
    rfl
  have hother (o : TakeId) (ho : o ≠ dst) : (st.rollback dst saved).chain o = st.chain o := by
    refine chain_congr (by rw [rollback_entry_ne st ho]) fun b hb => ?_
    have hnot : b ∉ st.chain dst := h.chain_disjoint ho hb
    rw [hsplit] at hnot
    rw [hlink, if_neg]
    rintro (hmem | hmem)
    · exact hnot (List.mem_append_right _ hmem)
    · exact hnot (List.mem_append_left _ (List.mem_of_getLast? (htail.symm.trans hmem)))
  have hown : (st.rollback dst saved).chain dst = kept := by
    rw [chain_eq, rollback_entry_dst]
    show chainFrom _ 512 saved.head = kept
    have hlen : kept.length ≤ 512 := by
      have := chainFrom_length_le st.links 512 (st.entry dst).head
      rw [← chain_eq, hsplit, List.length_append] at this
      omega
    rcases List.eq_nil_or_concat' kept with rfl | ⟨before, b, rfl⟩
    · rw [hhead]
      rfl
    · refine chainFrom_of_path ?_ hlen
      obtain ⟨next, hpath, -⟩ := chainFrom_path st.links 512 (st.entry dst).head
      rw [← chain_eq, hsplit, List.append_assoc] at hpath
      obtain ⟨mid, hto, hfrom⟩ := path_append.1 hpath
      have hsame : saved.head = (st.entry dst).head := by
        rw [hhead, ← chain_head, hsplit]
        cases before <;> rfl
      have hsep := List.nodup_append.1 (List.nodup_append.1 hnodup).1
      refine path_append.2 ⟨some b, hsame ▸ hfrom.1 ▸ hto.congr fun c hc => ?_, rfl, ?_⟩
      · rw [hlink, if_neg]
        rintro (hmem | hmem)
        · exact (List.nodup_append.1 hnodup).2.2 c (by simp [hc]) c hmem rfl
        · rw [htail, List.getLast?_concat, Option.some.injEq] at hmem
          exact hsep.2.2 c hc b List.mem_cons_self hmem.symm
      · rw [hlink, if_pos (.inr (by rw [htail, List.getLast?_concat]))]
        rfl
  have hrecords : (st.rollback dst saved).records dst = (st.records dst).take saved.count := by
    rw [records_take st dst hs.1, Store.records, rollback_entry_dst]
    refine List.map_congr_left fun i hi => record_congr ?_ fun b _ => by rw [hslots]
    have hi := List.mem_range.1 hi
    have hpos : 0 < kept.length := by
      refine List.length_pos_iff.2 fun hnil => ?_
      rw [hnil] at htail
      rw [hnil, hzero htail] at hcount
      simp only [hcount] at hi
      exact absurd hi (Nat.not_lt_zero i)
    have hlt : i / 64 < kept.length := by
      have hi : i < saved.count := hi
      omega
    rw [hown, hsplit, List.getElem?_append_left hlt]
  refine ⟨⟨hslots ▸ h.1, BlockLaw.perm_of h hother ?_, fun o => ?_⟩, fun o ho => ⟨hother o ho, ?_, ?_⟩, hrecords⟩
  · rw [hown, hfree, hsplit, List.append_assoc]
    exact List.Perm.append_left kept List.perm_append_comm
  · by_cases ho : o = dst
    · subst ho
      rw [rollback_entry_dst, hown]
      exact ⟨htail, hfill, hzero, hcount⟩
    · rw [rollback_entry_ne st ho, hother o ho]
      exact h.2.2 o
  · rw [Store.records, Store.records, rollback_entry_ne st ho]
    exact List.map_congr_left fun i _ => record_congr (by rw [hother o ho]) fun b _ => by rw [hslots]
  · rw [takeFree_eq, takeFree_eq, rollback_entry_ne st ho, hfree, List.length_append]
    omega

/-- To erase a take in no use is to roll it back to an EMPTY one. -/
theorem eraseTake_eq {st : Store} {t : TakeId} (hp : (st.entry t).played = false) (hr : (st.entry t).read = false) :
    st.eraseTake t = st.rollback t {} := by
  rw [rollback_eq, hp, hr]
  rfl

/-! ### A record replaced in place (R173) -/

theorem leftOpen_congr {f g : Nat → Record} (h : ∀ i (c : WriteCtx), c.write 0 (f i).body = c.write 0 (g i).body)
    (l : List Nat) : leftOpen (l.map f) = leftOpen (l.map g) := by
  rw [leftOpen, leftOpen, List.foldl_map, List.foldl_map]
  exact congrArg (fun step => l.foldl step {}) (funext fun c => funext fun i => h i c)

theorem replace_spec {st : Store} (h : st.BlockLaw) {t : TakeId} {i : Nat} {r : Record}
    (hbody : ∀ c : WriteCtx, c.write 0 r.body = c.write 0 (st.record t i).body) :
    (st.replace t i r).BlockLaw ∧ (st.replace t i r).takes = st.takes ∧ (∀ o, (st.replace t i r).chain o = st.chain o) ∧
      (∀ o, (st.replace t i r).takeFree o = st.takeFree o) ∧
      (∀ o n, leftOpen (((st.replace t i r).records o).take n) = leftOpen ((st.records o).take n)) := by
  cases hb : (st.chain t)[i / 64]? with
  | none =>
    have hsame : st.replace t i r = st := by
      unfold Store.replace
      show (match (st.chain t)[i / 64]? with | some b => _ | none => st) = st
      rw [hb]
    rw [hsame]
    exact ⟨h, rfl, fun _ => rfl, fun _ => rfl, fun _ _ => rfl⟩
  | some b =>
    have hmem : b ∈ st.chain t := List.mem_of_getElem? hb
    have hplace : i % 64 < 64 := Nat.mod_lt i (by decide)
    rw [replace_eq hb]
    have hslot : 64 * b + i % 64 < 32768 := slotNo_lt (h.chain_lt hmem) hplace
    have hwf := slotSet_wf h.1 (r := r) hslot
    refine ⟨⟨hwf, h.2.1, h.2.2⟩, rfl, fun _ => rfl, fun _ => rfl, fun o n => ?_⟩
    show leftOpen (((List.range (st.entry o).count).map _).take n) = leftOpen (((List.range (st.entry o).count).map _).take n)
    rw [← List.map_take, ← List.map_take]
    refine leftOpen_congr (fun k c => ?_) _
    show c.write 0 (Store.record { st with slots := _ } o k).body = _
    rw [record_eq, record_eq]
    show c.write 0 (((st.chain o)[k / 64]?.bind fun b' =>
      slotGet (slotSet st.slots (64 * b + i % 64) r) (slotNo b' (k % 64))).getD ⟨0, .gap⟩).body = _
    cases (st.chain o)[k / 64]? with
    | none => rfl
    | some b' =>
      simp only [Option.bind_some, slotGet_slotSet h.1]
      split
      next heq =>
        refine (hbody c).trans ?_
        rw [record_eq, hb, Option.bind_some, heq]
        rfl
      next => rfl

end Sys2Proof.Machine
end

section
/-! PROOFS. The laws of take use, of blocks and of balanced takes through the operations of the Recorder, the bulk writer
and the take commands (sections 8.2 to 8.6). -/

namespace Sys2Proof.Machine

open Sys2Proof.StepRows

/-! ### The laws together -/

/-- The law of take use with the played take given; and under `b` the laws of blocks and of the saved entry, and under
`c` the law of balanced takes. -/
def Books (b c : Prop) (T : Option TakeId) (s : State) : Prop :=
  UseLaw T s ∧ (b → s.store.BlockLaw ∧ SavedLaw s ∧ (c → BalanceLaw s))

section
variable {b c : Prop} {T : Option TakeId} {s : State}

theorem Books.next (h : Books b c T s) {T' : Option TakeId} {u : State} (huse : UseLaw T' u)
    (hrest : s.store.BlockLaw → SavedLaw s → u.store.BlockLaw ∧ SavedLaw u ∧ (BalanceLaw s → BalanceLaw u)) :
    Books b c T' u := by
  refine ⟨huse, fun hb => ?_⟩
  obtain ⟨hblocks, hsaved, hbalance⟩ := h.2 hb
  obtain ⟨hblocks', hsaved', hbalance'⟩ := hrest hblocks hsaved
  exact ⟨hblocks', hsaved', fun hc => hbalance' (hbalance hc)⟩

/-! ### Who writes which take -/

theorem UseLaw.recording (h : UseLaw T s) {r : Recording} (hr : s.recorder = some r) :
    (s.store.entry r.take).state = .recording := (h.uses r.take).recording.2 (by rw [hr]; rfl)

theorem UseLaw.writing (h : UseLaw T s) {w : BulkWriting} (hw : s.bulk = some w) :
    (s.store.entry w.take).state = .writing := (h.uses w.take).writing.2 (by rw [hw]; rfl)

theorem UseLaw.editing (h : UseLaw T s) {t : TakeId} (ht : s.edit.writes = some t) :
    (s.store.entry t).state = .editing := (h.uses t).editing.2 ht

theorem UseLaw.reading (h : UseLaw T s) {t : TakeId} (ht : s.edit.reads = some t) :
    (s.store.entry t).state = .ready := (h.uses t).ready (.inr ((h.uses t).read.2 ht))

theorem UseLaw.copying (h : UseLaw T s) {j : CopyJob} (hj : s.edit = .copy j) :
    (s.store.entry j.dst).state = .editing := h.editing (by rw [hj]; rfl)

theorem UseLaw.scaling (h : UseLaw T s) {j : ScaleJob} (hj : s.edit = .scale j) :
    (s.store.entry j.take).state = .editing := h.editing (by rw [hj]; rfl)

theorem UseLaw.bulk_none (h : UseLaw T s) {r : Recording} (hr : s.recorder = some r) : s.bulk = none := by
  obtain hnone | hnone := h.single
  · cases hr.symm.trans hnone
  · exact hnone

theorem UseLaw.recorder_none (h : UseLaw T s) {w : BulkWriting} (hw : s.bulk = some w) : s.recorder = none := by
  obtain hnone | hnone := h.single
  · exact hnone
  · cases hw.symm.trans hnone

/-- Takes of two states are two takes. -/
theorem ne_of_state {st : Store} {t o : TakeId} {x y : TakeState} (ht : (st.entry t).state = x) (ho : (st.entry o).state = y)
    (hxy : y ≠ x) : o ≠ t := fun h => hxy (ho.symm.trans (h ▸ ht))

/-! ### One take changes -/

/-- Every other take has its state, its blocks and its records as before. -/
structure Store.Else (st u : Store) (t : TakeId) : Prop where
  state : ∀ o, o ≠ t → (u.entry o).state = (st.entry o).state
  count : ∀ o, o ≠ t → (u.entry o).count = (st.entry o).count
  head : ∀ o, o ≠ t → (u.entry o).head = (st.entry o).head
  chain : ∀ o, o ≠ t → u.chain o = st.chain o
  records : ∀ o, o ≠ t → u.records o = st.records o

theorem Store.Grown.else {st u : Store} {t : TakeId} {rs : List Record} (h : st.Grown u t rs) : st.Else u t :=
  ⟨fun o _ => (h.marks o).1, fun o ho => by rw [h.entry o ho], fun o ho => by rw [h.entry o ho], h.otherChain, h.otherRecords⟩

theorem Store.SameBlocks.else {st u : Store} (h : st.SameBlocks u) {t : TakeId}
    (hstate : ∀ o, o ≠ t → (u.entry o).state = (st.entry o).state) : st.Else u t :=
  ⟨hstate, fun o _ => h.count o, fun o _ => h.head o, fun o _ => h.chain o, fun o _ => h.records o⟩

theorem Store.Else.trans {st u v : Store} {t : TakeId} (h : st.Else u t) (h' : u.Else v t) : st.Else v t :=
  ⟨fun o ho => (h'.state o ho).trans (h.state o ho), fun o ho => (h'.count o ho).trans (h.count o ho),
    fun o ho => (h'.head o ho).trans (h.head o ho), fun o ho => (h'.chain o ho).trans (h.chain o ho),
    fun o ho => (h'.records o ho).trans (h.records o ho)⟩

/-- What a copy's law says of its job. -/
def CopyJob.Balanced (j : CopyJob) (st : Store) : Prop :=
  j.ctx.untimed = leftOpen (st.records j.dst) ∧ (j.saved.state = .empty → j.saved.count = 0) ∧
    (j.saved.state = .ready → leftOpen ((st.records j.dst).take j.saved.count) = {})

/-- What the law of balance says of a recording's or a writing's take and context. -/
def WriteCtx.Balanced (c : WriteCtx) (st : Store) (t : TakeId) : Prop :=
  c.untimed = leftOpen (st.records t) ∧ c.reserve ≤ st.takeFree t

theorem BalanceLaw.of_else {u : State} {t : TakeId} (h : BalanceLaw s) (ho : s.store.Else u.store t)
    (hempty : (u.store.entry t).state = .empty → (u.store.entry t).count = 0)
    (hready : (u.store.entry t).state = .ready → leftOpen (u.store.records t) = {})
    (hscale : ∀ j, u.edit = .scale j → leftOpen (u.store.records j.take) = {})
    (hrec : ∀ r, u.recorder = some r → r.ctx.Balanced u.store r.take)
    (hbulk : ∀ w, u.bulk = some w → w.ctx.Balanced u.store w.take)
    (hcopy : ∀ j, u.edit = .copy j → j.Balanced u.store) : BalanceLaw u := by
  obtain ⟨h1, h2, -⟩ := h
  refine ⟨fun o hs => ?_, fun o hs => ?_, hscale, hrec, hbulk, hcopy⟩
  · by_cases hot : o = t
    · subst hot
      exact hempty hs
    · rw [ho.state o hot] at hs
      rw [ho.count o hot]
      exact h1 o hs
  · by_cases hot : o = t
    · subst hot
      exact hready hs
    · rw [ho.state o hot] at hs
      rw [ho.records o hot]
      exact h2 o hs

theorem SavedLaw.of_else {u : State} {t : TakeId} (h : SavedLaw s) (ho : s.store.Else u.store t)
    (hedit : ∀ j, u.edit = .copy j → s.edit = .copy j ∧ j.dst ≠ t) : SavedLaw u := by
  intro j hj
  obtain ⟨hs, hne⟩ := hedit j hj
  rw [ho.count _ hne, ho.head _ hne, ho.chain _ hne]
  exact h j hs

/-- A running copy and a running scaling whose take is another are as balanced as before. -/
theorem BalanceLaw.scale_else {u : State} {t : TakeId} (h : BalanceLaw s) (ho : s.store.Else u.store t)
    (hedit : u.edit = s.edit) (hne : ∀ o, s.edit.writes = some o → o ≠ t) (j : ScaleJob) (hj : u.edit = .scale j) :
    leftOpen (u.store.records j.take) = {} := by
  have hs := hedit.symm.trans hj
  rw [ho.records _ (hne _ (by rw [hs]; rfl))]
  exact h.2.2.1 j hs

theorem BalanceLaw.copy_else {u : State} {t : TakeId} (h : BalanceLaw s) (ho : s.store.Else u.store t)
    (hedit : u.edit = s.edit) (hne : ∀ o, s.edit.writes = some o → o ≠ t) (j : CopyJob) (hj : u.edit = .copy j) :
    j.Balanced u.store := by
  have hs := hedit.symm.trans hj
  rw [CopyJob.Balanced, ho.records _ (hne _ (by rw [hs]; rfl))]
  exact h.2.2.2.2.2 j hs

theorem SavedLaw.of_same_edit {u : State} {t : TakeId} (h : SavedLaw s) (ho : s.store.Else u.store t) (hedit : u.edit = s.edit)
    (hne : ∀ o, s.edit.writes = some o → o ≠ t) : SavedLaw u :=
  h.of_else ho fun j hj => ⟨hedit.symm.trans hj, hne _ (by rw [← hedit, hj]; rfl)⟩

/-- A recording's or a writing's take is none that an edit command writes. -/
theorem UseLaw.writes_ne (h : UseLaw T s) {t : TakeId} (ht : (s.store.entry t).state ≠ .editing) (o : TakeId)
    (ho : s.edit.writes = some o) : o ≠ t := fun heq => ht (heq ▸ h.editing ho)

theorem appendAll_marks (st : Store) (t : TakeId) (rs : List Record) (o : TakeId) :
    ((st.appendAll t rs).entry o).state = (st.entry o).state ∧
      ((st.appendAll t rs).entry o).played = (st.entry o).played ∧
      ((st.appendAll t rs).entry o).read = (st.entry o).read := by
  induction rs generalizing st with
  | nil => exact ⟨rfl, rfl, rfl⟩
  | cons r rs ih =>
    obtain ⟨h1, h2, h3⟩ := ih (st.append t r)
    obtain ⟨g1, g2, g3⟩ := append_marks st t r o
    exact ⟨h1.trans g1, h2.trans g2, h3.trans g3⟩

/-- The store after a writer's end: the closing sequence, and the take READY. -/
def Store.finished (st : Store) (t : TakeId) (time : Nat) (c : WriteCtx) : Store := (closeTake t time st c).setState t .ready

theorem finished_own (st : Store) (t : TakeId) (time : Nat) (c : WriteCtx) :
    ((st.finished t time c).entry t).state = .ready := by
  rw [Store.finished, entry_setState, if_pos rfl]

theorem closeTake_marks (st : Store) (t : TakeId) (time : Nat) (c : WriteCtx) (o : TakeId) :
    ((closeTake t time st c).entry o).state = (st.entry o).state ∧
      ((closeTake t time st c).entry o).played = (st.entry o).played ∧
      ((closeTake t time st c).entry o).read = (st.entry o).read := by
  rw [closeTake_eq]
  exact appendAll_marks ..

section
variable {f : Store} {r w x p d : Option TakeId} {t : TakeId}

theorem Uses.recordFinished (h : Uses f.entry (some t) w x p d) (time : Nat) (c : WriteCtx) :
    Uses (f.finished t time c).entry none w x p d := by
  refine (h.congr (closeTake_marks f t time c)).recorded (fun o ho => ?_) (.inr (finished_own ..)) ?_ ?_
  all_goals rw [Store.finished, entry_setState]
  · rw [if_neg ho]
  · rw [if_pos rfl]
  · rw [if_pos rfl]

theorem Uses.writeFinished (h : Uses f.entry r (some t) x p d) (time : Nat) (c : WriteCtx) :
    Uses (f.finished t time c).entry r none x p d := by
  refine (h.congr (closeTake_marks f t time c)).written (fun o ho => ?_) (.inr (finished_own ..)) ?_ ?_
  all_goals rw [Store.finished, entry_setState]
  · rw [if_neg ho]
  · rw [if_pos rfl]
  · rw [if_pos rfl]

end

theorem appendAll_else {st : Store} (h : st.BlockLaw) (t : TakeId) (rs : List Record) :
    (st.appendAll t rs).BlockLaw ∧ st.Else (st.appendAll t rs) t := by
  induction rs generalizing st with
  | nil => exact ⟨h, fun _ _ => rfl, fun _ _ => rfl, fun _ _ => rfl, fun _ _ => rfl, fun _ _ => rfl⟩
  | cons r rs ih =>
    have hone : st.Else (st.append t r) t := by
      by_cases hroom : 1 ≤ st.takeFree t
      · exact (append_grown h hroom r).else
      · have hsame : st.append t r = st := by
          obtain ⟨b, hb, hfill⟩ | ⟨hgrow, b, free, hcons⟩ | ⟨hgrow, hnil⟩ := h.append_cases t
          · rw [takeFree_eq, hb, if_neg nofun] at hroom
            omega
          · rw [takeFree_eq, hcons, List.length_cons] at hroom
            omega
          · exact append_full hgrow hnil r
        rw [hsame]
        exact ⟨fun _ _ => rfl, fun _ _ => rfl, fun _ _ => rfl, fun _ _ => rfl, fun _ _ => rfl⟩
    obtain ⟨hlaw, helse⟩ := ih (h.append t r)
    exact ⟨hlaw, hone.trans helse⟩

theorem finished_else {st : Store} (h : st.BlockLaw) (t : TakeId) (time : Nat) (c : WriteCtx) :
    (st.finished t time c).BlockLaw ∧ st.Else (st.finished t time c) t := by
  obtain ⟨hlaw, helse⟩ := appendAll_else h t (closingRecords time c.last c.closing)
  rw [← closeTake_eq] at hlaw helse
  have hmark := sameBlocks_setState (closeTake t time st c) t .ready
  refine ⟨hmark.blockLaw hlaw, helse.trans (hmark.else fun o ho => ?_)⟩
  rw [entry_setState, if_neg ho]

/-- A take that a writer has finished is balanced (R127). -/
theorem finished_balanced {st : Store} (h : st.BlockLaw) {t : TakeId} {c : WriteCtx} (hb : c.Balanced st t) (time : Nat) :
    leftOpen ((st.finished t time c).records t) = {} := by
  obtain ⟨rs, -, hleft⟩ := closeTake_grown h hb.1 hb.2 time
  rw [Store.finished, (sameBlocks_setState _ t .ready).records]
  exact hleft

/-! ### The Recorder -/

section
variable (h : Books b c T s) {r : Recording} (hr : s.recorder = some r)
include h hr

theorem books_recordEnded (cause : RecordEndCause) (time : Nat) : Books b c T (s.recordEnded r cause time) := by
  have hstate := h.1.recording hr
  have hne := h.1.writes_ne (t := r.take) (by rw [hstate]; nofun)
  refine h.next ⟨?_, .inl rfl, h.1.saved⟩ fun hlaw hsaved => ?_
  · have huses := h.1.uses
    rw [hr] at huses
    exact huses.recordFinished time r.ctx
  · obtain ⟨hlaw', helse⟩ := finished_else hlaw r.take time r.ctx
    refine ⟨hlaw', hsaved.of_same_edit helse rfl hne, fun hbal => ?_⟩
    refine hbal.of_else (u := s.recordEnded r cause time) helse (fun he => ?_) (fun _ => ?_)
      (hbal.scale_else helse rfl hne) nofun (fun w hw => ?_) (hbal.copy_else helse rfl hne)
    · cases (finished_own ..).symm.trans he
    · exact finished_balanced hlaw (hbal.2.2.2.1 r hr) time
    · cases hw.symm.trans (h.1.bulk_none hr)

theorem books_recordTaken (time : Nat) (body : Body) (hroom : 1 + (r.ctx.write time body).reserve ≤ s.store.takeFree r.take) :
    Books b c T { s with
      store := s.store.append r.take ⟨time - r.ctx.last, body⟩
      recorder := some { r with ctx := r.ctx.write time body } } := by
  have hstate := h.1.recording hr
  have hne := h.1.writes_ne (t := r.take) (by rw [hstate]; nofun)
  refine h.next ⟨?_, .inr (h.1.bulk_none hr), h.1.saved⟩ fun hlaw hsaved => ?_
  · have huses := h.1.uses.congr (append_marks s.store r.take ⟨time - r.ctx.last, body⟩)
    rw [hr] at huses
    exact huses
  · have hgrown := append_grown hlaw (t := r.take) (by omega) ⟨time - r.ctx.last, body⟩
    have helse := hgrown.else
    refine ⟨hgrown.law, hsaved.of_same_edit helse rfl hne, fun hbal => ?_⟩
    have hown : ((s.store.append r.take ⟨time - r.ctx.last, body⟩).entry r.take).state = .recording :=
      (hgrown.marks _).1.trans hstate
    refine hbal.of_else (u := { s with store := _, recorder := _ }) helse (fun he => ?_) (fun he => ?_)
      (hbal.scale_else helse rfl hne) (fun r' hr' => ?_) (fun w hw => ?_) (hbal.copy_else helse rfl hne)
    · cases hown.symm.trans he
    · cases hown.symm.trans he
    · cases hr'
      obtain ⟨hopen, -⟩ := hbal.2.2.2.1 r hr
      refine ⟨?_, ?_⟩
      · show (r.ctx.write time body).untimed = leftOpen ((s.store.append r.take _).records r.take)
        rw [hgrown.records, leftOpen_append, ← hopen, untimed_write]
        rfl
      · have hfree : (s.store.append r.take ⟨time - r.ctx.last, body⟩).takeFree r.take + 1 = s.store.takeFree r.take :=
          hgrown.room
        show (r.ctx.write time body).reserve ≤ (s.store.append r.take _).takeFree r.take
        omega
    · cases hw.symm.trans (h.1.bulk_none hr)

theorem books_recordBody (time : Nat) (body : Body) : Books b c T (recordBody r time body s) := by
  by_cases hroom : 1 + (r.ctx.write time body).reserve ≤ s.store.takeFree r.take
  · rw [recordBody_room hroom]
    exact books_recordTaken h hr time body hroom
  · rw [recordBody_full (Nat.lt_of_not_le hroom)]
    exact books_recordEnded h hr .full time

end

/-! ### A take comes under writing -/

theorem records_nil {st : Store} {t : TakeId} (h : (st.entry t).count = 0) : st.records t = [] := by
  rw [Store.records, h]
  rfl

/-- A balanced take in no use leaves nothing open. -/
theorem BalanceLaw.idle_leftOpen (h : BalanceLaw s) {t : TakeId}
    (ht : (s.store.entry t).state = .empty ∨ (s.store.entry t).state = .ready) : leftOpen (s.store.records t) = {} := by
  obtain hempty | hready := ht
  · rw [records_nil (h.1 t hempty)]
    rfl
  · exact h.2.1 t hready

theorem reserve_empty (last : Nat) : ({ last := last } : WriteCtx).reserve = 0 := by
  show KeySet.none.card + 0 + 0 + 0 = 0
  rw [card_none]

theorem empty_balanced {st : Store} {t : TakeId} (h : leftOpen (st.records t) = {}) (last : Nat) :
    ({ last := last } : WriteCtx).Balanced st t :=
  ⟨h.symm, reserve_empty last ▸ Nat.zero_le _⟩

theorem UseLaw.idle_writes_ne (h : UseLaw T s) {t : TakeId} (ht : (s.store.entry t).Idle) (o : TakeId)
    (ho : s.edit.writes = some o) : o ≠ t :=
  h.writes_ne (fun he => by obtain hs | hs := ht.state <;> cases hs.symm.trans he) o ho

theorem else_setState (st : Store) (t : TakeId) (x : TakeState) : st.Else (st.setState t x) t :=
  (sameBlocks_setState st t x).else fun o ho => by rw [entry_setState, if_neg ho]

theorem setState_own (st : Store) (t : TakeId) (x : TakeState) :
    (st.setState t x).entry t = { st.entry t with state := x } := by
  rw [entry_setState, if_pos rfl]

theorem setState_ne (st : Store) (t : TakeId) (x : TakeState) (o : TakeId) (h : o ≠ t) :
    (st.setState t x).entry o = st.entry o := by
  rw [entry_setState, if_neg h]

section
variable (h : Books b c T s) {t : TakeId} (ht : (s.store.entry t).Idle) (hrec : s.recorder = none) (hbulk : s.bulk = none)
include h ht hrec hbulk

theorem books_recordStarted (clock offset : Nat) :
    Books b c T ((s.withStore (s.store.setState t .recording)).withRecorder
      (some ⟨t, clock, offset, { last := offset }⟩)) := by
  have hne := h.1.idle_writes_ne ht
  have helse := else_setState s.store t .recording
  have hsame := sameBlocks_setState s.store t .recording
  refine h.next ⟨?_, .inr hbulk, h.1.saved⟩ fun hlaw hsaved =>
    ⟨hsame.blockLaw hlaw, hsaved.of_same_edit helse rfl hne, fun hbal => ?_⟩
  · have huses := h.1.uses
    rw [hrec] at huses
    exact huses.record (setState_ne _ _ _) ht (setState_own ..)
  · refine hbal.of_else (u := State.withRecorder _ _) helse (fun he => ?_) (fun he => ?_) (hbal.scale_else helse rfl hne)
      (fun r hr => ?_) (fun w hw => ?_) (hbal.copy_else helse rfl hne)
    · cases (congrArg TakeEntry.state (setState_own s.store t .recording)).symm.trans he
    · cases (congrArg TakeEntry.state (setState_own s.store t .recording)).symm.trans he
    · cases hr
      refine empty_balanced ?_ offset
      show leftOpen ((s.store.setState t .recording).records t) = {}
      rw [hsame.records]
      exact hbal.idle_leftOpen ht.state
    · cases hw.symm.trans hbulk

theorem books_opened : Books b c T ((s.withStore (s.store.setState t .writing)).withBulk (some ⟨t, 0, {}⟩)) := by
  have hne := h.1.idle_writes_ne ht
  have helse := else_setState s.store t .writing
  have hsame := sameBlocks_setState s.store t .writing
  refine h.next ⟨?_, .inl hrec, h.1.saved⟩ fun hlaw hsaved =>
    ⟨hsame.blockLaw hlaw, hsaved.of_same_edit helse rfl hne, fun hbal => ?_⟩
  · have huses := h.1.uses
    rw [hbulk] at huses
    exact huses.write (setState_ne _ _ _) ht (setState_own ..)
  · refine hbal.of_else (u := State.withBulk _ _) helse (fun he => ?_) (fun he => ?_) (hbal.scale_else helse rfl hne)
      (fun r hr => ?_) (fun w hw => ?_) (hbal.copy_else helse rfl hne)
    · cases (congrArg TakeEntry.state (setState_own s.store t .writing)).symm.trans he
    · cases (congrArg TakeEntry.state (setState_own s.store t .writing)).symm.trans he
    · cases hr.symm.trans hrec
    · cases hw
      refine empty_balanced ?_ 0
      show leftOpen ((s.store.setState t .writing).records t) = {}
      rw [hsame.records]
      exact hbal.idle_leftOpen ht.state

end

/-! ### The bulk writer -/

theorem checkRecords_untimed {x x' : WriteCtx} {rs : List RawRecord} {recs : List Record}
    (h : checkRecords x rs = some (recs, x')) :
    x'.untimed = (recs.map Record.body).foldl (fun c b => c.write 0 b) x.untimed := by
  induction rs generalizing x recs with
  | nil =>
    cases h
    rfl
  | cons r rs ih =>
    cases hp : parseRecord r with
    | none =>
      rw [checkRecords_cons_none hp] at h
      cases h
    | some rec =>
      cases hadmit : x.admits rec.body with
      | false =>
        rw [checkRecords_cons_refused hp hadmit] at h
        cases h
      | true =>
        rw [checkRecords_cons_some hp hadmit] at h
        obtain ⟨⟨recs', y⟩, hrest, heq⟩ := Option.map_eq_some_iff.1 h
        cases heq
        rw [List.map_cons, List.foldl_cons, ← untimed_write x (x.last + rec.delta)]
        exact ih hrest

section
variable (h : Books b c T s) {w : BulkWriting} (hw : s.bulk = some w)
include h hw

theorem books_bulkWritten {rs : List RawRecord} {recs : List Record} {ctx : WriteCtx}
    (hcheck : checkRecords w.ctx rs = some (recs, ctx)) (hroom : recs.length + ctx.reserve ≤ s.store.takeFree w.take)
    (cursor : Nat) : Books b c T ((s.withStore (s.store.appendAll w.take recs)).withBulk
      (some { w with cursor := cursor, ctx := ctx })) := by
  have hstate := h.1.writing hw
  have hne := h.1.writes_ne (t := w.take) (by rw [hstate]; nofun)
  refine h.next ⟨?_, .inl (h.1.recorder_none hw), h.1.saved⟩ fun hlaw hsaved => ?_
  · have huses := h.1.uses.congr (appendAll_marks s.store w.take recs)
    rw [hw] at huses
    exact huses
  · have hgrown := appendAll_grown hlaw (t := w.take) (rs := recs) (by omega)
    have helse := hgrown.else
    have hown : ((s.store.appendAll w.take recs).entry w.take).state = .writing := (hgrown.marks _).1.trans hstate
    refine ⟨hgrown.law, hsaved.of_same_edit helse rfl hne, fun hbal => ?_⟩
    refine hbal.of_else (u := State.withBulk _ _) helse (fun he => ?_) (fun he => ?_)
      (hbal.scale_else helse rfl hne) (fun r hr => ?_) (fun w' hw' => ?_) (hbal.copy_else helse rfl hne)
    · cases hown.symm.trans he
    · cases hown.symm.trans he
    · cases hr.symm.trans (h.1.recorder_none hw)
    · cases hw'
      obtain ⟨hopen, -⟩ := hbal.2.2.2.2.1 w hw
      refine ⟨?_, ?_⟩
      · show ctx.untimed = leftOpen ((s.store.appendAll w.take recs).records w.take)
        rw [hgrown.records, leftOpen_append_all, ← hopen]
        exact checkRecords_untimed hcheck
      · have hfree := hgrown.room
        show ctx.reserve ≤ (s.store.appendAll w.take recs).takeFree w.take
        omega

theorem books_bulkClosed (time : Nat) :
    Books b c T ((s.withStore (s.store.finished w.take time w.ctx)).withBulk none) := by
  have hstate := h.1.writing hw
  have hne := h.1.writes_ne (t := w.take) (by rw [hstate]; nofun)
  refine h.next ⟨?_, .inr rfl, h.1.saved⟩ fun hlaw hsaved => ?_
  · have huses := h.1.uses
    rw [hw] at huses
    exact huses.writeFinished time w.ctx
  · obtain ⟨hlaw', helse⟩ := finished_else hlaw w.take time w.ctx
    refine ⟨hlaw', hsaved.of_same_edit helse rfl hne, fun hbal => ?_⟩
    refine hbal.of_else (u := State.withBulk _ _) helse (fun he => ?_) (fun _ => ?_)
      (hbal.scale_else helse rfl hne) (fun r hr => ?_) nofun (hbal.copy_else helse rfl hne)
    · cases (finished_own ..).symm.trans he
    · exact finished_balanced hlaw (hbal.2.2.2.2.1 w hw) time
    · cases hr.symm.trans (h.1.recorder_none hw)

end

/-! ### Erasing a take -/

theorem else_rollback {st : Store} (h : st.BlockLaw) {dst : TakeId} {saved : TakeEntry}
    (hs : saved.SavedIn (st.entry dst) (st.chain dst)) : st.Else (st.rollback dst saved) dst := by
  obtain ⟨-, hother, -⟩ := rollback_spec h hs
  exact ⟨fun o ho => by rw [rollback_entry_ne st ho], fun o ho => by rw [rollback_entry_ne st ho],
    fun o ho => by rw [rollback_entry_ne st ho], fun o ho => (hother o ho).1, fun o ho => (hother o ho).2.1⟩

/-- A writer of another take keeps its records and at least its room. -/
theorem WriteCtx.Balanced.rollback {st : Store} {x : WriteCtx} {o : TakeId} (hx : x.Balanced st o) (h : st.BlockLaw)
    {dst : TakeId} {saved : TakeEntry} (hs : saved.SavedIn (st.entry dst) (st.chain dst)) (ho : o ≠ dst) :
    x.Balanced (st.rollback dst saved) o := by
  obtain ⟨-, hrecords, hfree⟩ := (rollback_spec h hs).2.1 o ho
  exact ⟨hrecords ▸ hx.1, Nat.le_trans hx.2 hfree⟩

theorem books_erased (h : Books b c T s) {t : TakeId} (ht : (s.store.entry t).Idle) :
    Books b c T (s.withStore (s.store.eraseTake t)) := by
  have hne := h.1.idle_writes_ne ht
  rw [eraseTake_eq ht.played ht.read]
  have hown : (s.store.rollback t {}).entry t = {} := by rw [rollback_entry_dst, ht.played, ht.read]
  refine h.next ⟨?_, h.1.single, h.1.saved⟩ fun hlaw hsaved => ?_
  · have hidle : ((s.store.rollback t {}).entry t).Idle := by
      rw [hown]
      exact ⟨.inl rfl, rfl, rfl⟩
    exact h.1.uses.erase (fun o ho => rollback_entry_ne s.store ho {}) ht hidle
  · have helse := else_rollback hlaw (savedIn_empty t)
    refine ⟨(rollback_spec hlaw (savedIn_empty t)).1, hsaved.of_same_edit helse rfl hne, fun hbal => ?_⟩
    refine hbal.of_else (u := s.withStore _) helse (fun _ => congrArg TakeEntry.count hown) (fun he => ?_)
      (hbal.scale_else helse rfl hne) (fun r hr => ?_) (fun w hw => ?_) (hbal.copy_else helse rfl hne)
    · cases (congrArg TakeEntry.state hown).symm.trans he
    · refine WriteCtx.Balanced.rollback (hbal.2.2.2.1 r hr) hlaw (savedIn_empty t) fun heq => ?_
      have hs := h.1.recording hr
      rw [heq] at hs
      obtain ht | ht := ht.state <;> cases ht.symm.trans hs
    · refine WriteCtx.Balanced.rollback (hbal.2.2.2.2.1 w hw) hlaw (savedIn_empty t) fun heq => ?_
      have hs := h.1.writing hw
      rw [heq] at hs
      obtain ht | ht := ht.state <;> cases ht.symm.trans hs

end

end Sys2Proof.Machine
end

section
/-! PROOFS. The laws of take use, of blocks and of balanced takes through the Player's marks and the Edit Unit (sections
9.2, 9.5, 10.1 to 10.5). -/

namespace Sys2Proof.Machine

open Sys2Proof.StepRows

section
variable {b c : Prop} {T : Option TakeId} {s : State}

/-! ### Marks alone -/

theorem entry_marked {st : Store} {t : TakeId} {e : TakeEntry} (h : e.state = (st.entry t).state) (o : TakeId) :
    ((st.withEntry t e).entry o).state = (st.entry o).state := by
  rw [entry_withEntry]
  split
  next ho => exact ho ▸ h
  next => rfl

theorem WriteCtx.Balanced.of_sameBlocks {st v : Store} (hsame : st.SameBlocks v) {x : WriteCtx} {t : TakeId}
    (h : x.Balanced st t) : x.Balanced v t :=
  ⟨hsame.records t ▸ h.1, hsame.takeFree t ▸ h.2⟩

theorem CopyJob.Balanced.of_sameBlocks {st v : Store} (hsame : st.SameBlocks v) {j : CopyJob} (h : j.Balanced st) :
    j.Balanced v := by
  rw [CopyJob.Balanced, hsame.records]
  exact h

section
variable {u : State} (hsame : s.store.SameBlocks u.store)
include hsame

theorem SavedLaw.of_sameBlocks (h : SavedLaw s)
    (hedit : ∀ j, u.edit = .copy j → ∃ j', s.edit = .copy j' ∧ j'.saved = j.saved ∧ j'.dst = j.dst) : SavedLaw u := by
  intro j hj
  obtain ⟨j', hj', hsaved, hdst⟩ := hedit j hj
  have hs := h j' hj'
  rw [hsaved, hdst] at hs
  exact TakeEntry.SavedIn.grow hs (Nat.le_of_eq (hsame.count j.dst).symm) ⟨[], by rw [hsame.chain, List.append_nil]⟩

/-- Marks alone change: the takes stay balanced, and an edit command is left to be judged. -/
theorem BalanceLaw.of_sameBlocks (h : BalanceLaw s) (hstate : ∀ o, (u.store.entry o).state = (s.store.entry o).state)
    (hrec : u.recorder = s.recorder) (hbulk : u.bulk = s.bulk)
    (hscale : ∀ j, u.edit = .scale j → leftOpen (s.store.records j.take) = {})
    (hcopy : ∀ j, u.edit = .copy j → j.Balanced s.store) : BalanceLaw u := by
  obtain ⟨h1, h2, -, h4, h5, -⟩ := h
  refine ⟨fun o ho => ?_, fun o ho => ?_, fun j hj => ?_, fun r hr => ?_, fun w hw => ?_, fun j hj => ?_⟩
  · rw [hsame.count]
    exact h1 o ((hstate o).symm.trans ho)
  · rw [hsame.records]
    exact h2 o ((hstate o).symm.trans ho)
  · rw [hsame.records]
    exact hscale j hj
  · exact WriteCtx.Balanced.of_sameBlocks hsame (h4 r (hrec.symm.trans hr))
  · exact WriteCtx.Balanced.of_sameBlocks hsame (h5 w (hbulk.symm.trans hw))
  · exact CopyJob.Balanced.of_sameBlocks hsame (hcopy j hj)

end

/-- A mark of one take changes, and nothing of the writers. -/
theorem Books.mark (h : Books b c T s) {T' : Option TakeId} {t : TakeId} {e : TakeEntry}
    (hsame : s.store.SameBlocks (s.store.withEntry t e)) (hstate : e.state = (s.store.entry t).state)
    (huses : Uses (s.store.withEntry t e).entry (s.recorder.map Recording.take) (s.bulk.map BulkWriting.take)
      s.edit.writes T' s.edit.reads) : Books b c T' (s.withStore (s.store.withEntry t e)) := by
  refine h.next ⟨huses, h.1.single, h.1.saved⟩ fun hlaw hsaved => ⟨hsame.blockLaw hlaw, ?_, fun hbal => ?_⟩
  · exact hsaved.of_sameBlocks (u := s.withStore _) hsame fun j hj => ⟨j, hj, rfl, rfl⟩
  · exact hbal.of_sameBlocks (u := s.withStore _) hsame (entry_marked hstate) rfl rfl hbal.2.2.1 hbal.2.2.2.2.2

theorem books_played (h : Books b c none s) {t : TakeId} (ht : (s.store.entry t).state = .ready) :
    Books b c (some t) (s.withStore (s.store.withEntry t { s.store.entry t with played := true })) :=
  h.mark (sameBlocks_withEntry rfl rfl rfl rfl) rfl
    (h.1.uses.play (fun _ ho => entry_withEntry_ne _ ho _) ht (entry_withEntry_same ..))

theorem books_unplayed {t : TakeId} (h : Books b c (some t) s) :
    Books b c none (s.withStore (s.store.withEntry t { s.store.entry t with played := false })) :=
  h.mark (sameBlocks_withEntry rfl rfl rfl rfl) rfl
    (h.1.uses.unplay (fun _ ho => entry_withEntry_ne _ ho _) (entry_withEntry_same ..))

theorem books_clearPlayed (h : Books b c T s) : Books b c none (clearPlayed T s) := by
  cases T with
  | none => exact h
  | some t => exact books_unplayed h

theorem setRead_state (st : Store) (t : TakeId) (on : Bool) (o : TakeId) :
    ((st.setRead t on).entry o).state = (st.entry o).state :=
  entry_marked (e := { st.entry t with read := on }) rfl o

/-! ### A command of the Edit Unit begins -/

theorem UseLaw.unread (h : UseLaw T s) (hidle : s.edit = .idle) (t : TakeId) : (s.store.entry t).read = false := by
  refine Bool.eq_false_iff.2 fun hread => ?_
  have hreads := (h.uses t).read.1 hread
  rw [hidle] at hreads
  cases hreads

theorem UseLaw.unplayed_or (h : UseLaw T s) {t : TakeId} (ht : (s.store.entry t).state = .empty) :
    (s.store.entry t).played = false := by
  refine Bool.eq_false_iff.2 fun hplayed => ?_
  cases ht.symm.trans ((h.uses t).ready (.inl hplayed))

section
variable (h : Books b c T s) (hidle : s.edit = .idle)
include h hidle

theorem books_searchStarted {t : TakeId} (ht : (s.store.entry t).state = .ready) {j : SearchJob} (hj : j.take = t) :
    Books b c T ((s.withStore (s.store.setRead t true)).withEdit (.search j)) := by
  have hsame := sameBlocks_setRead s.store t true
  refine h.next ⟨?_, h.1.single, nofun⟩ fun hlaw hsaved => ⟨hsame.blockLaw hlaw, nofun, fun hbal => ?_⟩
  · have huses := h.1.uses
    rw [hidle] at huses
    subst hj
    exact huses.read (fun _ ho => entry_withEntry_ne _ ho _) ht (entry_withEntry_same ..)
  · exact hbal.of_sameBlocks (u := State.withEdit _ _) hsame (entry_marked rfl) rfl rfl nofun nofun

theorem books_scaleStarted {t : TakeId} (ht : (s.store.entry t).state = .ready) (hplayed : (s.store.entry t).played = false)
    {j : ScaleJob} (hj : j.take = t) : Books b c T ((s.withStore (s.store.setState t .editing)).withEdit (.scale j)) := by
  have hsame := sameBlocks_setState s.store t .editing
  have hfree : (s.store.entry t).Idle := ⟨.inr ht, hplayed, h.1.unread hidle t⟩
  subst hj
  refine h.next ⟨?_, h.1.single, nofun⟩ fun hlaw hsaved => ⟨hsame.blockLaw hlaw, nofun, fun hbal => ?_⟩
  · have huses := h.1.uses
    rw [hidle] at huses
    exact huses.edit (setState_ne _ _ _) hfree (setState_own ..)
  · have hown := congrArg TakeEntry.state (setState_own s.store j.take .editing)
    refine hbal.of_else (u := State.withEdit _ _) (else_setState s.store j.take .editing) (fun he => ?_) (fun he => ?_)
      (fun j' hj' => ?_) (fun r hr => .of_sameBlocks hsame (hbal.2.2.2.1 r hr))
      (fun w hw => .of_sameBlocks hsame (hbal.2.2.2.2.1 w hw)) nofun
    · cases hown.symm.trans he
    · cases hown.symm.trans he
    · cases hj'
      show leftOpen ((s.store.setState j.take .editing).records j.take) = {}
      rw [hsame.records]
      exact hbal.2.1 j.take ht

theorem books_copyStarted {src dst : TakeId} (hne : src ≠ dst) (hsrc : (s.store.entry src).state = .ready)
    (hdst : (s.store.entry dst).state = .empty ∨ (s.store.entry dst).state = .ready)
    (hplayed : (s.store.entry dst).played = false) (f u : Nat) (app : Bool) :
    Books b c T (startCopy src dst f u app s) := by
  have hread := sameBlocks_setRead s.store src true
  have hsame := hread.trans (sameBlocks_setState (s.store.setRead src true) dst .editing)
  have hentry : (s.store.setRead src true).entry dst = s.store.entry dst := entry_withEntry_ne _ hne.symm _
  have hown := congrArg TakeEntry.state (setState_own (s.store.setRead src true) dst .editing)
  refine h.next ⟨?_, h.1.single, ?_⟩ fun hlaw hsaved => ⟨hsame.blockLaw hlaw, ?_, fun hbal => ?_⟩
  · have huses := h.1.uses
    rw [hidle] at huses
    refine (huses.read (g := (s.store.setRead src true).entry) (fun _ ho => entry_withEntry_ne _ ho _) hsrc
      (entry_withEntry_same ..)).edit (setState_ne _ _ _) ?_ (setState_own ..)
    rw [hentry]
    exact ⟨hdst, hplayed, h.1.unread hidle dst⟩
  · intro j hj
    cases hj
    exact hdst
  · intro j hj
    cases hj
    exact (savedIn_self hlaw dst).grow (Nat.le_of_eq (hsame.count dst).symm)
      ⟨[], by rw [List.append_nil]; exact hsame.chain dst⟩
  · have helse : s.store.Else ((s.store.setRead src true).setState dst .editing) dst :=
      (hread.else fun o _ => setRead_state ..).trans (else_setState ..)
    refine hbal.of_else (u := startCopy src dst f u app s) helse (fun he => ?_) (fun he => ?_)
      nofun (fun r hr => .of_sameBlocks hsame (hbal.2.2.2.1 r hr))
      (fun w hw => .of_sameBlocks hsame (hbal.2.2.2.2.1 w hw)) fun j hj => ?_
    · cases hown.symm.trans he
    · cases hown.symm.trans he
    · cases hj
      refine .of_sameBlocks hsame ⟨(hbal.idle_leftOpen hdst).symm, hbal.1 dst, fun hs => ?_⟩
      show leftOpen ((s.store.records dst).take (s.store.entry dst).count) = {}
      rw [List.take_of_length_le (Nat.le_of_eq (records_length s.store dst))]
      exact hbal.2.1 dst hs

end

/-! ### A search and a scaling go on and end -/

/-- A scaled record leaves open what the record before it did. -/
theorem scaled_write {j : ScaleJob} {time : Nat} {r r' : Record} (hr : j.scaled time r = some r') (x : WriteCtx) :
    x.write 0 r'.body = x.write 0 r.body := by
  unfold ScaleJob.scaled at hr
  split at hr
  next k v p hbody =>
    split at hr
    · cases hr
      rw [hbody]
      rfl
    · cases hr
  next => cases hr

section
variable (h : Books b c T s)
include h

theorem books_searching {j : SearchJob} (hj : s.edit = .search j) {j' : SearchJob} (ht : j'.take = j.take) :
    Books b c T (s.withEdit (.search j')) := by
  refine h.next ⟨?_, h.1.single, nofun⟩ fun hlaw hsaved => ⟨hlaw, nofun, fun hbal => ?_⟩
  · have huses := h.1.uses
    rw [hj] at huses
    show Uses s.store.entry _ _ none T (some j'.take)
    rw [ht]
    exact huses
  · obtain ⟨h1, h2, -, h4, h5, -⟩ := hbal
    exact ⟨h1, h2, nofun, h4, h5, nofun⟩

theorem books_searchEnded {j : SearchJob} (hj : s.edit = .search j) (result : EditResult) (n time : Nat) :
    Books b c T (s.searchEnded j result n time) := by
  have hsame := sameBlocks_setRead s.store j.take false
  refine h.next ⟨?_, h.1.single, nofun⟩ fun hlaw hsaved => ⟨hsame.blockLaw hlaw, nofun, fun hbal => ?_⟩
  · have huses := h.1.uses
    rw [hj] at huses
    exact huses.unread (fun _ ho => entry_withEntry_ne _ ho _) (entry_withEntry_same ..)
  · exact hbal.of_sameBlocks (u := s.searchEnded j result n time) hsame (entry_marked rfl) rfl rfl nofun nofun

theorem books_scaleEnded {j : ScaleJob} (hj : s.edit = .scale j) {j' : ScaleJob} (ht : j'.take = j.take) (result : EditResult) :
    Books b c T (s.scaleEnded j' result) := by
  have hsame := sameBlocks_setState s.store j.take .ready
  have hends : s.scaleEnded j' result = { s with
      store := s.store.setState j.take .ready, edit := .idle, link := (s.scaleEnded j' result).link } := by
    rw [← ht]
    rfl
  rw [hends]
  refine h.next ⟨?_, h.1.single, nofun⟩ fun hlaw hsaved => ⟨hsame.blockLaw hlaw, nofun, fun hbal => ?_⟩
  · have huses := h.1.uses
    rw [hj] at huses
    refine huses.edited (setState_ne _ _ _) (.inr ?_) ?_ ?_ <;> exact (congrArg _ (setState_own s.store j.take .ready)).trans rfl
  · refine hbal.of_else (u := { s with store := _, edit := _, link := _ }) (else_setState s.store j.take .ready)
      (fun he => ?_) (fun _ => ?_) nofun (fun r hr => .of_sameBlocks hsame (hbal.2.2.2.1 r hr))
      (fun w hw => .of_sameBlocks hsame (hbal.2.2.2.2.1 w hw)) nofun
    · cases (congrArg TakeEntry.state (setState_own s.store j.take .ready)).symm.trans he
    · show leftOpen ((s.store.setState j.take .ready).records j.take) = {}
      rw [hsame.records]
      exact hbal.2.2.1 j hj

theorem books_scaling {j : ScaleJob} (hj : s.edit = .scale j) {j' : ScaleJob} (ht : j'.take = j.take) :
    Books b c T (s.withEdit (.scale j')) := by
  refine h.next ⟨?_, h.1.single, nofun⟩ fun hlaw hsaved => ⟨hlaw, nofun, fun hbal => ?_⟩
  · have huses := h.1.uses
    rw [hj] at huses
    show Uses s.store.entry _ _ (some j'.take) T none
    rw [ht]
    exact huses
  · obtain ⟨h1, h2, h3, h4, h5, -⟩ := hbal
    refine ⟨h1, h2, fun k hk => ?_, h4, h5, nofun⟩
    cases hk
    rw [ht]
    exact h3 j hj

theorem books_replaced {j : ScaleJob} (hj : s.edit = .scale j) {i : Nat} {r : Record}
    (hbody : ∀ x : WriteCtx, x.write 0 r.body = x.write 0 (s.store.record j.take i).body) :
    Books b c T (s.withStore (s.store.replace j.take i r)) := by
  have hnone : ∀ k, s.edit ≠ .copy k := fun k hk => by cases hj.symm.trans hk
  refine h.next ⟨?_, h.1.single, h.1.saved⟩ fun hlaw hsaved => ?_
  · have hentry : (s.store.replace j.take i r).entry = s.store.entry := by
      unfold Store.replace
      split <;> rfl
    show Uses (s.store.replace j.take i r).entry _ _ _ _ _
    rw [hentry]
    exact h.1.uses
  · obtain ⟨hlaw', htakes, hchain, hfree, hopen⟩ := replace_spec hlaw hbody
    have hentry (o : TakeId) : (s.store.replace j.take i r).entry o = s.store.entry o := by
      rw [Store.entry, htakes]
      rfl
    have hleft (o : TakeId) : leftOpen ((s.store.replace j.take i r).records o) = leftOpen (s.store.records o) := by
      have hall := hopen o (s.store.entry o).count
      rw [List.take_of_length_le (by rw [records_length, hentry]), List.take_of_length_le (by rw [records_length])] at hall
      exact hall
    refine ⟨hlaw', fun k hk => absurd hk (hnone k), fun hbal => ?_⟩
    obtain ⟨h1, h2, h3, h4, h5, -⟩ := hbal
    refine ⟨fun o ho => ?_, fun o ho => ?_, fun k hk => (hleft _).trans (h3 k hk), fun q hq => ?_, fun w hw => ?_,
      fun k hk => absurd hk (hnone k)⟩
    · exact (congrArg TakeEntry.count (hentry o)).trans (h1 o ((congrArg TakeEntry.state (hentry o)).symm.trans ho))
    · exact (hleft o).trans (h2 o ((congrArg TakeEntry.state (hentry o)).symm.trans ho))
    · exact ⟨(h4 q hq).1.trans (hleft _).symm, (h4 q hq).2.trans_eq (hfree _).symm⟩
    · exact ⟨(h5 w hw).1.trans (hleft _).symm, (h5 w hw).2.trans_eq (hfree _).symm⟩

theorem books_scaleRead {j : ScaleJob} (hj : s.edit = .scale j) :
    Books b c T ((s.withStore (scaleRead j s.store).1).withEdit (.scale (scaleRead j s.store).2)) := by
  cases hr : j.scaled j.time (s.store.record j.take j.index) with
  | none =>
    rw [scaleRead, hr]
    exact books_scaling h hj rfl
  | some r =>
    rw [scaleRead, hr]
    exact books_scaling (books_replaced h hj (scaled_write hr)) hj rfl

end

end

end Sys2Proof.Machine
end

section
/-! PROOFS. The laws of take use, of blocks and of balanced takes through the steps of a copy (sections 10.2 and 10.5). -/

namespace Sys2Proof.Machine

open Sys2Proof.StepRows

/-! ### What the writing of a copy keeps -/

/-- A property of the work so far, where a room check stopped it too. -/
def CopyResult.Holds (P : CopyWork → Prop) : CopyResult → Prop
  | .ok w => P w
  | .error w => P w

section
variable {P : CopyWork → Prop} {s : State} {dst : TakeId}
  (h : ∀ time b w w', P w → copyWrite s dst time b w = .ok w' → P w')
include h

theorem copyWrite_holds (time : Nat) (b : Body) {w : CopyWork} (hw : P w) :
    CopyResult.Holds P (copyWrite s dst time b w) := by
  cases hr : copyWrite s dst time b w with
  | ok w' => exact h time b w w' hw hr
  | error w' =>
    rw [copyWrite_eq] at hr
    split at hr
    · cases hr
    · cases hr
      exact hw

theorem copyGaps_holds (n : Nat) {w : CopyWork} (hw : P w) : CopyResult.Holds P (copyGaps s dst n w) := by
  induction n generalizing w with
  | zero => exact hw
  | succ n ih =>
    have hone := copyWrite_holds h (w.ctx.last + 65535) .gap hw
    rw [copyGaps]
    cases hr : copyWrite s dst (w.ctx.last + 65535) .gap w with
    | ok w' =>
      rw [hr] at hone
      exact ih hone
    | error w' =>
      rw [hr] at hone
      exact hone

theorem copyRecord_holds (time : Nat) (b : Body) {w : CopyWork} (hw : P w) :
    CopyResult.Holds P (copyRecord s dst time w b) := by
  have hgaps := copyGaps_holds h ((time - w.ctx.last - 1) / 65535) hw
  rw [copyRecord]
  cases hr : copyGaps s dst ((time - w.ctx.last - 1) / 65535) w with
  | ok w' =>
    rw [hr] at hgaps
    exact copyWrite_holds h time b hgaps
  | error w' =>
    rw [hr] at hgaps
    exact hgaps

theorem copyAll_holds (time : Nat) (bs : List Body) {w : CopyWork} (hw : P w) :
    CopyResult.Holds P (copyAll s dst time bs w) := by
  induction bs generalizing w with
  | nil => exact hw
  | cons b bs ih =>
    have hone := copyRecord_holds h time b hw
    rw [copyAll_cons]
    cases hr : copyRecord s dst time w b with
    | ok w' =>
      rw [hr] at hone
      exact ih hone
    | error w' =>
      rw [hr] at hone
      exact hone

end

/-! ### What the writing of a copy leaves open -/

section
variable {s : State} {dst : TakeId} {time : Nat}

theorem copyWrite_ctx {b : Body} {w w' : CopyWork} (h : copyWrite s dst time b w = .ok w') : w'.ctx = w.ctx.write time b := by
  rw [copyWrite_eq] at h
  split at h
  · cases h
    rfl
  · cases h

theorem copyGaps_untimed (n : Nat) {w w' : CopyWork} (h : copyGaps s dst n w = .ok w') : w'.ctx.untimed = w.ctx.untimed := by
  induction n generalizing w with
  | zero =>
    cases h
    rfl
  | succ n ih =>
    rw [copyGaps] at h
    cases hr : copyWrite s dst (w.ctx.last + 65535) .gap w with
    | ok v =>
      rw [hr] at h
      rw [ih h, copyWrite_ctx hr]
      rfl
    | error v =>
      rw [hr] at h
      cases h

theorem copyRecord_untimed {b : Body} {w w' : CopyWork} (h : copyRecord s dst time w b = .ok w') :
    w'.ctx.untimed = w.ctx.untimed.write 0 b := by
  rw [copyRecord] at h
  cases hr : copyGaps s dst ((time - w.ctx.last - 1) / 65535) w with
  | ok v =>
    rw [hr] at h
    rw [copyWrite_ctx h, untimed_write, copyGaps_untimed _ hr]
  | error v =>
    rw [hr] at h
    cases h

theorem copyAll_untimed {bs : List Body} {w w' : CopyWork} (h : copyAll s dst time bs w = .ok w') :
    w'.ctx.untimed = bs.foldl (fun c b => c.write 0 b) w.ctx.untimed := by
  induction bs generalizing w with
  | nil =>
    cases h
    rfl
  | cons b bs ih =>
    rw [copyAll_cons] at h
    cases hr : copyRecord s dst time w b with
    | ok v =>
      rw [hr] at h
      rw [ih h, copyRecord_untimed hr]
      rfl
    | error v =>
      rw [hr] at h
      cases h

end

/-! ### The laws while a copy writes -/

/-- The job with what the copy has made so far. -/
def CopyJob.working (j : CopyJob) (w : CopyWork) : CopyJob := { j with ctx := w.ctx, written := w.written }

/-- The part with what a copy has made so far. -/
def State.copying (s : State) (j : CopyJob) (w : CopyWork) : State :=
  (s.withStore w.store).withEdit (.copy (j.working w))

theorem copying_edit (s : State) (j : CopyJob) (w : CopyWork) : (s.copying j w).edit = .copy (j.working w) := rfl

section
variable {b c : Prop} {T : Option TakeId} {s : State}

/-- The job's cursor and flag are its own. -/
theorem books_placed (h : Books b c T s) {j j' : CopyJob} (hj : s.edit = .copy j) (hsrc : j'.src = j.src) (hdst : j'.dst = j.dst)
    (hctx : j'.ctx = j.ctx) (hsaved : j'.saved = j.saved) : Books b c T (s.withEdit (.copy j')) := by
  refine h.next ⟨?_, h.1.single, fun k hk => ?_⟩ fun hlaw hs => ⟨hlaw, fun k hk => ?_, fun hbal => ?_⟩
  · have huses := h.1.uses
    rw [hj] at huses
    show Uses s.store.entry _ _ (some j'.dst) T (some j'.src)
    rw [hsrc, hdst]
    exact huses
  · cases hk
    rw [hsaved]
    exact h.1.saved j hj
  · cases hk
    have hprefix := hs j hj
    rw [← hsaved, ← hdst] at hprefix
    exact hprefix
  · obtain ⟨h1, h2, -, h4, h5, h6⟩ := hbal
    refine ⟨h1, h2, nofun, h4, h5, fun k hk => ?_⟩
    cases hk
    have hown := h6 j hj
    rw [← hsaved, ← hdst, ← hctx] at hown
    exact hown

theorem othersOk_recorder {st : Store} (h : othersOk s st = true) {r : Recording} (hr : s.recorder = some r) :
    r.ctx.reserve ≤ st.takeFree r.take := by
  rw [othersOk, hr, Bool.and_eq_true] at h
  exact of_decide_eq_true h.1

theorem othersOk_bulk {st : Store} (h : othersOk s st = true) {w : BulkWriting} (hw : s.bulk = some w) :
    w.ctx.reserve ≤ st.takeFree w.take := by
  rw [othersOk, hw, Bool.and_eq_true] at h
  exact of_decide_eq_true h.2

/-- Every record a copy writes keeps the laws: its room check leaves the other writers their reserves (R169). -/
theorem books_copyWrite {j : CopyJob} {w w' : CopyWork} (h : Books b c T (s.copying j w)) {time : Nat} {body : Body}
    (hw : copyWrite s j.dst time body w = .ok w') : Books b c T (s.copying j w') := by
  rw [copyWrite_eq] at hw
  split at hw
  next hok =>
    cases hw
    obtain ⟨hroom, hothers⟩ := hok
    have hstate : (w.store.entry j.dst).state = .editing := h.1.copying (j := j.working w) (copying_edit s j w)
    refine h.next ⟨h.1.uses.congr (append_marks w.store j.dst ⟨time - w.ctx.last, body⟩), h.1.single, fun k hk => ?_⟩
      fun hlaw hsaved => ?_
    · cases hk
      exact h.1.saved (j.working w) (copying_edit s j w)
    · have hlaw : w.store.BlockLaw := hlaw
      have hprefix := hsaved _ (copying_edit s j w)
      have hgrown := append_grown hlaw (t := j.dst) (by omega) ⟨time - w.ctx.last, body⟩
      have helse := hgrown.else
      have hown : ((w.store.append j.dst ⟨time - w.ctx.last, body⟩).entry j.dst).state = .editing :=
        (hgrown.marks _).1.trans hstate
      refine ⟨hgrown.law, fun k hk => ?_, fun hbal => ?_⟩
      · cases hk
        refine TakeEntry.SavedIn.grow hprefix ?_ hgrown.chain
        show (w.store.entry j.dst).count ≤ ((w.store.append j.dst _).entry j.dst).count
        rw [hgrown.count]
        exact Nat.le_add_right ..
      · refine hbal.of_else (s := s.copying j w) (u := s.copying j _) helse (fun he => ?_) (fun he => ?_) nofun
          (fun r hr => ?_) (fun v hv => ?_) fun k hk => ?_
        · cases hown.symm.trans he
        · cases hown.symm.trans he
        · have hne : r.take ≠ j.dst := ne_of_state hstate (h.1.recording (s := s.copying j w) hr) nofun
          refine ⟨(hbal.2.2.2.1 r hr).1.trans ?_, othersOk_recorder hothers hr⟩
          exact congrArg leftOpen (helse.records _ hne).symm
        · have hne : v.take ≠ j.dst := ne_of_state hstate (h.1.writing (s := s.copying j w) hv) nofun
          refine ⟨(hbal.2.2.2.2.1 v hv).1.trans ?_, othersOk_bulk hothers hv⟩
          exact congrArg leftOpen (helse.records _ hne).symm
        · cases hk
          obtain ⟨hopen, hempty, hready⟩ := hbal.2.2.2.2.2 _ (copying_edit s j w)
          refine ⟨?_, hempty, fun hs => ?_⟩
          · show (w.ctx.write time body).untimed = leftOpen ((w.store.append j.dst _).records j.dst)
            rw [hgrown.records, leftOpen_append, untimed_write]
            exact congrArg (·.write 0 body) hopen
          · show leftOpen (((w.store.append j.dst _).records j.dst).take j.saved.count) = {}
            have hle : j.saved.count ≤ (w.store.records j.dst).length := by
              rw [records_length]
              exact hprefix.1
            rw [hgrown.records, List.take_append_of_le_length hle]
            exact hready hs
  next => cases hw

/-- A rollback keeps the laws: the destination's first records are those of the saved entry (R171). -/
theorem books_copyUndone (h : Books b c T s) {j k : CopyJob} (hk : s.edit = .copy k) (hsrc : k.src = j.src) (hdst : k.dst = j.dst)
    (hsaved : k.saved = j.saved) (result : EditResult) : Books b c T (s.copyUndone j result) := by
  have hstate : (s.store.entry j.dst).state = .editing := hdst ▸ h.1.copying hk
  have hsame := sameBlocks_setRead (s.store.rollback j.dst j.saved) j.src false
  refine h.next ⟨?_, h.1.single, nofun⟩ fun hlaw hs => ?_
  · have huses := h.1.uses
    rw [hk] at huses
    have hrolled : Uses (s.store.rollback j.dst j.saved).entry (s.recorder.map Recording.take) (s.bulk.map BulkWriting.take)
        none T (some j.src) := by
      have huses : Uses s.store.entry (s.recorder.map Recording.take) (s.bulk.map BulkWriting.take) (some j.dst) T
          (some j.src) := hdst ▸ hsrc ▸ huses
      refine huses.edited (fun o ho => rollback_entry_ne s.store ho j.saved) ?_ ?_ ?_
      all_goals rw [rollback_entry_dst]
      exact hsaved ▸ h.1.saved k hk
    exact hrolled.unread (fun _ ho => entry_withEntry_ne _ ho _) (entry_withEntry_same ..)
  · have hprefix : j.saved.SavedIn (s.store.entry j.dst) (s.store.chain j.dst) := hdst ▸ hsaved ▸ hs k hk
    obtain ⟨hlaw', -, hrecords⟩ := rollback_spec hlaw hprefix
    refine ⟨hsame.blockLaw hlaw', nofun, fun hbal => ?_⟩
    have helse : s.store.Else (j.rolledBack s.store) j.dst :=
      (else_rollback hlaw hprefix).trans (hsame.else fun o _ => setRead_state ..)
    obtain ⟨-, hempty, hready⟩ : CopyJob.Balanced k s.store := hbal.2.2.2.2.2 k hk
    rw [hsaved] at hempty hready
    rw [hdst] at hready
    have hrolled : ((j.rolledBack s.store).entry j.dst).state = j.saved.state := by
      rw [CopyJob.rolledBack, setRead_state, rollback_entry_dst]
    refine hbal.of_else (u := s.copyUndone j result) helse (fun he => ?_) (fun he => ?_) nofun
      (fun r hr => ?_) (fun w hw => ?_) nofun
    · show ((j.rolledBack s.store).entry j.dst).count = 0
      rw [CopyJob.rolledBack, hsame.count, rollback_entry_dst]
      exact hempty (hrolled.symm.trans he)
    · show leftOpen ((j.rolledBack s.store).records j.dst) = {}
      rw [CopyJob.rolledBack, hsame.records, hrecords]
      exact hready (hrolled.symm.trans he)
    · exact .of_sameBlocks hsame (.rollback (hbal.2.2.2.1 r hr) hlaw hprefix (ne_of_state hstate (h.1.recording hr) nofun))
    · exact .of_sameBlocks hsame (.rollback (hbal.2.2.2.2.1 w hw) hlaw hprefix (ne_of_state hstate (h.1.writing hw) nofun))

/-- A copy that has written its closing sequence leaves its take balanced (R170). -/
theorem books_copyFinished {j : CopyJob} {w : CopyWork} (h : Books b c T (s.copying j w)) (hclosed : w.ctx.untimed = {}) :
    Books b c T (copyDone j .ok w.written (s.withStore (w.store.setState j.dst .ready))) := by
  have hready := sameBlocks_setState w.store j.dst .ready
  have hsame := hready.trans (sameBlocks_setRead (w.store.setState j.dst .ready) j.src false)
  have hown : (((w.store.setState j.dst .ready).setRead j.src false).entry j.dst).state = .ready := by
    rw [setRead_state, setState_own]
  refine h.next ⟨?_, h.1.single, nofun⟩ fun hlaw hs => ⟨hsame.blockLaw hlaw, nofun, fun hbal => ?_⟩
  · have hwritten : Uses (w.store.setState j.dst .ready).entry (s.recorder.map Recording.take) (s.bulk.map BulkWriting.take)
        none T (some j.src) := by
      refine Uses.edited (f := w.store.entry) (setState_ne _ _ _) h.1.uses (.inr ?_) ?_ ?_ <;> rw [setState_own]
    exact hwritten.unread (fun _ ho => entry_withEntry_ne _ ho _) (entry_withEntry_same ..)
  · have helse : w.store.Else ((w.store.setState j.dst .ready).setRead j.src false) j.dst :=
      (else_setState ..).trans ((sameBlocks_setRead _ j.src false).else fun o _ => setRead_state ..)
    refine hbal.of_else (s := s.copying j w) (u := copyDone j .ok w.written _) helse (fun he => ?_) (fun _ => ?_) nofun
      (fun r hr => .of_sameBlocks hsame (hbal.2.2.2.1 r hr)) (fun v hv => .of_sameBlocks hsame (hbal.2.2.2.2.1 v hv)) nofun
    · cases hown.symm.trans he
    · show leftOpen (((w.store.setState j.dst .ready).setRead j.src false).records j.dst) = {}
      rw [hsame.records, ← hclosed]
      exact (hbal.2.2.2.2.2 _ (copying_edit s j w)).1.symm

end

end Sys2Proof.Machine
end

section
/-! PROOFS. The laws of take use, of blocks and of balanced takes are kept by every step (chapters 8 to 10). -/

namespace Sys2Proof.Machine

open Sys2Proof.StepRows

section
variable {b c : Prop} {T : Option TakeId} {s : State}

/-! ### What the laws read -/

/-- The laws read the store, the writers but the recording's clock, and the edit command. -/
theorem Books.congr {u : State} (h : Books b c T s) (hstore : u.store = s.store)
    (htake : u.recorder.map Recording.take = s.recorder.map Recording.take)
    (hrec : ∀ r, u.recorder = some r → ∃ r', s.recorder = some r' ∧ r'.take = r.take ∧ r'.ctx = r.ctx)
    (hbulk : u.bulk = s.bulk) (hedit : u.edit = s.edit) : Books b c T u := by
  refine h.next ⟨?_, ?_, fun j hj => h.1.saved j (hedit ▸ hj)⟩ fun hlaw hsaved =>
    ⟨hstore ▸ hlaw, fun j hj => ?_, fun hbal => ?_⟩
  · rw [hstore, htake, hbulk, hedit]
    exact h.1.uses
  · rw [← Option.map_eq_none_iff (f := Recording.take), htake, Option.map_eq_none_iff, hbulk]
    exact h.1.single
  · rw [hstore]
    exact hsaved j (hedit ▸ hj)
  · obtain ⟨h1, h2, h3, h4, h5, h6⟩ := hbal
    refine ⟨?_, ?_, fun j hj => ?_, fun r hr => ?_, fun w hw => ?_, fun j hj => ?_⟩
    all_goals rw [hstore]
    · exact h1
    · exact h2
    · exact h3 j (hedit ▸ hj)
    · obtain ⟨r', hr', ht, hctx⟩ := hrec r hr
      rw [← ht, ← hctx]
      exact h4 r' hr'
    · exact h5 w (hbulk ▸ hw)
    · exact h6 j (hedit ▸ hj)

theorem Books.same {u : State} (h : Books b c T s) (hstore : u.store = s.store) (hrec : u.recorder = s.recorder)
    (hbulk : u.bulk = s.bulk) (hedit : u.edit = s.edit) : Books b c T u :=
  h.congr hstore (congrArg _ hrec) (fun r hr => ⟨r, hrec ▸ hr, rfl, rfl⟩) hbulk hedit

/-! ### The laws with the played take given, but for the Player's commands -/

theorem books_quiet : KeptByQuiet (Books b c T) :=
  .of_withLink (fun q h => h.same q.store q.recorder q.bulk q.edit) fun _ _ h => h.same rfl rfl rfl rfl

theorem books_recordGap : Keeps (Books b c T) recordGap := by
  intro s h
  unfold recordGap
  cases hr : s.recorder with
  | none => exact h
  | some r => exact books_recordBody h hr _ _

theorem books_overdueGaps (time : Nat) : Keeps (Books b c T) (recordOverdueGaps time) :=
  recordOverdueGaps_keeps books_recordGap time

theorem books_recorderEvent (ev : Event) : Keeps (Books b c T) (recorderEvent ev) := by
  intro s h
  unfold recorderEvent
  split
  · exact h
  · split
    · exact h
    · dsimp only
      have hgaps := fun time => books_overdueGaps time s h
      split
      · exact hgaps _
      · next hr =>
        split
        · exact hgaps _
        · exact books_recordBody (hgaps _) hr _ _

theorem books_events : KeptByEvents (Books b c T) where
  engine := engineEvent_keeps books_quiet fun _ _ h => h.same rfl rfl rfl rfl
  recorder := books_recorderEvent
  guide := guideEvent_keeps books_quiet (fun _ _ h => h.same rfl rfl rfl rfl) fun _ _ h => h.same rfl rfl rfl rfl
  offer := guideOffer_keeps books_quiet (fun _ _ h => h.same rfl rfl rfl rfl) (fun _ _ h => h.same rfl rfl rfl rfl)
    fun _ _ h => h.same rfl rfl rfl rfl

/-- A take that the checks of RECORD_START and TAKE_OPEN pass. -/
theorem idle_of_checks {e : TakeEntry} (hstate : e.state = .empty ∨ e.state = .ready)
    (h : ¬(e.played || e.read || e.underWriting) = true) :
    e.Idle := by
  simp only [Bool.or_eq_true, not_or, Bool.not_eq_true] at h
  exact ⟨hstate, h.1.1, h.1.2⟩

theorem UseLaw.idle_of_empty (h : UseLaw T s) {t : TakeId} (ht : (s.store.entry t).state = .empty) : (s.store.entry t).Idle := by
  refine ⟨.inl ht, h.unplayed_or ht, Bool.eq_false_iff.2 fun hread => ?_⟩
  cases ht.symm.trans ((h.uses t).ready (.inr hread))

/-- A check that refuses, or goes on with what it found. -/
theorem ite_cases {P : State → Prop} {p : Prop} [Decidable p] {x y : State} (hx : P x) (hy : ¬p → P y) :
    P (if p then x else y) := by
  split
  · exact hx
  · next h => exact hy h

/-- The state a destination must have, by the mode. -/
theorem empty_or_ready {x : TakeState} {app : Bool} (h : x = if app then .ready else .empty) : x = .empty ∨ x = .ready := by
  cases app
  · exact .inl h
  · exact .inr h

theorem not_underWriting {e : TakeEntry} (h : ¬e.underWriting = true) : e.state = .empty ∨ e.state = .ready := by
  rw [underWriting_iff] at h
  cases hs : e.state with
  | empty => exact .inl rfl
  | ready => exact .inr rfl
  | recording => exact absurd (.inl hs) h
  | writing => exact absurd (.inr (.inl hs)) h
  | editing => exact absurd (.inr (.inr hs)) h

theorem writers_none (h : ¬writerActive s = true) : s.recorder = none ∧ s.bulk = none := by
  rw [writerActive, Bool.or_eq_true, not_or, Option.isSome_iff_ne_none, Option.isSome_iff_ne_none, not_not, not_not] at h
  exact h

theorem books_takes : KeptByTakes (Books b c T) where
  gapExpiry := takeGapExpiry_keeps books_recordGap
  recordStart t m := by
    intro s h
    have answered := fun st => books_quiet.answer 0x30#8 st s h
    unfold cmdRecordStart
    dsimp only
    split
    · next t app _ _ =>
      split
      · exact answered _
      · next hactive =>
        obtain ⟨hrec, hbulk⟩ := writers_none hactive
        split
        · exact answered _
        · next hused =>
          refine ite_cases (answered _) fun hstate => ?_
          have hfree : (s.store.entry t).Idle := idle_of_checks (empty_or_ready (not_not.1 hstate)) hused
          exact books_quiet.answer _ _ _ (books_recordStarted h hfree hrec hbulk 0 _)
    · exact answered _
  recordStop := by
    intro s h
    unfold cmdRecordStop
    split
    · exact books_quiet.answer _ _ _ h
    · next r _ =>
      have hgaps := books_overdueGaps r.time s h
      dsimp only
      split
      · exact books_quiet.answer _ _ _ hgaps
      · next hr => exact books_recordEnded (books_quiet.answer 0x31#8 .ok _ hgaps) hr _ _
  takeErase t := by
    intro s h
    unfold cmdTakeErase
    dsimp only
    split
    · exact books_quiet.answer _ _ _ h
    · split
      · exact books_quiet.answer _ _ _ h
      · next hused =>
        have hwriting := hused
        simp only [Bool.or_eq_true, not_or] at hwriting
        split
        · exact books_quiet.answer _ _ _ h
        · exact books_quiet.answer _ _ _ (books_erased h (idle_of_checks (not_underWriting hwriting.2) hused))
  takeOpen t := by
    intro s h
    unfold cmdTakeOpen
    split
    · exact books_quiet.answer _ _ _ h
    · split
      · exact books_quiet.answer _ _ _ h
      · next hactive =>
        obtain ⟨hrec, hbulk⟩ := writers_none hactive
        split
        · exact books_quiet.answer _ _ _ h
        · next hstate =>
          exact books_quiet.answer _ _ _ (books_opened h (h.1.idle_of_empty (not_not.1 hstate)) hrec hbulk)
  takeWrite t n rs := by
    intro s h
    have answered := fun st => books_quiet.answer 0x35#8 st s h
    unfold cmdTakeWrite
    split
    · exact answered _
    · split
      · exact answered _
      · next w hw =>
        split
        · exact answered _
        · split
          · exact answered _
          · next hcheck =>
            split
            · next hroom =>
              exact books_quiet.answer _ _ _ (books_bulkWritten h hw hcheck (of_decide_eq_true hroom) _)
            · exact answered _
  takeClose t := by
    intro s h
    unfold cmdTakeClose
    split
    · exact books_quiet.answer _ _ _ h
    · next w hw =>
      split
      · exact books_quiet.answer _ _ _ h
      · exact books_quiet.answer _ _ _ (books_bulkClosed h hw _)

/-! ### The Edit Unit -/

theorem books_copyGo (h : Books b c T s) {j j' : CopyJob} (hj : s.edit = .copy j) (hsrc : j'.src = j.src) (hdst : j'.dst = j.dst)
    (hctx : j'.ctx = j.ctx) (hsaved : j'.saved = j.saved) {result : CopyResult}
    (hresult : ∀ P : CopyWork → Prop, (∀ time b w w', P w → copyWrite s j.dst time b w = .ok w' → P w') →
      P ⟨s.store, j.ctx, j'.written⟩ → CopyResult.Holds P result) : Books b c T (copyGo j' result s) := by
  have hstart : Books b c T (s.copying j' ⟨s.store, j.ctx, j'.written⟩) := by
    rw [← hctx]
    exact books_placed h hj hsrc hdst hctx hsaved
  have hall := hresult (fun w => Books b c T (s.copying j' w))
    (fun time body w w' hw hok => books_copyWrite hw (hdst ▸ hok)) hstart
  cases result with
  | ok w => exact hall
  | error w =>
    show Books b c T (copyRollback j' .full (s.withStore w.store))
    rw [copyRollback_eq]
    exact books_copyUndone hall (copying_edit s j' w) rfl rfl rfl .full

theorem books_copyStep (h : Books b c T s) {j : CopyJob} (hj : s.edit = .copy j) : Books b c T (copyStep j s) := by
  unfold copyStep
  split
  · unfold copyFirst
    exact books_copyGo h hj (by rfl) (by rfl) (by rfl) (by rfl) fun P hP hw => copyAll_holds (P := P) hP _ _ hw
  · split
    · unfold copyRead
      dsimp only
      split
      · exact books_copyGo h hj (by rfl) (by rfl) (by rfl) (by rfl) fun P _ hw => hw
      · exact books_copyGo h hj (by rfl) (by rfl) (by rfl) (by rfl) fun P hP hw => copyRecord_holds (P := P) hP _ _ hw
    · have hstart : Books b c T (s.copying j ⟨s.store, j.ctx, j.written⟩) := books_placed h hj rfl rfl rfl rfl
      have hall := copyAll_holds (P := fun w => Books b c T (s.copying j w)) (s := s) (dst := j.dst)
        (fun time body w w' hw hok => books_copyWrite hw hok) (j.base + (j.toMs - j.fromMs)) j.ctx.closing hstart
      unfold copyClose
      cases hr : copyAll s j.dst (j.base + (j.toMs - j.fromMs)) j.ctx.closing ⟨s.store, j.ctx, j.written⟩ with
      | error w =>
        rw [hr] at hall
        show Books b c T (copyRollback j .full (s.withStore w.store))
        rw [copyRollback_eq]
        exact books_copyUndone hall (copying_edit s j w) rfl rfl rfl .full
      | ok w =>
        rw [hr] at hall
        exact books_copyFinished hall ((copyAll_untimed hr).trans (closing_closes j.ctx))

theorem books_scaleStep (h : Books b c T s) {j : ScaleJob} (hj : s.edit = .scale j) : Books b c T (scaleStep j s) := by
  have hread := books_scaleRead h hj
  unfold scaleStep
  dsimp only
  split
  · exact books_scaleEnded h hj rfl .ok
  · split
    · exact books_scaleEnded hread (j := (scaleRead j s.store).2) rfl rfl .ok
    · exact hread

theorem books_searchStep (h : Books b c T s) {j : SearchJob} (hj : s.edit = .search j) : Books b c T (searchStep j s) := by
  unfold searchStep
  dsimp only
  split
  · exact books_searchEnded h hj ..
  · split
    · exact books_searchEnded h hj ..
    · split
      · exact books_searchEnded h hj ..
      · exact books_searching h hj rfl

theorem books_edit : KeptByEdit (Books b c T) where
  copyStep := by
    intro s h
    unfold takeCopyEvent
    split
    · next hj => exact books_copyStep h hj
    all_goals exact h
  searchStep := by
    intro s h
    unfold takeSearchEvent
    split
    · next hj => exact books_searchStep h hj
    all_goals exact h
  scaleStep := by
    intro s h
    unfold takeScaleEvent
    split
    · next hj => exact books_scaleStep h hj
    all_goals exact h
  takeCopy a f t d m := by
    intro s h
    have answered := fun st => books_quiet.answer 0x50#8 st s h
    unfold cmdTakeCopy
    split
    · next src dst app _ _ _ =>
      split
      · exact answered _
      · next hargs =>
        split
        · exact answered _
        · next hidle =>
          split
          · exact answered _
          · split
            · exact answered _
            · next hsrc =>
              split
              · exact answered _
              · split
                · exact answered _
                · next hused =>
                  refine ite_cases (answered _) fun hdst => ?_
                  simp only [Bool.or_eq_true, not_or, Bool.not_eq_true] at hused
                  exact books_quiet.answer _ _ _ (books_copyStarted h (not_not.1 hidle) (fun he => hargs (.inl he))
                    (not_not.1 hsrc) (empty_or_ready (not_not.1 hdst)) hused.1 _ _ _)
    · exact answered _
  takeSearch t i k lo hi vl vh := by
    intro s h
    have answered := fun st => books_quiet.answer 0x51#8 st s h
    unfold cmdTakeSearch
    split
    · exact answered _
    · split
      · exact answered _
      · split
        · exact answered _
        · next hidle =>
          split
          · exact answered _
          · next hused =>
            split
            · exact answered _
            · next hne =>
              exact books_quiet.answer _ _ _ (books_searchStarted h (not_not.1 hidle)
                ((not_underWriting hused).resolve_left hne) rfl)
  takeScale t f e lo hi q o := by
    intro s h
    have answered := fun st => books_quiet.answer 0x52#8 st s h
    unfold cmdTakeScale
    split
    · exact answered _
    · split
      · exact answered _
      · split
        · exact answered _
        · next hidle =>
          split
          · exact answered _
          · next hused =>
            split
            · exact answered _
            · next hne =>
              simp only [Bool.or_eq_true, not_or, Bool.not_eq_true] at hused
              exact books_quiet.answer _ _ _ (books_scaleStarted h (not_not.1 hidle)
                ((not_underWriting (Bool.eq_false_iff.1 hused.2)).resolve_left hne) hused.1 rfl)
  editAbort := by
    intro s h
    have answered := books_quiet.answer 0x53#8 .ok s h
    unfold cmdEditAbort
    split
    · exact books_quiet.answer _ _ _ h
    · next j hj =>
      rw [copyRollback_eq]
      exact books_copyUndone answered hj rfl rfl rfl _
    · next hj => exact books_searchEnded answered hj ..
    · next hj => exact books_scaleEnded answered hj rfl _

end

end Sys2Proof.Machine
end

section
/-! PROOFS. The laws of take use, of blocks and of balanced takes are kept by the Player and by every step (chapters 8 to
10). -/

namespace Sys2Proof.Machine

open Sys2Proof.StepRows

/-! ### The Player's take -/

/-- The Player's take is given, and the Player is STOPPED exactly without one. -/
def Sits (T : Option TakeId) (s : State) : Prop := s.player.take = T ∧ (s.player.state = .stopped ↔ T = none)

/-- The laws, and the Player with its take. -/
def Held (b c : Prop) (T : Option TakeId) (s : State) : Prop := Books b c T s ∧ Sits T s

def Kept (b c : Prop) (s : State) : Prop := ∃ T, Held b c T s

theorem keeps_and {P Q : State → Prop} {f : State → State} (hp : Keeps P f) (hq : Keeps Q f) :
    Keeps (fun s => P s ∧ Q s) f := fun s h => ⟨hp s h.1, hq s h.2⟩

section
variable {b c : Prop} {T : Option TakeId} {s : State}

theorem kept_of_held {f : State → State} (h : ∀ T, Keeps (Held b c T) f) : Keeps (Kept b c) f :=
  fun s ⟨T, hT⟩ => ⟨T, h T s hT⟩

/-- What changes neither the Player nor what the laws read. -/
theorem Held.same {u : State} (h : Held b c T s) (hstore : u.store = s.store) (hrec : u.recorder = s.recorder)
    (hbulk : u.bulk = s.bulk) (hedit : u.edit = s.edit) (hplayer : u.player = s.player) : Held b c T u := by
  refine ⟨h.1.same hstore hrec hbulk hedit, ?_⟩
  unfold Sits
  rw [hplayer]
  exact h.2

theorem Kept.same {u : State} (h : Kept b c s) (hstore : u.store = s.store) (hrec : u.recorder = s.recorder)
    (hbulk : u.bulk = s.bulk) (hedit : u.edit = s.edit) (hplayer : u.player = s.player) : Kept b c u := by
  obtain ⟨T, hT⟩ := h
  exact ⟨T, hT.same hstore hrec hbulk hedit hplayer⟩

/-- With a take, the Player may change in all but the take, as long as it does not stop. -/
theorem Held.withPlayer {t : TakeId} (h : Held b c (some t) s) {p : Player} (htake : p.take = some t)
    (hstate : p.state ≠ .stopped) : Held b c (some t) (s.withPlayer p) :=
  ⟨h.1.same rfl rfl rfl rfl, htake, iff_of_false hstate nofun⟩

theorem Held.exists_take (h : Held b c T s) (hstate : s.player.state ≠ .stopped) : ∃ t, T = some t :=
  Option.ne_none_iff_exists'.1 fun hnone => hstate (h.2.2.2 hnone)

theorem Held.running {t : TakeId} (h : Held b c (some t) s) : s.player.state ≠ .stopped :=
  fun hstop => nomatch h.2.2.1 hstop

theorem held_quiet : KeptByQuiet (Held b c T) := by
  refine .of_withLink (fun q h => ⟨books_quiet.quiet q h.1, ?_⟩) fun _ _ h => h.same rfl rfl rfl rfl rfl
  unfold Sits
  rw [q.take, q.playState]
  exact h.2

theorem sits_quiet : KeptByQuiet (Sits T) := by
  refine .of_withLink (fun q h => ?_) fun _ _ h => h
  unfold Sits
  rw [q.take, q.playState]
  exact h

theorem kept_quiet : KeptByQuiet (Kept b c) := by
  refine .of_withLink (fun q h => ?_) fun _ _ h => h.same rfl rfl rfl rfl rfl
  obtain ⟨T, hT⟩ := h
  exact ⟨T, held_quiet.quiet q hT⟩

/-! ### Events, takes and edit commands -/

theorem sits_releaseWait : Keeps (Sits T) releaseWait := by
  intro s h
  unfold releaseWait
  split
  · next hw => exact ⟨h.1, iff_of_false nofun fun hnone => nomatch hw.1.symm.trans (h.2.2 hnone)⟩
  · exact h

theorem held_releaseWait : Keeps (Held b c T) releaseWait :=
  keeps_and (releaseWait_keeps books_quiet fun _ _ h => h.same rfl rfl rfl rfl) sits_releaseWait

theorem sits_events : KeptByEvents (Sits T) where
  engine := engineEvent_keeps sits_quiet fun _ _ h => h
  recorder := recorderEvent_keeps sits_quiet (fun _ _ h => h) fun _ _ h => h
  guide := guideEvent_keeps sits_quiet (fun _ _ h => h) fun _ _ h => h
  offer k := by
    intro s h
    unfold guideOffer
    split
    · exact sits_releaseWait _ h
    · exact h

theorem held_events : KeptByEvents (Held b c T) where
  engine ev := keeps_and (books_events.engine ev) (sits_events.engine ev)
  recorder ev := keeps_and (books_events.recorder ev) (sits_events.recorder ev)
  guide ev := keeps_and (books_events.guide ev) (sits_events.guide ev)
  offer k := keeps_and (books_events.offer k) (sits_events.offer k)

theorem kept_events (k : EventKind) (stamp : W32) : Keeps (Kept b c) (routeEvent ⟨.live, stamp, k⟩) :=
  kept_of_held fun _ => held_events.route held_quiet _

theorem sits_takes : KeptByTakes (Sits T) := .of_withStore sits_quiet (fun _ _ h => h) (fun _ _ h => h) fun _ _ h => h

theorem sits_edit : KeptByEdit (Sits T) := .of_withEdit sits_quiet (fun _ _ h => h) fun _ _ h => h

theorem kept_of_parts {f : State → State} (hb : ∀ T, Keeps (Books b c T) f) (hs : ∀ T, Keeps (Sits T) f) :
    Keeps (Kept b c) f := kept_of_held fun T => keeps_and (hb T) (hs T)

theorem kept_takes : KeptByTakes (Kept b c) where
  gapExpiry := kept_of_parts (fun _ => books_takes.gapExpiry) fun _ => sits_takes.gapExpiry
  recordStart t m := kept_of_parts (fun _ => books_takes.recordStart t m) fun _ => sits_takes.recordStart t m
  recordStop := kept_of_parts (fun _ => books_takes.recordStop) fun _ => sits_takes.recordStop
  takeErase t := kept_of_parts (fun _ => books_takes.takeErase t) fun _ => sits_takes.takeErase t
  takeOpen t := kept_of_parts (fun _ => books_takes.takeOpen t) fun _ => sits_takes.takeOpen t
  takeWrite t n rs := kept_of_parts (fun _ => books_takes.takeWrite t n rs) fun _ => sits_takes.takeWrite t n rs
  takeClose t := kept_of_parts (fun _ => books_takes.takeClose t) fun _ => sits_takes.takeClose t

theorem kept_edit : KeptByEdit (Kept b c) where
  copyStep := kept_of_parts (fun _ => books_edit.copyStep) fun _ => sits_edit.copyStep
  searchStep := kept_of_parts (fun _ => books_edit.searchStep) fun _ => sits_edit.searchStep
  scaleStep := kept_of_parts (fun _ => books_edit.scaleStep) fun _ => sits_edit.scaleStep
  takeCopy a f t d m := kept_of_parts (fun _ => books_edit.takeCopy a f t d m) fun _ => sits_edit.takeCopy a f t d m
  takeSearch t i k lo hi vl vh :=
    kept_of_parts (fun _ => books_edit.takeSearch t i k lo hi vl vh) fun _ => sits_edit.takeSearch t i k lo hi vl vh
  takeScale t f e lo hi q o :=
    kept_of_parts (fun _ => books_edit.takeScale t f e lo hi q o) fun _ => sits_edit.takeScale t f e lo hi q o
  editAbort := kept_of_parts (fun _ => books_edit.editAbort) fun _ => sits_edit.editAbort

/-! ### The Player -/

theorem held_clearExpected : Keeps (Held b c T) clearExpected := fun _ h => h.same rfl rfl rfl rfl rfl

theorem held_clearRecent : Keeps (Held b c T) clearRecent := fun _ h => h.same rfl rfl rfl rfl rfl

theorem held_engineStop : Keeps (Held b c T) engineStop := fun _ h => h.same rfl rfl rfl rfl rfl

section
variable {t : TakeId}

theorem held_playback (ks : List EventKind) : Keeps (Held b c (some t)) (playbackEvents ks) :=
  held_events.playback held_quiet ks

theorem held_notice (t' : Option TakeId) (cause : PlayCause) : Keeps (Held b c T) (playerNotice t' cause) :=
  playerNotice_keeps held_quiet t' cause

theorem held_emitRecord (r : Record) : Keeps (Held b c (some t)) (emitRecord r) :=
  fun _ h => held_playback _ _ (h.withPlayer h.2.1 h.running)

theorem held_emitDue (due : Nat → Bool) : ∀ l, Keeps (Held b c (some t)) (emitDue due l)
  | [], _, h => h
  | (at', r) :: rest, s, h => by
    have he := held_emitRecord r s h
    unfold emitDue
    split
    · dsimp only
      split
      · exact held_notice _ _ _ (he.withPlayer he.2.1 nofun)
      · exact held_emitDue due rest _ he
    · exact h

theorem held_closePlayer : Keeps (Held b c (some t)) closePlayer :=
  fun _ h => held_playback _ _ (h.withPlayer h.2.1 h.running)

theorem held_reposition (time : Nat) (target : Pedals3) : Keeps (Held b c (some t)) (reposition time target) :=
  fun _ h => held_playback _ _ (h.withPlayer h.2.1 h.running)

theorem held_loopJump (a : Nat) : Keeps (Held b c (some t)) (loopJump a) := by
  intro s h
  have hr := held_reposition a s.player.snapshot s h
  exact held_emitDue _ _ _ (reportMarkers_keeps held_quiet _ _ (held_clearExpected _
    (held_quiet.raise _ _ (hr.withPlayer hr.2.1 hr.running))))

theorem held_tickEmission : Keeps (Held b c (some t)) tickEmission :=
  fun _ h => held_emitDue _ _ _ (reportMarkers_keeps held_quiet _ _ (h.withPlayer h.2.1 h.running))

theorem held_pausePlayer : Keeps (Held b c (some t)) pausePlayer := by
  intro s h
  have hq : Held b c (some t) (clearExpected (engineStop (closePlayer s))) :=
    held_clearExpected _ (held_engineStop _ (held_closePlayer s h))
  exact held_notice _ _ _ (hq.withPlayer hq.2.1 nofun)

theorem held_resumePlayer : Keeps (Held b c (some t)) resumePlayer := by
  intro s h
  have hq := held_playback s.player.takePedals.chase _
    (h.withPlayer (p := { s.player with emitted := s.player.takePedals }) h.2.1 h.running)
  exact held_notice _ _ _ (hq.withPlayer hq.2.1 nofun)

theorem held_locatePlaying (time : Nat) : Keeps (Held b c (some t)) (locatePlaying time) := by
  intro s h
  have hq := held_clearExpected _ (held_reposition time (playedScan time s) s h)
  exact held_notice _ _ _ (reportMarkers_keeps held_quiet _ _ (hq.withPlayer hq.2.1 nofun))

theorem held_locatePaused (time : Nat) : Keeps (Held b c (some t)) (locatePaused time) :=
  fun _ h => held_notice _ _ _ (held_clearExpected _ (h.withPlayer h.2.1 h.running))

/-- A stop gives the take back. -/
theorem held_stopPlayer (cause : PlayCause) (h : Held b c (some t) s) : Held b c none (stopPlayer cause s) := by
  have hq : Held b c (some t) (clearRecent (clearExpected (engineStop (closePlayer s)))) :=
    held_clearRecent _ (held_clearExpected _ (held_engineStop _ (held_closePlayer s h)))
  unfold stopPlayer
  rw [h.2.1]
  exact held_notice _ _ _ ⟨(books_clearPlayed hq.1).same rfl rfl rfl rfl, rfl, iff_of_true rfl rfl⟩

/-- A start takes a READY take. -/
theorem held_startPlayer (start : Nat) (h : Held b c none s) (ht : (s.store.entry t).state = .ready) :
    Held b c (some t) (startPlayer t start s) := by
  unfold startPlayer
  exact held_notice _ _ _ (reportMarkers_keeps held_quiet _ _ (held_playback _ _
    ⟨(books_played h.1 ht).same rfl rfl rfl rfl, rfl, iff_of_false nofun nofun⟩))

end

theorem held_tickEnd {t : TakeId} (h : Held b c (some t) s) : Kept b c (tickEnd s) := by
  unfold tickEnd
  split
  · exact ⟨_, held_loopJump _ _ h⟩
  · split
    · exact ⟨_, held_stopPlayer .ended h⟩
    · exact ⟨_, h⟩

theorem Kept.exists_take (h : Kept b c s) (hstate : s.player.state ≠ .stopped) : ∃ t, Held b c (some t) s := by
  obtain ⟨T, hT⟩ := h
  obtain ⟨t, rfl⟩ := hT.exists_take hstate
  exact ⟨t, hT⟩

theorem Kept.stopped (h : Kept b c s) (hstate : s.player.state = .stopped) : Held b c none s := by
  obtain ⟨T, hT⟩ := h
  exact hT.2.2.1 hstate ▸ hT

theorem kept_player : KeptByPlayer (Kept b c) where
  tick := by
    intro s h
    unfold takePlayerTick
    split
    · next hplay =>
      obtain ⟨t, ht⟩ := h.exists_take fun hstop => nomatch hplay.symm.trans hstop
      exact held_tickEnd (held_tickEmission s ht)
    · exact h
  play x ms := by
    intro s h
    have answered := fun st => kept_quiet.answer 0x40#8 st s h
    unfold cmdPlay
    dsimp only
    split
    · exact answered _
    · split
      · exact answered _
      · next hstopped =>
        split
        · exact answered _
        · split
          · exact answered _
          · next hready =>
            split
            · exact answered _
            · exact kept_quiet.answer _ _ _ ⟨_, held_startPlayer _ (h.stopped (not_not.1 hstopped)) (not_not.1 hready)⟩
  stop := by
    intro s h
    unfold cmdStop
    split
    · exact kept_quiet.answer _ _ _ h
    · next hne =>
      obtain ⟨t, ht⟩ := h.exists_take hne
      exact kept_quiet.answer _ _ _ ⟨_, held_stopPlayer .stop ht⟩
  pause := by
    intro s h
    have paused (hne : s.player.state ≠ .stopped) : Kept b c (answer 0x42#8 .ok (pausePlayer s)) := by
      obtain ⟨t, ht⟩ := h.exists_take hne
      exact kept_quiet.answer _ _ _ ⟨_, held_pausePlayer s ht⟩
    unfold cmdPause
    split
    · exact kept_quiet.answer _ _ _ h
    · exact kept_quiet.answer _ _ _ h
    · next hst => exact paused fun hstop => nomatch hst.symm.trans hstop
    · next hst => exact paused fun hstop => nomatch hst.symm.trans hstop
  resume := by
    intro s h
    unfold cmdResume
    split
    · next hst =>
      obtain ⟨t, ht⟩ := h.exists_take fun hstop => nomatch hst.symm.trans hstop
      exact kept_quiet.answer _ _ _ ⟨_, held_resumePlayer s ht⟩
    · exact kept_quiet.answer _ _ _ h
  locate x := by
    intro s h
    have answered := fun st => kept_quiet.answer 0x44#8 st s h
    have located {f : State → State} (hf : ∀ t, Keeps (Held b c (some t)) f) (hne : s.player.state ≠ .stopped) :
        Kept b c (answer 0x44#8 .ok (f s)) := by
      obtain ⟨t, ht⟩ := h.exists_take hne
      exact kept_quiet.answer _ _ _ ⟨_, hf t s ht⟩
    unfold cmdLocate
    split
    · exact answered _
    · next hst =>
      exact ite_cases (answered _) fun _ =>
        located (fun _ => held_locatePlaying _) fun hstop => nomatch hst.symm.trans hstop
    · next hst =>
      exact ite_cases (answered _) fun _ =>
        located (fun _ => held_locatePlaying _) fun hstop => nomatch hst.symm.trans hstop
    · next hst =>
      exact ite_cases (answered _) fun _ =>
        located (fun _ => held_locatePaused _) fun hstop => nomatch hst.symm.trans hstop
  setGuide w g := by
    intro s h
    unfold cmdSetGuide
    dsimp only
    split
    · exact kept_quiet.answer _ _ _ h
    · split
      · exact kept_quiet.answer _ _ _ h
      · refine kept_quiet.answer _ _ _ ?_
        split
        · exact h.same rfl rfl rfl rfl rfl
        · exact kept_of_held (fun _ => held_releaseWait) _ (h.same rfl rfl rfl rfl rfl)
  guideSkip _ h := kept_quiet.answer _ _ _ (kept_of_held (fun _ => held_releaseWait) _ (h.same rfl rfl rfl rfl rfl))

/-! ### Every step -/

/-- As time passes, of what the laws read only the recording's clock moves. -/
theorem kept_advance (n : Nat) : Keeps (Kept b c) (advance n) := by
  intro s h
  obtain ⟨T, hT⟩ := h
  refine ⟨T, hT.1.congr rfl ?_ (fun r hr => ?_) rfl rfl, hT.2⟩
  · show (s.recorder.map _).map _ = _
    rw [Option.map_map]
    rfl
  · obtain ⟨r', hr', rfl⟩ := Option.map_eq_some_iff.1 hr
    exact ⟨r', hr', rfl, rfl⟩

theorem kept_reset (cause : ResetCause) (s : State) : Kept b c (wholeReset cause s) := by
  obtain ⟨huse, hstop⟩ := (takeLaw_iff _).1 reset_takeLaw
  refine Kept.same (s := State.reset) ⟨none, ⟨huse, fun _ =>
    ⟨reset_blockLaw, (fun j hj => nomatch hj), fun _ => reset_balanceLaw⟩⟩,
    rfl, hstop⟩ rfl rfl rfl rfl rfl

theorem keptByRows_kept : KeptByRows (Kept b c) where
  base := kept_quiet
  keys := .of_withKeys kept_quiet (fun _ _ h => h.same rfl rfl rfl rfl rfl) kept_events
    (fun _ _ h => h.same rfl rfl rfl rfl rfl)
    (noteKeyboard_keeps kept_quiet fun _ _ h => h.same rfl rfl rfl rfl rfl) kept_advance
  rail := .of_withRail kept_quiet fun _ _ h => h.same rfl rfl rfl rfl rfl
  voices := .of_withEngine kept_quiet (fun _ _ h => h.same rfl rfl rfl rfl rfl) fun _ _ h => h.same rfl rfl rfl rfl rfl
  takes := kept_takes
  player := kept_player
  edit := kept_edit
  await := fun _ h => h.same rfl rfl rfl rfl rfl
  classes := fun _ _ h => h.same rfl rfl rfl rfl rfl
  events := kept_events
  time := ⟨kept_advance, fun cause s _ => kept_reset cause s,
    endInitialization_keeps kept_quiet (fun _ _ h => h.same rfl rfl rfl rfl rfl)
      (fun _ _ h => h.same rfl rfl rfl rfl rfl) fun _ h => h.same rfl rfl rfl rfl rfl,
    fun _ _ h => h.same rfl rfl rfl rfl rfl⟩
  link := .of_withLink fun _ _ h => h.same rfl rfl rfl rfl rfl
  settle := takeSettle_keeps kept_quiet fun _ _ h => h.same rfl rfl rfl rfl rfl

theorem kept_iff : Kept b c s ↔
    TakeLaw s ∧ (b → s.store.BlockLaw ∧ SavedLaw s ∧ (c → BalanceLaw s)) := by
  rw [takeLaw_iff]
  constructor
  · rintro ⟨T, ⟨huse, hbooks⟩, rfl, hstop⟩
    exact ⟨⟨huse, hstop⟩, hbooks⟩
  · rintro ⟨⟨huse, hstop⟩, hbooks⟩
    exact ⟨_, ⟨huse, hbooks⟩, rfl, hstop⟩

end

/-- Settles O54: the three laws go together through every row, the law of take use alone or with the others. -/
theorem stepsKeepTheLawOfTakeUse : Obligations.StepsKeepTheLawOfTakeUse := by
  intro s t hlaw ht
  have along {b c : Prop} (h : b → s.store.BlockLaw ∧ SavedLaw s ∧ (c → BalanceLaw s)) :=
    kept_iff.1 (keptByRows_kept.step ht (kept_iff.2 ⟨hlaw, h⟩))
  refine ⟨(along (b := False) (c := False) nofun).1, fun hblocks hsaved => ?_⟩
  obtain ⟨hblocks', hsaved', -⟩ := (along (b := True) (c := False) fun _ => ⟨hblocks, hsaved, nofun⟩).2 trivial
  exact ⟨hblocks', hsaved', fun hbal =>
    ((along (b := True) (c := True) fun _ => ⟨hblocks, hsaved, fun _ => hbal⟩).2 trivial).2.2 trivial⟩

end Sys2Proof.Machine
end
